-- ==== Sys2Proof/Config.lean ====
section
/-! DEFINITION. The fixed numbers of the part, and the values the spec leaves open (free values). A free
value is an opaque constant: nothing in Lean can evaluate it, so no statement can rest on one. -/

namespace Sys2Proof.Config

/-- Pixels of a line (R6). -/
def lineWidth : Nat := 3840
/-- Active lines of a frame (R5, R10). -/
def frameRows : Nat := 2160
/-- Line places of the line store (R8). -/
def linePlaces : Nat := 320
/-- Line times from an input frame start to its output frame start (R10, R11). -/
def latency : Nat := 160
/-- Pixels of a frame, the divisor of the APL (R49). -/
def framePixels : Nat := 8294400
/-- The smallest displacement a VALID slot holds (R34). -/
def minDisplacement : Int := -2544
/-- The largest displacement a VALID slot holds (R34). -/
def maxDisplacement : Int := 2559
/-- The largest light level, and the released value of a limiter (R52, R56). -/
def fullLevel : Nat := 4095
/-- The derate step (R99). -/
def derateStep : Nat := 64
/-- The derate floor (R99). -/
def derateFloor : Nat := 1024
/-- The largest fan duty (R103). -/
def fullDuty : Nat := 1023
/-- The largest integrator accumulator (R96). -/
def maxAccumulator : Nat := 261888
/-- The band, in sixteenth-degrees, of recovery (R100) and of CLEAR_TRIP (R123). -/
def coolBand : Int := 32
/-- The release band of the trip comparator, in codes (R86). -/
def comparatorBand : Nat := 64
/-- The run-on time in milliseconds (R116). -/
def runOnLimit : Nat := 60000
/-- The kick time in milliseconds (R107). -/
def kickTime : Nat := 400
/-- The stall time in milliseconds (R109). -/
def stallTime : Nat := 1000
/-- The pause time in milliseconds (R110). -/
def pauseTime : Nat := 2000
/-- The retry-clear time in milliseconds (R108). -/
def retryClearTime : Nat := 10000
/-- The rail wait time in milliseconds (R151). -/
def railWaitTime : Nat := 10000
/-- Half a bit of the sensor bus in microseconds (R73). -/
def sbHalfBit : Nat := 5
/-- The transaction's stretch allowance in microseconds (R77). -/
def stretchLimit : Nat := 15000
/-- The longest interval between two tach edges that is measured, in microseconds (R114). -/
def tachWindow : Nat := 1000000
/-- The largest measured speed, in rpm (R103). -/
def maxSpeed : Nat := 60000000
/-- Silence ticks to the expiry of the silence counter (R124). -/
def silenceLimit : Nat := 4
/-- Packets taken in one blanking (R167). -/
def maxPackets : Nat := 16
/-- Where the count of lines ignored stops (R167). -/
def maxIgnored : Nat := 255
/-- Records the request queue holds, and entries the motion history holds (R151). -/
def queueRoom : Nat := 8

/-- FREE VALUE: the speed measured at a tach edge whose interval to the edge before it is 0 µs: R114's
quotient has the divisor 0 there, and no rule gives a result. Applied to the model's counter
`State.freeCount`, so that no two such edges need measure the same (notes/assumptions/9.md). -/
opaque freeSpeed : Nat → Nat

/-- FREE VALUE: which course of R74 a sensor-bus transaction was on when it was cut off. No row of the table tells, and no
rule says how far a transaction comes before it ends TIMEOUT, STRETCH or BUS_ERROR or a reset abandons it. Applied to the
model's counter `State.freeCount` (notes/assumptions/8.md). -/
opaque cutCourse : Nat → Nat

/-- FREE VALUE: the data bytes and the PEC byte that such a transaction had received or was to receive
(notes/assumptions/8.md). -/
opaque cutData : Nat → BitVec 24

/-- FREE VALUE: how far along its course the transaction, or the recovery, had come (notes/assumptions/8.md). -/
opaque cutPoint : Nat → Nat

/-- FREE VALUE: the table byte of a READ_SOURCE answer for a poll entry's source. R68 reports a table for
C0 to C3 only, and R182 gives the byte a place in every answer. Applied to the model's counter
`State.freeCount` (notes/assumptions/10.md). -/
opaque sourceTableByte : Nat → BitVec 8

/-- FREE VALUE: the count r of page 3 of a READ_AXIS answer for an axis with no leg and no homing allowance.
R183 gives the count a place in every answer and no value for it there (notes/assumptions/10.md). -/
opaque absentCount : Nat → BitVec 16

/-- FREE VALUE: the plan target of page 3 of a READ_AXIS answer for an axis with no move plan
(notes/assumptions/10.md). -/
opaque absentTarget : Nat → BitVec 16

end Sys2Proof.Config
end

