-- ==== Sys2Proof/Word.lean ====
section
/-! DEFINITION. The words that cross the link: packet bytes (R178, R179) and the 10-bit component words
of the video lanes (R3, R179). -/

namespace Sys2Proof

/-- One byte of a control packet, an answer entry or a frame answer (chapter 10). -/
abbrev Byte := BitVec 8

/-- One component word of the video lanes: a pixel component, or a word of a blanking line (R179). -/
abbrev LaneWord := BitVec 10

end Sys2Proof
end

