-- ==== Sys2Proof/Syntax.lean ====
section
/-! DEFINITION. The commands of the 7420: one constructor of `Instr` per row of spec/opcode_table.json, in
the table's order. The first 36 are events on the part's pins, lanes, timers and timebases; the rest are
the control packets' commands, whose operands are the fields of R182 as the packet carries them (each at
its width in the packet, so that a field can carry a value its command refuses, R178). -/

namespace Sys2Proof

/-- A pixel of three 10-bit components (R3). -/
structure Pixel where
  r : LaneWord
  g : LaneWord
  b : LaneWord
  deriving DecidableEq, Repr

/-- A thermistor channel, on the pins TH0 to TH3. -/
inductive Channel where
  | c0 | c1 | c2 | c3
  deriving DecidableEq, Repr

/-- A fan, with its FAN_PWM output and its FAN_TACH input (R103). -/
inductive FanId where
  | f0 | f1 | f2
  deriving DecidableEq, Repr

/-- An end-stop input: END_HL, END_HH, END_VL, END_VH (R135). -/
inductive EndStop where
  | hl | hh | vl | vh
  deriving DecidableEq, Repr

/-- How a sensor-bus transaction that ran to its stop went on the wires (R74): the target declined the
write byte (or, where `atRead`, the read byte), declined the register index, or sent its two data bytes (and,
where the entry's PEC is enabled, the PEC byte; the third byte is not looked at otherwise, R76). -/
inductive SbEnd where
  | nackAddr (atRead : Bool)
  | nackData
  | data (hi lo pec : Byte)
  deriving DecidableEq, Repr

/-- The level that a thermistor pin goes to, as the code the trip comparator sees it as (R86). -/
structure PinLevel where
  ch : Channel
  code : BitVec 12
  deriving DecidableEq, Repr

/-- An edge of a FAN_TACH input: a rise or a fall, and the microseconds since the selected edge that is held
(R114). -/
structure TachEdge where
  rise : Bool
  micros : Nat
  deriving DecidableEq, Repr

/-- A grid point as a packet carries it: two 20-bit two's complement fields (R181). -/
structure RawPoint where
  x : BitVec 20
  y : BitVec 20
  deriving DecidableEq, Repr

/-- The commands, one per row of spec/opcode_table.json. -/
inductive Instr where
  -- the video link and the return lane
  | inputActiveLine (pixels : List Pixel)
  | controlLine (pixels : List Pixel)
  | plainBlankingLine
  | outputLine
  | outputFrameStart
  | linkLockLost
  | linkLockRegained
  | answerSent
  -- resets and the control tick
  | resetNAsserted
  | resetNReleased
  | controlTick
  | runOnElapsedLimit
  -- temperature sources
  | thermistorConversionDone (ch : Channel) (code : BitVec 12)
  | sbTransactionEnd (e : SbEnd)
  | sbStretchLimit (micros : Nat)
  | sbClockTimeout
  | sbBusError
  | sbRecoveryDone
  | sbRecoveryAbandoned
  | comparatorTrip (level : PinLevel)
  | comparatorRelease (level : PinLevel)
  -- light and fans
  | rampTick
  | lightPwmPeriodBoundary
  | fanPwmPeriodBoundary (fan : FanId)
  | kickTimerExpiry (fan : FanId)
  | stallTimerExpiry (fan : FanId)
  | pauseTimerExpiry (fan : FanId)
  | retryClearTimerExpiry (fan : FanId)
  | tachEdge (fan : FanId) (edge : TachEdge)
  | tachTimeout (fan : FanId)
  -- lens and link supervision
  | profileTick
  | endstopEdge (e : EndStop)
  | endstopInactive (e : EndStop)
  | railWaitTimeout
  | silenceTick
  | silenceExpiry
  -- grid store
  | writeGrid (tag slot first count : Byte) (points : List RawPoint)
  | commitGrid (tag slot : Byte)
  | eraseGrid (tag slot : Byte)
  | selectGrid (tag slot : Byte)
  | readGrid (tag slot index : Byte)
  | gridInfo (tag slot : Byte)
  -- light drive
  | setLight (tag : Byte) (level : BitVec 16)
  | setLightRamp (tag : Byte) (rampStep blankLevel : BitVec 16)
  | readLight (tag : Byte) (page : Fin 3)
  -- temperature sources
  | writePoll (tag entry enable address register fraction pec : Byte)
  | readPoll (tag entry : Byte)
  | assignSource (tag source zone : Byte)
  | readSource (tag source : Byte)
  | writeChannel (tag channel table : Byte)
  | writeThermistorTableFirst (tag table : Byte) (values : List (BitVec 16))
  | writeThermistorTableSecond (tag table : Byte) (values : List (BitVec 16))
  | readThermistorTable (tag table entry : Byte)
  | setTripComparator (tag channel : Byte) (threshold : BitVec 16)
  | readTripComparator (tag : Byte)
  -- zone controller and fan drivers
  | writeZone (tag zone : Byte) (setpoint derate trip runOn guard kp : BitVec 16) (ki : Byte) (kff : BitVec 16) (basis mask : Byte)
  | readZone (tag zone : Byte) (page : Fin 4)
  | setThermalLimits (tag : Byte) (blindCap lossCap : BitVec 16)
  | writeFan (tag fan : Byte) (minDuty : BitVec 16) (mayStop : Byte) (quiet standard high : BitVec 16) (current edges edgeSel : Byte)
  | clearFan (tag fan : Byte)
  | readFan (tag fan : Byte) (page : Fin 4)
  -- state controller
  | lightOn (tag : Byte)
  | lightOff (tag : Byte)
  | clearTrip (tag : Byte)
  | setInstall (tag orientation acoustic : Byte) (budget : BitVec 16)
  | readState (tag : Byte)
  | engineReset (tag : Byte)
  -- lens axes
  | writeAxis (tag axis : Byte) (limit vmax vstart : BitVec 16) (accel : Byte) (homeVel backlash : BitVec 16) (current approach endstops : Byte)
  | readAxis (tag axis : Byte) (page : Fin 4)
  -- motion queue
  | moveAxis (tag axis : Byte) (target : BitVec 16)
  | stepAxis (tag axis : Byte) (delta : BitVec 24)
  | home (tag selection : Byte)
  | recallPreset (tag preset : Byte)
  | stopMotion (tag : Byte)
  | storePreset (tag preset mode : Byte) (hTarget vTarget : BitVec 16) (slot blank : Byte)
  | erasePreset (tag preset : Byte)
  | readPreset (tag preset : Byte)
  | readMotion (tag index : Byte) (page : Fin 2)
  -- control channel
  | ackEvents (tag : Byte) (events : BitVec 16)
  | setEventEnable (tag : Byte) (events : BitVec 16)
  | readStatus (tag : Byte) (page : Fin 3)
  deriving DecidableEq, Repr

end Sys2Proof
end

