-- ==== Sys2Proof/Decode.lean ====
section
/-! DEFINITION. Reading and writing control packets (R168, R169, R178, R179, R181, R182): from the words of a
control line to the command it carries, total and rejecting by name, and back. No row of
spec/opcode_table.json gives bits, so `decodeTableWord` reads none. -/

namespace Sys2Proof

/-- The command that a word spells by the bits spec/opcode_table.json gives: no row of it gives any. -/
def decodeTableWord (_nbits _w : Nat) : Option Instr := none

/-! ### CRC-16 (R168) -/

/-- One bit taken into the CRC. -/
def crc16Bit (crc : BitVec 16) (bit : Bool) : BitVec 16 :=
  if Bool.xor crc.msb bit then (crc <<< 1) ^^^ 0x1021#16 else crc <<< 1

/-- One byte taken into the CRC, most significant bit first. -/
def crc16Byte (crc : BitVec 16) (b : Byte) : BitVec 16 :=
  [7, 6, 5, 4, 3, 2, 1, 0].foldl (fun c i => crc16Bit c (b.getLsbD i)) crc

/-- The CRC-16 over some bytes, from the initial value FFFFh. -/
def crc16 (bytes : List Byte) : BitVec 16 := bytes.foldl crc16Byte 0xFFFF#16

/-! ### Fields (R178, R181) -/

/-- The two bytes of a field, high byte first. -/
def wordBytes (w : BitVec 16) : List Byte := [w.extractLsb' 8 8, w.extractLsb' 0 8]

/-- The byte at a place of the payload. -/
def byteAt (p : List Byte) (k : Nat) : Byte := p.getD k 0

/-- The two-byte field at a place of the payload. -/
def wordAt (p : List Byte) (k : Nat) : BitVec 16 := byteAt p k ++ byteAt p (k + 1)

/-- The two-byte fields that a run of bytes holds. -/
def wordsOf : List Byte → List (BitVec 16)
  | a :: b :: rest => (a ++ b) :: wordsOf rest
  | _ => []

/-- A grid point's five bytes: X in the high 20 bits, Y in the low 20 (R181). -/
def pointBytes (q : RawPoint) : List Byte :=
  let n : BitVec 40 := q.x ++ q.y
  [n.extractLsb' 32 8, n.extractLsb' 24 8, n.extractLsb' 16 8, n.extractLsb' 8 8, n.extractLsb' 0 8]

/-- The grid points that a run of bytes holds. -/
def pointsOf : List Byte → List RawPoint
  | a :: b :: c :: d :: e :: rest =>
    let n : BitVec 40 := a ++ b ++ c ++ d ++ e
    ⟨n.extractLsb' 20 20, n.extractLsb' 0 20⟩ :: pointsOf rest
  | _ => []

/-! ### Command codes (R182) -/

/-- The payload length a code requires, or none for a code that is not assigned. For WRITE_GRID it is formed
from the count the packet carries, its third payload byte (R169, R182). -/
def requiredLength (code : Nat) (p : List Byte) : Option Nat :=
  match code with
  | 0x01 => some (3 + 5 * (byteAt p 2).toNat)
  | 0x02 | 0x03 | 0x04 | 0x06 => some 1
  | 0x05 => some 2
  | 0x10 => some 2
  | 0x11 => some 4
  | 0x12 | 0x13 | 0x14 => some 0
  | 0x20 => some 6
  | 0x21 | 0x23 => some 1
  | 0x22 | 0x24 | 0x27 => some 2
  | 0x25 => some 19
  | 0x26 => some 17
  | 0x28 => some 3
  | 0x29 => some 0
  | 0x30 => some 18
  | 0x31 | 0x32 | 0x33 | 0x34 => some 1
  | 0x35 => some 4
  | 0x38 => some 13
  | 0x39 | 0x3A | 0x3B | 0x3C | 0x3D => some 1
  | 0x40 | 0x41 | 0x42 | 0x44 | 0x4F => some 0
  | 0x43 => some 4
  | 0x50 => some 15
  | 0x51 | 0x52 | 0x53 | 0x54 => some 1
  | 0x60 => some 3
  | 0x61 => some 4
  | 0x62 | 0x63 => some 1
  | 0x64 => some 0
  | 0x65 => some 8
  | 0x66 | 0x67 | 0x68 | 0x69 => some 1
  | 0x70 | 0x71 => some 2
  | 0x72 | 0x73 | 0x74 => some 0
  | _ => none

/-- The command of an assigned code with a payload of the required length. -/
def readCommand (tag : Byte) (code : Nat) (p : List Byte) : Option Instr :=
  match code with
  | 0x01 => some (.writeGrid tag (byteAt p 0) (byteAt p 1) (byteAt p 2) (pointsOf (p.drop 3)))
  | 0x02 => some (.commitGrid tag (byteAt p 0))
  | 0x03 => some (.eraseGrid tag (byteAt p 0))
  | 0x04 => some (.selectGrid tag (byteAt p 0))
  | 0x05 => some (.readGrid tag (byteAt p 0) (byteAt p 1))
  | 0x06 => some (.gridInfo tag (byteAt p 0))
  | 0x10 => some (.setLight tag (wordAt p 0))
  | 0x11 => some (.setLightRamp tag (wordAt p 0) (wordAt p 2))
  | 0x12 => some (.readLight tag 0)
  | 0x13 => some (.readLight tag 1)
  | 0x14 => some (.readLight tag 2)
  | 0x20 => some (.writePoll tag (byteAt p 0) (byteAt p 1) (byteAt p 2) (byteAt p 3) (byteAt p 4) (byteAt p 5))
  | 0x21 => some (.readPoll tag (byteAt p 0))
  | 0x22 => some (.assignSource tag (byteAt p 0) (byteAt p 1))
  | 0x23 => some (.readSource tag (byteAt p 0))
  | 0x24 => some (.writeChannel tag (byteAt p 0) (byteAt p 1))
  | 0x25 => some (.writeThermistorTableFirst tag (byteAt p 0) (wordsOf (p.drop 1)))
  | 0x26 => some (.writeThermistorTableSecond tag (byteAt p 0) (wordsOf (p.drop 1)))
  | 0x27 => some (.readThermistorTable tag (byteAt p 0) (byteAt p 1))
  | 0x28 => some (.setTripComparator tag (byteAt p 0) (wordAt p 1))
  | 0x29 => some (.readTripComparator tag)
  | 0x30 => some (.writeZone tag (byteAt p 0) (wordAt p 1) (wordAt p 3) (wordAt p 5) (wordAt p 7) (wordAt p 9) (wordAt p 11)
      (byteAt p 13) (wordAt p 14) (byteAt p 16) (byteAt p 17))
  | 0x31 => some (.readZone tag (byteAt p 0) 0)
  | 0x32 => some (.readZone tag (byteAt p 0) 1)
  | 0x33 => some (.readZone tag (byteAt p 0) 2)
  | 0x34 => some (.readZone tag (byteAt p 0) 3)
  | 0x35 => some (.setThermalLimits tag (wordAt p 0) (wordAt p 2))
  | 0x38 => some (.writeFan tag (byteAt p 0) (wordAt p 1) (byteAt p 3) (wordAt p 4) (wordAt p 6) (wordAt p 8) (byteAt p 10)
      (byteAt p 11) (byteAt p 12))
  | 0x39 => some (.clearFan tag (byteAt p 0))
  | 0x3A => some (.readFan tag (byteAt p 0) 0)
  | 0x3B => some (.readFan tag (byteAt p 0) 1)
  | 0x3C => some (.readFan tag (byteAt p 0) 2)
  | 0x3D => some (.readFan tag (byteAt p 0) 3)
  | 0x40 => some (.lightOn tag)
  | 0x41 => some (.lightOff tag)
  | 0x42 => some (.clearTrip tag)
  | 0x43 => some (.setInstall tag (byteAt p 0) (byteAt p 1) (wordAt p 2))
  | 0x44 => some (.readState tag)
  | 0x4F => some (.engineReset tag)
  | 0x50 => some (.writeAxis tag (byteAt p 0) (wordAt p 1) (wordAt p 3) (wordAt p 5) (byteAt p 7) (wordAt p 8) (wordAt p 10)
      (byteAt p 12) (byteAt p 13) (byteAt p 14))
  | 0x51 => some (.readAxis tag (byteAt p 0) 0)
  | 0x52 => some (.readAxis tag (byteAt p 0) 1)
  | 0x53 => some (.readAxis tag (byteAt p 0) 2)
  | 0x54 => some (.readAxis tag (byteAt p 0) 3)
  | 0x60 => some (.moveAxis tag (byteAt p 0) (wordAt p 1))
  | 0x61 => some (.stepAxis tag (byteAt p 0) (byteAt p 1 ++ byteAt p 2 ++ byteAt p 3))
  | 0x62 => some (.home tag (byteAt p 0))
  | 0x63 => some (.recallPreset tag (byteAt p 0))
  | 0x64 => some (.stopMotion tag)
  | 0x65 => some (.storePreset tag (byteAt p 0) (byteAt p 1) (wordAt p 2) (wordAt p 4) (byteAt p 6) (byteAt p 7))
  | 0x66 => some (.erasePreset tag (byteAt p 0))
  | 0x67 => some (.readPreset tag (byteAt p 0))
  | 0x68 => some (.readMotion tag (byteAt p 0) 0)
  | 0x69 => some (.readMotion tag (byteAt p 0) 1)
  | 0x70 => some (.ackEvents tag (wordAt p 0))
  | 0x71 => some (.setEventEnable tag (wordAt p 0))
  | 0x72 => some (.readStatus tag 0)
  | 0x73 => some (.readStatus tag 1)
  | 0x74 => some (.readStatus tag 2)
  | _ => none

/-! ### Packets and control lines (R168, R169, R179) -/

/-- The component words of a line: R, G, B of pixel 0, then R, G, B of pixel 1, and so on (R179). -/
def lineWords (pixels : List Pixel) : List LaneWord := pixels.flatMap fun p => [p.r, p.g, p.b]

/-- The pixels of a line that carries some component words, the last one filled up with zeros (R179). -/
def linePixels : List LaneWord → List Pixel
  | [] => []
  | [r] => [⟨r, 0, 0⟩]
  | [r, g] => [⟨r, g, 0⟩]
  | r :: g :: b :: rest => ⟨r, g, b⟩ :: linePixels rest

/-- The control preamble (R179). -/
def preamble : List LaneWord := [0x2AA#10, 0x155#10, 0x2AA#10, 0x155#10, 0x2AA#10, 0x155#10]

/-- Whether a blanking line's first words form the control preamble (R3, R179). -/
def isControlLine (words : List LaneWord) : Bool := decide (words.take 6 = preamble)

/-- The packet bytes of a control line: the low eight bits of each word from the seventh on (R179). -/
def lineBytes (words : List LaneWord) : List Byte := (words.drop 6).map (·.setWidth 8)

/-- Whether a packet passes its CRC check: its length is at most 48, the line reaches the CRC's place, and the
CRC carried there is the one formed (R168). -/
def passesCheck (bytes : List Byte) : Bool :=
  let len := (byteAt bytes 2).toNat
  decide (len ≤ 48) && decide (5 + len ≤ bytes.length) && decide (crc16 (bytes.take (3 + len)) = wordAt bytes (3 + len))

/-- What the control channel makes of a taken packet (R168, R169). -/
inductive PacketRead where
  | badCheck (tag : Byte)
  | unknownCommand (tag : Byte)
  | badLength (tag : Byte)
  | command (tag : Byte) (i : Instr)
  deriving DecidableEq, Repr

/-- The checks of R168 and R169, in their order: the CRC, the code, the length. The tag of a packet that
fails its CRC is the tag as received, or 00h when the line ends before it. -/
def readPacket (bytes : List Byte) : PacketRead :=
  let tag := byteAt bytes 0
  let code := (byteAt bytes 1).toNat
  let len := (byteAt bytes 2).toNat
  let payload := (bytes.drop 3).take len
  if passesCheck bytes then
    match requiredLength code payload, readCommand tag code payload with
    | some n, some i => if len = n then .command tag i else .badLength tag
    | _, _ => .unknownCommand tag
  else .badCheck tag

/-! ### The encoder -/

/-- The tag, command code and payload of a packet command; none for the rows that are no packet command. -/
def packetOf : Instr → Option (Byte × Nat × List Byte)
  | .writeGrid t s f c ps => some (t, 0x01, [s, f, c] ++ ps.flatMap pointBytes)
  | .commitGrid t s => some (t, 0x02, [s])
  | .eraseGrid t s => some (t, 0x03, [s])
  | .selectGrid t s => some (t, 0x04, [s])
  | .readGrid t s n => some (t, 0x05, [s, n])
  | .gridInfo t s => some (t, 0x06, [s])
  | .setLight t l => some (t, 0x10, wordBytes l)
  | .setLightRamp t r b => some (t, 0x11, wordBytes r ++ wordBytes b)
  | .readLight t p => some (t, 0x12 + p, [])
  | .writePoll t n e a r f c => some (t, 0x20, [n, e, a, r, f, c])
  | .readPoll t n => some (t, 0x21, [n])
  | .assignSource t n z => some (t, 0x22, [n, z])
  | .readSource t n => some (t, 0x23, [n])
  | .writeChannel t c b => some (t, 0x24, [c, b])
  | .writeThermistorTableFirst t b vs => some (t, 0x25, b :: vs.flatMap wordBytes)
  | .writeThermistorTableSecond t b vs => some (t, 0x26, b :: vs.flatMap wordBytes)
  | .readThermistorTable t b n => some (t, 0x27, [b, n])
  | .setTripComparator t c h => some (t, 0x28, c :: wordBytes h)
  | .readTripComparator t => some (t, 0x29, [])
  | .writeZone t z sp de tr ro gu kp ki kff ba ma =>
    some (t, 0x30, [z] ++ wordBytes sp ++ wordBytes de ++ wordBytes tr ++ wordBytes ro ++ wordBytes gu ++ wordBytes kp ++ [ki]
      ++ wordBytes kff ++ [ba, ma])
  | .readZone t z p => some (t, 0x31 + p, [z])
  | .setThermalLimits t b l => some (t, 0x35, wordBytes b ++ wordBytes l)
  | .writeFan t f m ms q st h c e es => some (t, 0x38, [f] ++ wordBytes m ++ [ms] ++ wordBytes q ++ wordBytes st ++ wordBytes h ++ [c, e, es])
  | .clearFan t f => some (t, 0x39, [f])
  | .readFan t f p => some (t, 0x3A + p, [f])
  | .lightOn t => some (t, 0x40, [])
  | .lightOff t => some (t, 0x41, [])
  | .clearTrip t => some (t, 0x42, [])
  | .setInstall t o a b => some (t, 0x43, [o, a] ++ wordBytes b)
  | .readState t => some (t, 0x44, [])
  | .engineReset t => some (t, 0x4F, [])
  | .writeAxis t a l vm vs ac hv b c d e =>
    some (t, 0x50, [a] ++ wordBytes l ++ wordBytes vm ++ wordBytes vs ++ [ac] ++ wordBytes hv ++ wordBytes b ++ [c, d, e])
  | .readAxis t a p => some (t, 0x51 + p, [a])
  | .moveAxis t a g => some (t, 0x60, a :: wordBytes g)
  | .stepAxis t a d => some (t, 0x61, [a, d.extractLsb' 16 8, d.extractLsb' 8 8, d.extractLsb' 0 8])
  | .home t h => some (t, 0x62, [h])
  | .recallPreset t n => some (t, 0x63, [n])
  | .stopMotion t => some (t, 0x64, [])
  | .storePreset t n m h v s b => some (t, 0x65, [n, m] ++ wordBytes h ++ wordBytes v ++ [s, b])
  | .erasePreset t n => some (t, 0x66, [n])
  | .readPreset t n => some (t, 0x67, [n])
  | .readMotion t n p => some (t, 0x68 + p, [n])
  | .ackEvents t m => some (t, 0x70, wordBytes m)
  | .setEventEnable t m => some (t, 0x71, wordBytes m)
  | .readStatus t p => some (t, 0x72 + p, [])
  | .inputActiveLine _ | .controlLine _ | .plainBlankingLine | .outputLine | .outputFrameStart | .linkLockLost
  | .linkLockRegained | .answerSent | .resetNAsserted | .resetNReleased | .controlTick | .runOnElapsedLimit
  | .thermistorConversionDone _ _ | .sbTransactionEnd _ | .sbStretchLimit _ | .sbClockTimeout | .sbBusError | .sbRecoveryDone
  | .sbRecoveryAbandoned | .comparatorTrip _ | .comparatorRelease _ | .rampTick | .lightPwmPeriodBoundary
  | .fanPwmPeriodBoundary _ | .kickTimerExpiry _ | .stallTimerExpiry _ | .pauseTimerExpiry _ | .retryClearTimerExpiry _
  | .tachEdge _ _ | .tachTimeout _ | .profileTick | .endstopEdge _ | .endstopInactive _ | .railWaitTimeout | .silenceTick
  | .silenceExpiry => none

/-- A packet's bytes: tag, code, length, payload, CRC-16 high byte first (R179). -/
def packetBytes (tag : Byte) (code : Nat) (payload : List Byte) : List Byte :=
  let body := [tag, BitVec.ofNat 8 code, BitVec.ofNat 8 payload.length] ++ payload
  body ++ wordBytes (crc16 body)

/-- The bytes of the packet that carries a packet command. -/
def encode (i : Instr) : Option (List Byte) := (packetOf i).map fun (t, c, p) => packetBytes t c p

/-- The words of a control line that carries some packet bytes (R179). -/
def controlWords (bytes : List Byte) : List LaneWord := preamble ++ bytes.map (·.setWidth 10)

end Sys2Proof
end

