-- ==== Sys2Proof/Machine/State.lean ====
section
/-! DEFINITION. The state of the 7420 as plain data, block by block (00_scope.md, block overview), the reasons
a step can stop, and the state after reset. Every field's rule and reset value stands in INVENTORY.md. -/

namespace Sys2Proof.Machine

/-! ### The enumerations of the records (R178) -/

/-- The operating states (R116). -/
inductive OpState where
  | standby | lit | cooldown | tripped
  deriving DecidableEq, Repr

/-- The thermal zones (R90). -/
inductive ZoneId where
  | light | panel | air
  deriving DecidableEq, Repr

/-- The lens axes (R132). -/
inductive AxisId where
  | h | v
  deriving DecidableEq, Repr

/-- A direction of travel (R132, R134). -/
inductive Dir where
  | positive | negative
  deriving DecidableEq, Repr

/-- The kinds of input line that the warp engine tells apart when it looks for a frame start (R3, R4). -/
inductive LineKind where
  | active | blanking
  deriving DecidableEq, Repr

/-- The reception state of a frame record (R4, R5, R7). -/
inductive Reception where
  | receiving | full | short
  deriving DecidableEq, Repr

/-- The output state of a frame record (R4, R11). -/
inductive OutState where
  | waiting | output
  deriving DecidableEq, Repr

/-- The state of a grid slot (R27). -/
inductive SlotState where
  | empty | loading | valid
  deriving DecidableEq, Repr

/-- A member of the limiter set (R55). -/
inductive Limiter where
  | safety | motion | thermal | user
  deriving DecidableEq, Repr

/-- The state of a source record (R64). -/
inductive SourceState where
  | unread | ok | failed
  deriving DecidableEq, Repr

/-- The outcome of the last read applied to a source record; `notRead` is the manual's NONE (R64). -/
inductive ReadOutcome where
  | notRead | done | nackAddr | nackData | timeout | stretch | busError | pecMismatch | range | shorted | openCircuit
  deriving DecidableEq, Repr

/-- A thermistor table (R82). -/
inductive TableId where
  | a | b
  deriving DecidableEq, Repr

/-- The state of the trip comparator (R86). -/
inductive CompState where
  | released | tripped
  deriving DecidableEq, Repr

/-- What a zone's feed-forward term follows; `noLoad` is the manual's NONE (R90). -/
inductive LoadBasis where
  | lightLevel | dumpLoad | noLoad
  deriving DecidableEq, Repr

/-- A zone's demand: a duty, or GUARD (R90). -/
inductive Demand where
  | duty (d : Nat)
  | guard
  deriving DecidableEq, Repr

/-- The acoustic modes (R94). -/
inductive Acoustic where
  | quiet | standard | highAltitude
  deriving DecidableEq, Repr

/-- The orientation of the installation record (R116). -/
inductive Orientation where
  | desk | ceiling
  deriving DecidableEq, Repr

/-- The states of a fan (R103). -/
inductive FanState where
  | off | kick | running | pause | failed
  deriving DecidableEq, Repr

/-- The edge select of a tachometer input (R103). -/
inductive TachSelect where
  | rising | falling | both
  deriving DecidableEq, Repr

/-- The loss action of a fan, fixed by its position (R103). -/
inductive LossAction where
  | trip | cap
  deriving DecidableEq, Repr

/-- What took the part into TRIPPED the last time (R116). -/
inductive TripCause where
  | noTrip | comparator | zone (z : ZoneId) | fanLoss
  deriving DecidableEq, Repr

/-- The states of a lens axis (R132). -/
inductive AxisState where
  | off | idle | seek | release | moving | approach | stopping
  deriving DecidableEq, Repr

/-- What HOME homes (R151). -/
inductive HomeSel where
  | h | v | both
  deriving DecidableEq, Repr

/-- The phases of a motion request (R151). -/
inductive Phase where
  | queued | waitRail | running | switching
  deriving DecidableEq, Repr

/-- The results a motion request ends with (R157). -/
inductive MotionResult where
  | completed | completedClamped | gridHeld | stopped | flushed | abortedTrip | endstop | homeFail | notHomed | railTimeout
  deriving DecidableEq, Repr

/-- The result codes of answer entries (R170). -/
inductive Result where
  | ok | okClamped | queued
  | refusedState | refusedBusy | refusedProtected | refusedRange | refusedIncomplete | refusedFull | refusedHot
  | unknownCommand | badLength | badCheck
  deriving DecidableEq, Repr

/-- The twelve event flags, in the order of their mask bits (R173, R178). -/
inductive EventFlag where
  | linkLost | gridSwitched | motionDone | endstop | homeFail | sensorFail | fanFault | derate | trip | cooldownDone
  | zoneBlind | packetOverflow
  deriving DecidableEq, Repr

/-! ### Warp engine (chapter 1) and grid store (chapter 2) -/

/-- A line's pixels up to its last pixel that is not black; what lies beyond reads black (R6, R8). -/
abbrev Line := List Pixel

/-- The line store: the places that do not hold a black line, in rising order, each with its line (R8). An
unlisted place holds black, as every place does after a reset. -/
abbrev LineStore := List (Nat × Line)

/-- A frame record (R4); `nextLine` counts the output lines already produced. -/
structure FrameRec where
  base : Nat
  rows : Nat
  reception : Reception
  output : OutState
  start : Nat
  nextLine : Nat
  deriving DecidableEq, Repr

/-- The origin of a pending choice (R15). -/
inductive Origin where
  | select
  | recall (tag : Byte)
  deriving DecidableEq, Repr

/-- A pending choice: a slot, or identity (`none`), with its origin (R15). -/
structure Choice where
  slot : Option (Fin 4)
  origin : Origin
  deriving DecidableEq, Repr

/-- A pixel of an output line with its border indication (R10). -/
structure OutPixel where
  pixel : Pixel
  border : Bool
  deriving DecidableEq, Repr

/-- What the output lanes carry in a line time (R10, R14, R26). -/
inductive VideoOut where
  | nothing
  | blanking
  | line (pixels : List OutPixel)
  deriving DecidableEq, Repr

/-- The warp engine. `previous` is the kind of the line before, absent after a reset and after a loss of
lock (R4); `lineTime` counts line times since the reset. -/
structure Warp where
  frames : List FrameRec
  previous : Option LineKind
  lineTime : Nat
  writePos : Nat
  store : LineStore
  active : Option (Fin 4)
  choice : Option Choice
  vout : VideoOut
  deriving DecidableEq, Repr

/-- A grid point: a source position in sixteenths of a pixel (R27, R28). -/
structure Point where
  x : Int
  y : Int
  deriving DecidableEq, Repr

/-- A grid slot (R27). The written count and the first unwritten index are read off the written map. -/
structure Slot where
  points : Vector Point 170
  written : Vector Bool 170
  state : SlotState
  clampCount : Nat
  deriving DecidableEq, Repr

/-! ### Statistics unit and light drive (chapter 3) -/

/-- The statistics unit (R46). -/
structure Stats where
  accumulating : Bool
  lumaSum : Nat
  covered : Nat
  frameNumber : Nat
  current : Nat
  apl : Nat
  coverage : Nat
  valid : Bool
  recordNumber : Nat
  feedForward : Nat
  deriving DecidableEq, Repr

/-- The light drive (R52). -/
structure Light where
  user : Nat
  thermal : Nat
  motion : Nat
  motionHeld : Bool
  safety : Nat
  target : Nat
  governing : Limiter
  applied : Nat
  rampStep : Nat
  blankLevel : Nat
  pwmBuffer : Nat
  pwmLevel : Nat
  lightEn : Bool
  deriving DecidableEq, Repr

/-! ### Temperature sources (chapter 4) -/

/-- A poll entry (R69). -/
structure PollEntry where
  enable : Bool
  address : Nat
  register : Nat
  fraction : Nat
  pec : Bool
  deriving DecidableEq, Repr

/-- A source record (R64). -/
structure Source where
  state : SourceState
  lastGood : Option Int
  failures : Nat
  goods : Nat
  lastOutcome : ReadOutcome
  zone : Option ZoneId
  deriving DecidableEq, Repr

/-- The entry in flight (R72): whether its transaction has begun (before that the bus is being recovered,
R79), the entry's contents as its transaction uses them, whether a WRITE_POLL has discarded its outcome
(R70), and the running sum of its stretches in microseconds (R73). -/
structure Flight where
  entry : Fin 8
  begun : Bool
  contents : PollEntry
  discarded : Bool
  stretchSum : Nat
  deriving DecidableEq, Repr

/-- What the controller drives for a while: SB_CLK and SB_DAT released (`true`) or pulled low, and for how many
microseconds at least, where R73 says. -/
structure SbLevel where
  clk : Bool
  dat : Bool
  micros : Option Nat
  deriving DecidableEq, Repr

/-- What the sensor-bus controller makes on SB_CLK and SB_DAT (R73, R74, R79): a condition, a clock pulse of a
recovery, a byte that it sends or receives, with whether its receiver acknowledged it, or the levels it drove of
one of these that was cut off. -/
inductive SbSignal where
  | start
  | repeatedStart
  | stop
  | release
  | pulse
  | sent (b : Byte) (acked : Bool)
  | received (b : Byte) (acked : Bool)
  | part (levels : List SbLevel)
  deriving DecidableEq, Repr

/-- The staging record of WRITE_THERMISTOR_TABLE (R84). -/
structure Staging where
  table : TableId
  values : List Int
  deriving DecidableEq, Repr

/-- The trip comparator (R86). -/
structure Comparator where
  channel : Channel
  threshold : Nat
  state : CompState
  deriving DecidableEq, Repr

/-- The temperature sources. `converting` is the channel whose conversion is in progress, with whether its
outcome is to be discarded (R82); `wire` is what the controller made on the sensor bus up to the last time it let go of
both lines (R73; notes/assumptions/8.md); `pinCode` is the code the comparator would see on each pin TH0 to TH3 (R86,
R88), which is no reading of the scan's. -/
structure Temps where
  poll : Vector PollEntry 8
  sources : Vector Source 12
  sweeping : Bool
  sweepList : List (Fin 8)
  flight : Option Flight
  recoveryDue : Bool
  wire : List SbSignal
  channelTable : Vector TableId 4
  tableA : Vector Int 17
  tableB : Vector Int 17
  staging : Option Staging
  converting : Option Channel
  discardConversion : Bool
  comparator : Comparator
  pinCode : Vector (BitVec 12) 4
  deriving DecidableEq, Repr

/-! ### Zone controller and fan drivers (chapter 5) -/

/-- A zone record (R90). -/
structure Zone where
  setpoint : Int
  derate : Int
  trip : Int
  runOn : Int
  guard : Int
  kp : Nat
  ki : Nat
  kff : Nat
  basis : LoadBasis
  mask : BitVec 3
  acc : Nat
  temp : Option Int
  blind : Bool
  demand : Demand
  deriving DecidableEq, Repr

/-- The zone controller (R90, R94, R99, R101). -/
structure ZoneCtl where
  zones : Vector Zone 3
  mode : Acoustic
  ceiling : Nat
  blindCap : Nat
  lossCap : Nat
  deriving DecidableEq, Repr

/-- A fan record (R103) with its PWM buffer and output level (R113), the held tach edge (R114) and its timers
in milliseconds, absent while stopped (R107 to R110). -/
structure Fan where
  minDuty : Nat
  mayStop : Bool
  quiet : Nat
  standard : Nat
  high : Nat
  current : Nat
  edges : Nat
  edgeSel : TachSelect
  state : FanState
  requested : Nat
  atCeiling : Bool
  ceiling : Nat
  applied : Nat
  retry : Nat
  speed : Nat
  edgeHeld : Bool
  pwmBuffer : Nat
  pwmLevel : Nat
  kickTimer : Option Nat
  stallTimer : Option Nat
  pauseTimer : Option Nat
  clearTimer : Option Nat
  deriving DecidableEq, Repr

/-- What one zone handed the fan drivers at the last control tick: its demand, the fan mask it was formed
under, and its blind flag (R105, R106). -/
structure Handed where
  demand : Demand
  mask : BitVec 3
  blind : Bool
  deriving DecidableEq, Repr

/-- The fan drivers, with the demands and the acoustic mode handed at the last control tick (R94, R106). -/
structure FanDrv where
  fans : Vector Fan 3
  handed : Vector Handed 3
  handedMode : Acoustic
  deriving DecidableEq, Repr

/-! ### State controller (chapter 6) -/

/-- The state controller (R116). `runOn` is absent while the run-on elapsed is stopped. -/
structure StateCtl where
  op : OpState
  runOn : Option Nat
  lastTrip : TripCause
  silence : Nat
  armed : Bool
  orientation : Orientation
  acoustic : Acoustic
  budget : Nat
  resetPending : Bool
  deriving DecidableEq, Repr

/-! ### Lens axes (chapter 7) -/

/-- A running leg: its direction and remaining count (R132). -/
structure Leg where
  dir : Dir
  left : Nat
  deriving DecidableEq, Repr

/-- A move plan: the target, its clamped mark, and whether an approach leg is still owed (R132). -/
structure Plan where
  target : Nat
  clamped : Bool
  owed : Bool
  deriving DecidableEq, Repr

/-- An axis record (R132) with its end-stop inputs (R135), its DIR output and the pulses put out on STEP at
the last profile tick (R134), and whether a stop in progress was entered from a homing (R145). -/
structure Axis where
  limit : Nat
  vmax : Nat
  vstart : Nat
  accel : Nat
  homeVel : Nat
  backlash : Nat
  current : Nat
  approach : Dir
  lowEnable : Bool
  lowFalling : Bool
  highEnable : Bool
  highFalling : Bool
  state : AxisState
  position : Nat
  homed : Bool
  vel : Nat
  acc : Nat
  allowance : Nat
  leg : Option Leg
  plan : Option Plan
  stopHoming : Bool
  lowLevel : Bool
  highLevel : Bool
  lowLatched : Bool
  highLatched : Bool
  dirPin : Bool
  pulses : Nat
  deriving DecidableEq, Repr

/-- Which end-stop of an axis (R135, R147). -/
inductive EndSide where
  | low | high
  deriving DecidableEq, Repr

/-- What an axis hands the motion queue when its move or homing ends (R147). -/
inductive AxisOutcome where
  | done (clamped : Bool)
  | stopped
  | endstop (which : EndSide)
  | homeFail
  deriving DecidableEq, Repr

/-! ### Motion queue (chapter 8) -/

/-- A preset (R165). -/
structure Preset where
  valid : Bool
  hTarget : Nat
  vTarget : Nat
  slot : Option (Fin 4)
  blank : Bool
  deriving DecidableEq, Repr

/-- The kind of a motion request with its parameters (R151). A recall carries the preset's index and a copy
of the preset. -/
inductive Job where
  | moveAxis (a : AxisId) (target : Nat)
  | stepAxis (a : AxisId) (delta : Int)
  | home (sel : HomeSel)
  | recall (index : Nat) (copy : Preset)
  deriving DecidableEq, Repr

/-- A request record (R151). -/
structure Request where
  tag : Byte
  job : Job
  phase : Phase
  clamped : Bool
  stopReq : Bool
  deriving DecidableEq, Repr

/-- How far the executing request has got with one axis: the axis has no part in it, its move or homing is
yet to be handed, it has been handed, or it has ended (R154, R157, R158). -/
inductive Work where
  | unused | owed | active | finished
  deriving DecidableEq, Repr

/-- The executing request, its progress and target on each axis, and whether a recall runs its axes in
sequence (R158). -/
structure Executing where
  req : Request
  hWork : Work
  vWork : Work
  hTarget : Nat
  vTarget : Nat
  inSequence : Bool
  deriving DecidableEq, Repr

/-- The kind of a request as the history reports it (R164, R178). -/
inductive RequestKind where
  | moveAxis | stepAxis | home | recallPreset
  deriving DecidableEq, Repr

/-- A motion history entry (R164). -/
structure HistEntry where
  tag : Byte
  kind : RequestKind
  result : MotionResult
  hPos : Nat
  vPos : Nat
  deriving DecidableEq, Repr

/-- The motion queue (R151). `railTimer` is in milliseconds, absent while stopped. -/
structure Motion where
  queue : List Request
  executing : Option Executing
  history : List HistEntry
  presets : Vector Preset 12
  blankHold : Bool
  railTimer : Option Nat
  deriving DecidableEq, Repr

/-! ### Control channel (chapter 9) -/

/-- What an owning block gives back for a packet (R170). -/
structure Reply where
  result : Result
  data : List Byte
  deriving DecidableEq, Repr

/-- An answer entry (R170). -/
structure Entry where
  tag : Byte
  reply : Reply
  deriving DecidableEq, Repr

/-- A frame answer as it goes out on the return lane (R180), and whether it holds the entry of a pending
ENGINE_RESET (R172). -/
structure FrameAnswer where
  bytes : List Byte
  holdsReset : Bool
  deriving DecidableEq, Repr

/-- The control channel (R167, R171 to R173). -/
structure ChanState where
  taken : Nat
  ignored : Nat
  entries : List Entry
  frameCount : Nat
  flags : BitVec 12
  enables : BitVec 12
  lane : Option FrameAnswer
  waiting : Option FrameAnswer
  deriving DecidableEq, Repr

/-! ### The whole part -/

/-- The state of the 7420. `pending` is the model's queue of commands that wait, first in first out;
`freeCount` is the model's counter of free values drawn. -/
structure State where
  pending : List Instr
  resetAsserted : Bool
  locked : Bool
  warp : Warp
  grid : Vector Slot 4
  stats : Stats
  light : Light
  temps : Temps
  zoneCtl : ZoneCtl
  fanDrv : FanDrv
  ctl : StateCtl
  axisH : Axis
  axisV : Axis
  motion : Motion
  chan : ChanState
  freeCount : Nat
  deriving DecidableEq, Repr

/-- The reasons a step can stop with a fault. There is none: no rule of the spec stops the part, so the
type is empty and no command can answer with a fault (safe). -/
inductive Fault where
  deriving DecidableEq, Repr

/-- The reasons a step can be refused. -/
inductive Refusal where
  /-- A command that has no meaning yet: raised by `exec`'s arm alone, by the row's mnemonic. Safe: the
  model stops where the part would go on. No arm raises it, since every command has its meaning. -/
  | notModelled (mnemonic : String)
  deriving DecidableEq, Repr

/-! ### Reset values -/

/-- R25. -/
def Warp.reset : Warp :=
  { frames := [], previous := none, lineTime := 0, writePos := 0, store := [], active := none, choice := none, vout := .blanking }

/-- R27, R44. -/
def Slot.reset : Slot :=
  { points := Vector.replicate 170 ⟨0, 0⟩, written := Vector.replicate 170 false, state := .empty, clampCount := 0 }

/-- R46. -/
def Stats.reset : Stats :=
  { accumulating := false, lumaSum := 0, covered := 0, frameNumber := 0, current := 0, apl := 0, coverage := 0, valid := false,
    recordNumber := 0, feedForward := 0 }

/-- R52. -/
def Light.reset : Light :=
  { user := 4095, thermal := 1536, motion := 4095, motionHeld := false, safety := 0, target := 0, governing := .safety,
    applied := 0, rampStep := 128, blankLevel := 0, pwmBuffer := 0, pwmLevel := 0, lightEn := false }

/-- R69. -/
def PollEntry.reset : PollEntry :=
  { enable := false, address := 0x08, register := 0, fraction := 0, pec := false }

/-- R64: a record in UNREAD with the given zone assignment. -/
def Source.unread (z : Option ZoneId) : Source :=
  { state := .unread, lastGood := none, failures := 0, goods := 0, lastOutcome := .notRead, zone := z }

/-- The built-in curve of R83. -/
def builtInCurve : Vector Int 17 :=
  #v[2400, 1792, 1520, 1344, 1216, 1112, 1016, 928, 840, 752, 664, 576, 480, 368, 232, 16, -640]

/-- The zone assignments after reset (R64): C0 LIGHT, C1 PANEL, C2 AIR, every other source none. -/
def resetSources : Vector Source 12 :=
  #v[.unread none, .unread none, .unread none, .unread none, .unread none, .unread none, .unread none, .unread none,
    .unread (some .light), .unread (some .panel), .unread (some .air), .unread none]

/-- R89, with the pins' codes as they stand. -/
def Temps.resetWith (codes : Vector (BitVec 12) 4) : Temps :=
  { poll := Vector.replicate 8 .reset, sources := resetSources, sweeping := false, sweepList := [], flight := none,
    recoveryDue := true, wire := [.release], channelTable := Vector.replicate 4 .a, tableA := builtInCurve, tableB := builtInCurve,
    staging := none, converting := none, discardConversion := false,
    comparator := { channel := .c0, threshold := 600, state := .released }, pinCode := codes }

/-- R90, the LIGHT record. -/
def Zone.resetLight : Zone :=
  { setpoint := 880, derate := 1120, trip := 1280, runOn := 720, guard := 800, kp := 384, ki := 16, kff := 700,
    basis := .lightLevel, mask := 0b101#3, acc := 0, temp := none, blind := true, demand := .duty 0 }

/-- R90, the PANEL record. -/
def Zone.resetPanel : Zone :=
  { setpoint := 800, derate := 992, trip := 1152, runOn := 672, guard := 768, kp := 320, ki := 12, kff := 500,
    basis := .dumpLoad, mask := 0b110#3, acc := 0, temp := none, blind := true, demand := .duty 0 }

/-- R90, the AIR record. -/
def Zone.resetAir : Zone :=
  { setpoint := 640, derate := 800, trip := 960, runOn := 608, guard := 720, kp := 256, ki := 8, kff := 200,
    basis := .lightLevel, mask := 0b100#3, acc := 0, temp := none, blind := true, demand := .duty 0 }

/-- R90, R94, R99, R101. -/
def ZoneCtl.reset : ZoneCtl :=
  { zones := #v[.resetLight, .resetPanel, .resetAir], mode := .standard, ceiling := 4095, blindCap := 1536, lossCap := 2048 }

/-- R103, R113, R114. -/
def Fan.reset : Fan :=
  { minDuty := 200, mayStop := true, quiet := 560, standard := 800, high := 1023, current := 35, edges := 2,
    edgeSel := .rising, state := .off, requested := 0, atCeiling := false, ceiling := 800, applied := 0, retry := 0,
    speed := 0, edgeHeld := false, pwmBuffer := 0, pwmLevel := 0, kickTimer := none, stallTimer := none,
    pauseTimer := none, clearTimer := none }

/-- The demands after reset (R90): 0 from every zone, each blind under its reset mask. -/
def FanDrv.reset : FanDrv :=
  { fans := Vector.replicate 3 .reset,
    handed := #v[⟨.duty 0, Zone.resetLight.mask, true⟩, ⟨.duty 0, Zone.resetPanel.mask, true⟩, ⟨.duty 0, Zone.resetAir.mask, true⟩],
    handedMode := .standard }

/-- R116. -/
def StateCtl.reset : StateCtl :=
  { op := .standby, runOn := none, lastTrip := .noTrip, silence := 0, armed := true, orientation := .ceiling,
    acoustic := .standard, budget := 150, resetPending := false }

/-- R132, R135, R150, with the travel limit of the axis and the levels of its two end-stop inputs. -/
def Axis.resetWith (limit : Nat) (low high : Bool) : Axis :=
  { limit := limit, vmax := 3200, vstart := 200, accel := 16, homeVel := 1600, backlash := 240, current := 40,
    approach := .positive, lowEnable := true, lowFalling := false, highEnable := true, highFalling := false,
    state := .off, position := 0, homed := false, vel := 0, acc := 0, allowance := 0, leg := none, plan := none,
    stopHoming := false, lowLevel := low, highLevel := high, lowLatched := false, highLatched := false,
    dirPin := false, pulses := 0 }

/-- R151, R165. -/
def Preset.reset : Preset :=
  { valid := false, hTarget := 0, vTarget := 0, slot := none, blank := false }

/-- R151. -/
def Motion.reset : Motion :=
  { queue := [], executing := none, history := [], presets := Vector.replicate 12 .reset, blankHold := false, railTimer := none }

/-- R167, R171, R172, R173. -/
def ChanState.reset : ChanState :=
  { taken := 0, ignored := 0, entries := [], frameCount := 0, flags := 0, enables := 0, lane := none, waiting := none }

/-- The travel limits after reset (R132). -/
def resetLimitH : Nat := 38400
/-- The travel limits after reset (R132). -/
def resetLimitV : Nat := 51200

/-- The machine right after the release of RESET_N (R130, R131), with the link in lock, every end-stop switch
open (low) and every thermistor pin at code 4095 (DESIGN CHOICE, notes/assumptions/2.md). -/
def State.reset : State :=
  { pending := [], resetAsserted := false, locked := true, warp := .reset, grid := Vector.replicate 4 .reset, stats := .reset,
    light := .reset, temps := .resetWith (Vector.replicate 4 4095#12), zoneCtl := .reset, fanDrv := .reset, ctl := .reset,
    axisH := .resetWith resetLimitH false false, axisV := .resetWith resetLimitV false false, motion := .reset,
    chan := .reset, freeCount := 0 }

end Sys2Proof.Machine
end

