-- ==== Sys2Proof/Machine/Operands.lean ====
section
/-! DEFINITION. Field encodings of chapter 10: byte order, enumerated codes both ways, absent values, and the
numbers by which packets name slots, entries, sources, channels, fans, zones, axes and presets. -/

namespace Sys2Proof

/-! ### Numbers and codes of the channels and fans (R67, R103, R178) -/

def Channel.code : Channel → Nat
  | .c0 => 0 | .c1 => 1 | .c2 => 2 | .c3 => 3
def FanId.ofCode (b : Byte) : Option FanId :=
  match b.toNat with | 0 => some .f0 | 1 => some .f1 | 2 => some .f2 | _ => none
def Channel.ofCode (b : Byte) : Option Channel :=
  match b.toNat with | 0 => some .c0 | 1 => some .c1 | 2 => some .c2 | 3 => some .c3 | _ => none
def FanId.idx : FanId → Fin 3
  | .f0 => 0 | .f1 => 1 | .f2 => 2
def Channel.idx : Channel → Fin 4
  | .c0 => 0 | .c1 => 1 | .c2 => 2 | .c3 => 3
/-- The source number of a thermistor channel, 8 to 11 (R67). -/
def Channel.source : Channel → Fin 12
  | .c0 => 8 | .c1 => 9 | .c2 => 10 | .c3 => 11
/-- The fans in the order of their numbers (R103). -/
def FanId.all : List FanId := [.f0, .f1, .f2]

end Sys2Proof

namespace Sys2Proof.Machine

/-! ### Byte order (R178): most significant byte first -/

/-- A one-byte field. -/
def byte (n : Nat) : List Byte := [BitVec.ofNat 8 n]

/-- A two-byte field. -/
def be16 (n : Nat) : List Byte := [BitVec.ofNat 8 (n / 256), BitVec.ofNat 8 n]

/-- A three-byte field. -/
def be24 (n : Nat) : List Byte := BitVec.ofNat 8 (n / 65536) :: be16 n

/-- A four-byte field. -/
def be32 (n : Nat) : List Byte := be16 (n / 65536) ++ be16 n

/-- A signed two-byte field, in two's complement. -/
def beSigned16 (i : Int) : List Byte := be16 (BitVec.ofInt 16 i).toNat

/-- A yes-or-no field as it is sent: 0 for no, 1 for yes. -/
def flagByte (b : Bool) : List Byte := byte (if b then 1 else 0)

/-- A yes-or-no field as it is read: 0 for no and any other value for yes. -/
def yes (b : Byte) : Bool := b ≠ 0

/-- A temperature, or 8000h when it is absent. -/
def tempBytes : Option Int → List Byte
  | none => [0x80, 0x00]
  | some t => beSigned16 t

/-- A slot, index or zone number, or FFh when it is absent or none. -/
def orNone : Option Nat → List Byte
  | none => [0xFF]
  | some n => byte n

/-! ### Enumerated fields (R178), counted from 0 -/

def OpState.code : OpState → Nat
  | .standby => 0 | .lit => 1 | .cooldown => 2 | .tripped => 3
def Limiter.code : Limiter → Nat
  | .safety => 0 | .motion => 1 | .thermal => 2 | .user => 3
def SlotState.code : SlotState → Nat
  | .empty => 0 | .loading => 1 | .valid => 2
def SourceState.code : SourceState → Nat
  | .unread => 0 | .ok => 1 | .failed => 2
def ReadOutcome.code : ReadOutcome → Nat
  | .notRead => 0 | .done => 1 | .nackAddr => 2 | .nackData => 3 | .timeout => 4 | .stretch => 5 | .busError => 6
  | .pecMismatch => 7 | .range => 8 | .shorted => 9 | .openCircuit => 10
def ZoneId.code : ZoneId → Nat
  | .light => 0 | .panel => 1 | .air => 2
def LoadBasis.code : LoadBasis → Nat
  | .lightLevel => 0 | .dumpLoad => 1 | .noLoad => 2
def FanState.code : FanState → Nat
  | .off => 0 | .kick => 1 | .running => 2 | .pause => 3 | .failed => 4
def TachSelect.code : TachSelect → Nat
  | .rising => 0 | .falling => 1 | .both => 2
def LossAction.code : LossAction → Nat
  | .trip => 0 | .cap => 1
def AxisState.code : AxisState → Nat
  | .off => 0 | .idle => 1 | .seek => 2 | .release => 3 | .moving => 4 | .approach => 5 | .stopping => 6
def Dir.code : Dir → Nat
  | .positive => 0 | .negative => 1
def RequestKind.code : RequestKind → Nat
  | .moveAxis => 0 | .stepAxis => 1 | .home => 2 | .recallPreset => 3
def Phase.code : Phase → Nat
  | .queued => 0 | .waitRail => 1 | .running => 2 | .switching => 3
def MotionResult.code : MotionResult → Nat
  | .completed => 0 | .completedClamped => 1 | .gridHeld => 2 | .stopped => 3 | .flushed => 4 | .abortedTrip => 5
  | .endstop => 6 | .homeFail => 7 | .notHomed => 8 | .railTimeout => 9
def Orientation.code : Orientation → Nat
  | .desk => 0 | .ceiling => 1
def Acoustic.code : Acoustic → Nat
  | .quiet => 0 | .standard => 1 | .highAltitude => 2
def TableId.code : TableId → Nat
  | .a => 0 | .b => 1
def CompState.code : CompState → Nat
  | .released => 0 | .tripped => 1

/-- Why LIGHT_ON or CLEAR_TRIP is refused REFUSED_HOT (R118, R123). -/
inductive HotReason where
  | zoneBlind | fanLoss | zoneHot | comparator
  deriving DecidableEq, Repr

def HotReason.code : HotReason → Nat
  | .zoneBlind => 0 | .fanLoss => 1 | .zoneHot => 2 | .comparator => 3

/-- Result codes (R178). -/
def Result.code : Result → Nat
  | .ok => 0x00 | .okClamped => 0x01 | .queued => 0x02
  | .refusedState => 0x10 | .refusedBusy => 0x11 | .refusedProtected => 0x12 | .refusedRange => 0x13
  | .refusedIncomplete => 0x14 | .refusedFull => 0x15 | .refusedHot => 0x16
  | .unknownCommand => 0x20 | .badLength => 0x21 | .badCheck => 0x22

/-- A last trip cause as it is carried (R178). -/
def TripCause.code : TripCause → Nat
  | .noTrip => 0 | .comparator => 1 | .fanLoss => 2 | .zone z => 0x10 + z.code

/-! ### Reading enumerated fields; a code beyond the list is out of range (R178) -/

def ZoneId.ofCode (b : Byte) : Option ZoneId :=
  match b.toNat with | 0 => some .light | 1 => some .panel | 2 => some .air | _ => none
def LoadBasis.ofCode (b : Byte) : Option LoadBasis :=
  match b.toNat with | 0 => some .lightLevel | 1 => some .dumpLoad | 2 => some .noLoad | _ => none
def TachSelect.ofCode (b : Byte) : Option TachSelect :=
  match b.toNat with | 0 => some .rising | 1 => some .falling | 2 => some .both | _ => none
def AxisId.ofCode (b : Byte) : Option AxisId :=
  match b.toNat with | 0 => some .h | 1 => some .v | _ => none
def Dir.ofCode (b : Byte) : Option Dir :=
  match b.toNat with | 0 => some .positive | 1 => some .negative | _ => none
def HomeSel.ofCode (b : Byte) : Option HomeSel :=
  match b.toNat with | 0 => some .h | 1 => some .v | 2 => some .both | _ => none
def Orientation.ofCode (b : Byte) : Option Orientation :=
  match b.toNat with | 0 => some .desk | 1 => some .ceiling | _ => none
def Acoustic.ofCode (b : Byte) : Option Acoustic :=
  match b.toNat with | 0 => some .quiet | 1 => some .standard | 2 => some .highAltitude | _ => none
def TableId.ofCode (b : Byte) : Option TableId :=
  match b.toNat with | 0 => some .a | 1 => some .b | _ => none

/-- The modes of STORE_PRESET (R165). -/
inductive PresetMode where
  | explicit | current
  deriving DecidableEq, Repr

def PresetMode.ofCode (b : Byte) : Option PresetMode :=
  match b.toNat with | 0 => some .explicit | 1 => some .current | _ => none

/-- A number below `n` named by one byte: a slot, a poll entry, a source or a preset. -/
def index (n : Nat) (b : Byte) : Option (Fin n) :=
  if h : b.toNat < n then some ⟨b.toNat, h⟩ else none

/-- A field that names one of `n` things or, as FFh, none of them; the outer `none` is out of range. -/
def indexOrNone (n : Nat) (b : Byte) : Option (Option (Fin n)) :=
  if b = 0xFF then some none else (index n b).map some

/-- A zone, or none as FFh; the outer `none` is out of range (R67). -/
def zoneOrNone (b : Byte) : Option (Option ZoneId) :=
  if b = 0xFF then some none else (ZoneId.ofCode b).map some

/-! ### Numbers of the numbered things -/

def ZoneId.idx : ZoneId → Fin 3
  | .light => 0 | .panel => 1 | .air => 2
/-- The source number of a poll entry, 0 to 7 (R67). -/
def pollSource (n : Fin 8) : Fin 12 := n.castLE (by decide)

/-- The zones in the order of their numbers (R90). -/
def ZoneId.all : List ZoneId := [.light, .panel, .air]

/-- Whether a fan mask includes a fan (R178: bit 0 is F0). -/
def inMask (m : BitVec 3) (f : FanId) : Bool := m.getLsbD f.idx

/-- Whether a value lies in a range that includes both ends. -/
def within (lo hi x : Int) : Bool := decide (lo ≤ x) && decide (x ≤ hi)

/-- The plausible range of temperatures, in sixteenth-degrees (chapter "Units and ranges"). -/
def plausible (t : Int) : Bool := within (-640) 2400 t

/-- "clamp(x, a, b)" of R1. -/
def clampInt (x a b : Int) : Int := max a (min x b)

/-- A report's page, filled up to eight bytes with 00h (R183). -/
def page8 (bytes : List Byte) : List Byte := (bytes ++ List.replicate 8 0).take 8

end Sys2Proof.Machine
end

