-- ==== Sys2Proof/Machine/Ops.lean ====
section
/-! DEFINITION. The named updates of the whole state, one per block, and the access to the numbered records
in it. Every later file changes the state through these. -/

namespace Sys2Proof.Machine

def State.setWarp (s : State) (w : Warp) : State := { s with warp := w }
def State.setGrid (s : State) (g : Vector Slot 4) : State := { s with grid := g }
def State.setStats (s : State) (x : Stats) : State := { s with stats := x }
def State.setLight (s : State) (l : Light) : State := { s with light := l }
def State.setTemps (s : State) (t : Temps) : State := { s with temps := t }
def State.setZoneCtl (s : State) (z : ZoneCtl) : State := { s with zoneCtl := z }
def State.setFanDrv (s : State) (f : FanDrv) : State := { s with fanDrv := f }
def State.setCtl (s : State) (c : StateCtl) : State := { s with ctl := c }
def State.setMotion (s : State) (m : Motion) : State := { s with motion := m }
def State.setChan (s : State) (c : ChanState) : State := { s with chan := c }
def State.setLocked (s : State) (b : Bool) : State := { s with locked := b }
def State.setResetAsserted (s : State) (b : Bool) : State := { s with resetAsserted := b }

/-- The record of an axis. -/
def State.axis (s : State) : AxisId → Axis
  | .h => s.axisH
  | .v => s.axisV

def State.setAxis (s : State) : AxisId → Axis → State
  | .h, x => { s with axisH := x }
  | .v, x => { s with axisV := x }

/-- The record of a fan. -/
def State.fan (s : State) (f : FanId) : Fan := s.fanDrv.fans[f.idx]

def State.setFan (s : State) (f : FanId) (x : Fan) : State :=
  s.setFanDrv { s.fanDrv with fans := s.fanDrv.fans.set f.idx x }

/-- The record of a zone. -/
def State.zone (s : State) (z : ZoneId) : Zone := s.zoneCtl.zones[z.idx]

def State.setZone (s : State) (z : ZoneId) (x : Zone) : State :=
  s.setZoneCtl { s.zoneCtl with zones := s.zoneCtl.zones.set z.idx x }

/-- The record of a grid slot. -/
def State.slot (s : State) (n : Fin 4) : Slot := s.grid[n]

def State.setSlot (s : State) (n : Fin 4) (x : Slot) : State := s.setGrid (s.grid.set n x)

/-- A source record. -/
def State.source (s : State) (n : Fin 12) : Source := s.temps.sources[n]

def State.setSource (s : State) (n : Fin 12) (x : Source) : State :=
  s.setTemps { s.temps with sources := s.temps.sources.set n x }

/-- One more free value drawn: the model's counter moves on, so that the next free value is another one. -/
def State.drawFree (s : State) : State := { s with freeCount := s.freeCount + 1 }

/-- One more free value drawn, where the command drew one. -/
def State.drawFreeIf (s : State) (b : Bool) : State := if b then s.drawFree else s

/-- Whether the part works at all: RESET_N is not asserted (R130). -/
def State.live (s : State) : Bool := !s.resetAsserted

/-- Whether line times pass: the part works and the link is in lock (R14, R26). -/
def State.linked (s : State) : Bool := s.live && s.locked

/-- An event's effect on a part that works; while RESET_N is asserted the event changes nothing
(notes/assumptions/5.md). -/
def State.whenLive (s : State) (f : State → State) : State := if s.live then f s else s

/-- A line's effect on a part that works with its link in lock (R14). -/
def State.whenLinked (s : State) (f : State → State) : State := if s.linked then f s else s

end Sys2Proof.Machine
end

