-- ==== Sys2Proof/Machine/Flags.lean ====
section
/-! DEFINITION. The event flags, their enables and ATTN (R173 to R176). -/

namespace Sys2Proof.Machine

/-- A flag's bit in the event masks (R178). -/
def EventFlag.bit : EventFlag → Fin 12
  | .linkLost => 0 | .gridSwitched => 1 | .motionDone => 2 | .endstop => 3 | .homeFail => 4 | .sensorFail => 5
  | .fanFault => 6 | .derate => 7 | .trip => 8 | .cooldownDone => 9 | .zoneBlind => 10 | .packetOverflow => 11

/-- The set that names one flag. -/
def EventFlag.mask (e : EventFlag) : BitVec 12 := BitVec.twoPow 12 e.bit

/-- Whether a flag is set. -/
def ChanState.flag (c : ChanState) (e : EventFlag) : Bool := c.flags.getLsbD e.bit

/-- Setting a flag, whatever its enable; a set flag stays set (R173). -/
def ChanState.raise (c : ChanState) (e : EventFlag) : ChanState := { c with flags := c.flags ||| e.mask }

/-- A block sets the flag of its event. -/
def State.raise (s : State) (e : EventFlag) : State := s.setChan (s.chan.raise e)

/-- A block sets the flag of its event when the event has happened. -/
def State.raiseIf (s : State) (b : Bool) (e : EventFlag) : State := if b then s.raise e else s

/-- ACK_EVENTS: the named flags are cleared (R174). -/
def ChanState.acknowledge (c : ChanState) (named : BitVec 12) : ChanState := { c with flags := c.flags &&& ~~~named }

/-- The twelve flags a two-byte event set names, unless it names something else (R174, R175, R178). -/
def eventSet (m : BitVec 16) : Option (BitVec 12) :=
  if m.toNat < 4096 then some (m.setWidth 12) else none

/-- ATTN is asserted while some flag is both set and enabled, and never while RESET_N is asserted (R176). -/
def State.attn (s : State) : Bool := s.live && decide (s.chan.flags &&& s.chan.enables ≠ 0)

end Sys2Proof.Machine
end

