-- ==== Sys2Proof/Machine/Axes.lean ====
section
/-! DEFINITION. The lens axes: end-stop inputs, legs and the velocity profile, absolute moves, homing and stops
(R132 to R147). The functions here act on one axis record; what an axis hands the motion queue is their
second result. -/

namespace Sys2Proof.Machine

/-- What an axis has for the motion queue after something happened to it: nothing, an outcome (R147), or the
request that its approach leg be granted (R140). -/
inductive AxisEvent where
  | quiet
  | outcome (o : AxisOutcome)
  | asks
  deriving DecidableEq, Repr

/-! ### Standing and moving (R133) -/

/-- An axis is in motion (R133). -/
def Axis.inMotion (x : Axis) : Bool :=
  match x.state with
  | .off => false
  | .idle => false
  | .seek => true
  | .release => true
  | .moving => true
  | .approach => x.leg.isSome
  | .stopping => true

/-- An axis waits in APPROACH for its leg (R140). -/
def Axis.waits (x : Axis) : Bool := decide (x.state = .approach) && x.leg.isNone

/-- DRV_EN: asserted in every state but OFF (R133). -/
def Axis.driverEnabled (x : Axis) : Bool := decide (x.state ≠ .off)

/-- An axis in OFF is energised at the entry to LIT or COOLDOWN (R133). -/
def Axis.energise (x : Axis) : Axis := if x.state = .off then { x with state := .idle } else x

/-- An axis is de-energised at the entry to STANDBY (R133). -/
def Axis.deenergise (x : Axis) : Axis :=
  { x with state := .off, vel := 0, acc := 0, leg := none, plan := none, stopHoming := false }

/-! ### End-stop inputs (R135) -/

/-- An enabled input is active at the level its selected edge leads to (R135). -/
def inputActive (enable falling level : Bool) : Bool := enable && (level != falling)

def Axis.lowActive (x : Axis) : Bool := inputActive x.lowEnable x.lowFalling x.lowLevel
def Axis.highActive (x : Axis) : Bool := inputActive x.highEnable x.highFalling x.highLevel

/-- Some end-stop of the axis is active. -/
def Axis.anyActive (x : Axis) : Bool := x.lowActive || x.highActive

/-! ### Stops, and the ends of moves and homings (R140, R142 to R144) -/

/-- The axis stands in IDLE, with no leg, move plan, velocity or step accumulator. -/
def Axis.stand (x : Axis) : Axis :=
  { x with state := .idle, vel := 0, acc := 0, allowance := 0, leg := none, plan := none, stopHoming := false }

/-- The abrupt stop at an unexpected end-stop (R144). -/
def Axis.abrupt (x : Axis) : Axis := { x.stand with homed := false }

/-- A homing fails (R143). -/
def Axis.homingFails (x : Axis) : Axis := { x.stand with homed := false, position := 0 }

/-- The home point is found (R142). -/
def Axis.homeFound (x : Axis) : Axis := { x.stand with homed := true, position := 0 }

/-! ### Legs (R134, R136) -/

/-- The direction from one position to another. -/
def towards (source target : Nat) : Dir := if target < source then .negative else .positive

/-- The distance between two positions. -/
def distance (a b : Nat) : Nat := (a - b) + (b - a)

/-- DIR is high for a positive step (R134). -/
def Dir.high : Dir → Bool
  | .positive => true
  | .negative => false

/-- A leg starts toward an end position (R136). -/
def Axis.startLeg (x : Axis) (target : Nat) : Axis :=
  let d := towards x.position target
  { x with leg := some { dir := d, left := distance x.position target }, vel := x.vstart, acc := 0, dirPin := d.high }

/-- An end-stop that is already active when a leg of a move starts stops it before its first step (R135); with
both active the outcome names the low one (notes/assumptions/37.md). -/
def Axis.checkEndstops (x : Axis) : Axis × AxisEvent :=
  if x.lowActive then (x.abrupt, .outcome (.endstop .low))
  else if x.highActive then (x.abrupt, .outcome (.endstop .high))
  else (x, .quiet)

/-! ### Absolute moves (R139, R140) -/

/-- The target limited to the travel limit (R139). -/
def Axis.clampTarget (x : Axis) (target : Nat) : Nat := min target x.limit

/-- A move to this target needs a leg (R139, R154). -/
def Axis.needsLeg (x : Axis) (target : Nat) : Bool := decide (x.clampTarget target ≠ x.position)

/-- Travel from the position to the target is in the approach direction (R139). -/
def inApproach (approach : Dir) (position target : Nat) : Bool :=
  match approach with
  | .positive => decide (position < target)
  | .negative => decide (target < position)

/-- The overshoot point: the target less B in the approach direction, clamped into the travel (R139). -/
def Axis.overshoot (x : Axis) (approach : Dir) (target : Nat) : Nat :=
  match approach with
  | .positive => target - x.backlash
  | .negative => min (target + x.backlash) x.limit

/-- An axis takes an absolute move, its first leg granted in the same event (R139, R154). A target equal to
the position ends the move at once. -/
def Axis.takeMove (x : Axis) (approach : Dir) (target : Nat) : Axis × AxisEvent :=
  let t := x.clampTarget target
  let clamped := decide (x.limit < target)
  if t = x.position then (x, .outcome (.done clamped))
  else
    let owed := !inApproach approach x.position t
    let firstEnd := if owed then x.overshoot approach t else t
    let y : Axis := { x with state := .moving, plan := some { target := t, clamped := clamped, owed := owed } }
    (y.startLeg firstEnd).checkEndstops

/-- The clamped mark of the move in hand. -/
def Axis.clampedMark (x : Axis) : Bool := x.plan.any fun p => p.clamped

/-- The move's last leg has ended (R140). -/
def Axis.moveDone (x : Axis) : Axis × AxisEvent := (x.stand, .outcome (.done x.clampedMark))

/-- The leg of an axis ends (R137 step 5, R140). -/
def Axis.legEnds (x : Axis) : Axis × AxisEvent :=
  if x.state = .moving ∧ x.plan.any (fun p => p.owed) then
    ({ x with state := .approach, vel := 0, acc := 0, leg := none }, .asks)
  else x.moveDone

/-- The approach leg is granted (R140). An end-stop that is active stops it as it starts (R135); one of distance
0 then starts and ends at once, with DIR as the leg before left it (R136, notes/assumptions/34.md). -/
def Axis.grantApproach (x : Axis) : Axis × AxisEvent :=
  match x.plan with
  | none => (x, .quiet)
  | some p =>
    if p.target = x.position then (if x.anyActive then x.checkEndstops else x.moveDone)
    else (({ x with plan := some { p with owed := false } } : Axis).startLeg p.target).checkEndstops

/-! ### Homing (R141 to R143) -/

/-- RELEASE begins (R142). A travel limit below 8 leaves it an allowance of 0, which the next profile tick fails
(notes/assumptions/33.md). -/
def Axis.beginRelease (x : Axis) : Axis :=
  { x with state := .release, dirPin := true, vel := x.homeVel / 4, acc := 0, allowance := x.limit / 8 }

/-- An axis takes a homing, granted in the same event; a low end-stop already active ends SEEK at once
(R141). -/
def Axis.takeHoming (x : Axis) : Axis :=
  let y : Axis :=
    { x with
      homed := false, position := 0, allowance := x.limit + x.limit / 8, state := .seek, dirPin := false, vel := x.vstart,
      acc := 0, leg := none, plan := none }
  if y.lowActive then y.beginRelease else y

/-! ### The profile tick (R137, R141, R142, R145) -/

/-- The velocity of a leg after step 1 of R137, for a remaining count. -/
def Axis.profileVelocity (x : Axis) (left : Nat) : Nat :=
  if 2000 * x.accel * left + x.vstart * x.vstart ≤ x.vel * x.vel then max (x.vel - x.accel) x.vstart
  else min (x.vel + x.accel) x.vmax

/-- The position after some steps in a direction (R134). -/
def stepped (position : Nat) (d : Dir) (steps : Nat) : Nat :=
  match d with
  | .positive => position + steps
  | .negative => position - steps

/-- A profile tick of a running leg in MOVING or APPROACH (R137). -/
def Axis.legTick (x : Axis) (l : Leg) : Axis × AxisEvent :=
  let v := x.profileVelocity l.left
  let acc := x.acc + v
  let steps := min (acc / 1000) l.left
  let y : Axis :=
    { x with
      vel := v, acc := acc - 1000 * steps, leg := some { l with left := l.left - steps },
      position := stepped x.position l.dir steps, pulses := steps }
  if l.left - steps = 0 then y.legEnds else (y, .quiet)

/-- A profile tick in SEEK or RELEASE at a velocity: the steps leave the position as it is, and with no allowance
left the homing fails (R134, R141 to R143; notes/assumptions/33.md). -/
def Axis.homingTick (x : Axis) (v : Nat) : Axis × AxisEvent :=
  let acc := x.acc + v
  let steps := min (acc / 1000) x.allowance
  let y : Axis := { x with vel := v, acc := acc - 1000 * steps, allowance := x.allowance - steps, pulses := steps }
  if x.allowance - steps = 0 then (y.homingFails, .outcome .homeFail) else (y, .quiet)

/-- A profile tick in STOPPING (R145). -/
def Axis.stopTick (x : Axis) (l : Leg) : Axis × AxisEvent :=
  let v := if x.vel < x.vstart then x.vel else max (x.vel - x.accel) x.vstart
  let acc := x.acc + v
  let steps := min (acc / 1000) l.left
  let y : Axis :=
    { x with
      vel := v, acc := acc - 1000 * steps, leg := some { l with left := l.left - steps },
      position := if x.stopHoming then x.position else stepped x.position l.dir steps, pulses := steps }
  if v ≤ x.vstart ∨ l.left - steps = 0 then (y.stand, .outcome .stopped) else (y, .quiet)

/-- A profile tick of one axis; an axis that is not in motion emits nothing (R137, R141, R142, R145). -/
def Axis.tick (x : Axis) : Axis × AxisEvent :=
  match x.state, x.leg with
  | .seek, _ => x.homingTick (min (x.vel + x.accel) x.homeVel)
  | .release, _ => x.homingTick x.vel
  | .moving, some l => x.legTick l
  | .approach, some l => x.legTick l
  | .stopping, some l => x.stopTick l
  | _, _ => ({ x with pulses := 0 }, .quiet)

/-! ### Stop requests (R145, R146) -/

/-- A homing is brought to a stop within its allowance (R145). -/
def Axis.stopFromHoming (x : Axis) (d : Dir) : Axis :=
  { x with state := .stopping, leg := some { dir := d, left := x.allowance }, allowance := 0, stopHoming := true }

/-- A stop request reaches an axis (R145, R146). -/
def Axis.stopRequest (x : Axis) : Axis × AxisEvent :=
  match x.state with
  | .seek => (x.stopFromHoming .negative, .quiet)
  | .release => (x.stopFromHoming .positive, .quiet)
  | .moving => ({ x with state := .stopping, stopHoming := false }, .quiet)
  | .approach => if x.leg.isSome then ({ x with state := .stopping, stopHoming := false }, .quiet) else (x.stand, .outcome .stopped)
  | .off => (x, .quiet)
  | .idle => (x, .quiet)
  | .stopping => (x, .quiet)

/-! ### End-stop changes (R135, R141 to R144) -/

/-- The low end-stop becomes active (R135, R141, R144). -/
def Axis.lowBecomesActive (x : Axis) : Axis × AxisEvent :=
  match x.state with
  | .seek => (x.beginRelease, .quiet)
  | .moving => (x.abrupt, .outcome (.endstop .low))
  | .stopping => (x.abrupt, .outcome (.endstop .low))
  | .approach => if x.leg.isSome then (x.abrupt, .outcome (.endstop .low)) else (x, .quiet)
  | .release => (x, .quiet)
  | .off => (x, .quiet)
  | .idle => (x, .quiet)

/-- The high end-stop becomes active (R135, R143, R144). -/
def Axis.highBecomesActive (x : Axis) : Axis × AxisEvent :=
  match x.state with
  | .seek => (x.homingFails, .outcome .homeFail)
  | .release => (x.homingFails, .outcome .homeFail)
  | .moving => (x.abrupt, .outcome (.endstop .high))
  | .stopping => (x.abrupt, .outcome (.endstop .high))
  | .approach => if x.leg.isSome then (x.abrupt, .outcome (.endstop .high)) else (x, .quiet)
  | .off => (x, .quiet)
  | .idle => (x, .quiet)

/-- The low end-stop becomes inactive: in RELEASE, the home point (R142). -/
def Axis.lowBecomesInactive (x : Axis) : Axis × AxisEvent :=
  match x.state with
  | .release => (x.homeFound, .outcome (.done false))
  | .seek => (x, .quiet)
  | .moving => (x, .quiet)
  | .stopping => (x, .quiet)
  | .approach => (x, .quiet)
  | .off => (x, .quiet)
  | .idle => (x, .quiet)

/-- The axis an end-stop input belongs to (R132). -/
def endAxis : EndStop → AxisId
  | .hl => .h
  | .hh => .h
  | .vl => .v
  | .vh => .v

/-- An end-stop is the low one of its axis. -/
def isLow : EndStop → Bool
  | .hl => true
  | .hh => false
  | .vl => true
  | .vh => false

/-- The input's pin goes to the level its selected edge leads to, or away from it. -/
def Axis.setInput (x : Axis) (e : EndStop) (selected : Bool) : Axis :=
  if isLow e then { x with lowLevel := selected != x.lowFalling } else { x with highLevel := selected != x.highFalling }

/-- Whether the axis has the input enabled. -/
def Axis.inputEnabled (x : Axis) (e : EndStop) : Bool := if isLow e then x.lowEnable else x.highEnable

/-- The input's latched flag becomes set (R135). -/
def Axis.latch (x : Axis) (e : EndStop) : Axis :=
  if isLow e then { x with lowLatched := true } else { x with highLatched := true }

/-- A selected edge of an end-stop input: an enabled input latches its flag and becomes active (R135). -/
def Axis.inputEdge (x : Axis) (e : EndStop) : Axis × AxisEvent :=
  let y := x.setInput e true
  if y.inputEnabled e then
    let z := y.latch e
    if isLow e then z.lowBecomesActive else z.highBecomesActive
  else (y, .quiet)

/-- An end-stop input becomes inactive (R142). -/
def Axis.inputInactive (x : Axis) (e : EndStop) : Axis × AxisEvent :=
  let y := x.setInput e false
  if y.inputEnabled e && isLow e then y.lowBecomesInactive else (y, .quiet)

/-! ### Pins (R130, R133) -/

/-- DRV_EN of an axis: deasserted while RESET_N is asserted (R130). -/
def State.drvEn (s : State) (a : AxisId) : Bool := s.live && (s.axis a).driverEnabled

/-- CUR_SEL of an axis selects run current (R133); hold while RESET_N is asserted (R150). -/
def State.runSelected (s : State) (a : AxisId) : Bool := s.live && (s.axis a).inMotion

end Sys2Proof.Machine
end

