-- ==== Sys2Proof/Machine/LightDrive.lean ====
section
/-! DEFINITION. The light drive: the limiter set, the target, the immediate drop, the ramp and the PWM output
(R51 to R63). -/

namespace Sys2Proof.Machine

/-- The smallest of the four limiters (R55). -/
def Light.lowest (l : Light) : Nat := min (min l.safety l.motion) (min l.thermal l.user)

/-- The limiter whose value is the smallest, the first in the order SAFETY, MOTION, THERMAL, USER (R55). -/
def Light.governor (l : Light) : Limiter :=
  if l.safety = l.lowest then .safety
  else if l.motion = l.lowest then .motion
  else if l.thermal = l.lowest then .thermal
  else .user

/-- Setting the applied level; the PWM buffer takes it in the same event (R58, R59, R61). -/
def Light.setApplied (l : Light) (n : Nat) : Light := { l with applied := n, pwmBuffer := n }

/-- The target and the governing limiter formed anew (R55). -/
def Light.retarget (l : Light) : Light := { l with target := l.lowest, governing := l.governor }

/-- The immediate drop: an applied level above SAFETY or MOTION becomes the target at once (R58). -/
def Light.drop (l : Light) : Light :=
  if l.safety < l.applied ∨ l.motion < l.applied then l.setApplied l.target else l

/-- What follows every write of a limiter (R55, R58). -/
def Light.reform (l : Light) : Light := l.retarget.drop

/-- The USER limiter written (R53). -/
def Light.setUser (l : Light) (n : Nat) : Light := ({ l with user := n } : Light).reform

/-- The THERMAL limiter formed (R54). -/
def Light.setThermal (l : Light) (n : Nat) : Light := ({ l with thermal := n } : Light).reform

/-- A hold of the MOTION limiter (R56). -/
def Light.hold (l : Light) : Light := ({ l with motion := l.blankLevel, motionHeld := true } : Light).reform

/-- A release of the MOTION limiter; it changes nothing while MOTION held is no (R56). -/
def Light.release (l : Light) : Light :=
  if l.motionHeld then ({ l with motion := Config.fullLevel, motionHeld := false } : Light).reform else l

/-- SAFETY and LIGHT_EN at a change of operating state (R57). -/
def Light.setSafety (l : Light) (lit : Bool) : Light :=
  ({ l with safety := if lit then Config.fullLevel else 0, lightEn := lit } : Light).reform

/-- A ramp tick (R59). -/
def Light.ramp (l : Light) : Light :=
  if l.applied < l.target then l.setApplied (min (l.applied + l.rampStep) l.target)
  else if l.target < l.applied then l.setApplied (max (l.applied - l.rampStep) l.target)
  else l.setApplied l.applied

/-- A LIGHT_PWM period boundary (R61). -/
def Light.pwmBoundary (l : Light) : Light := { l with pwmLevel := l.pwmBuffer }

/-- The dump-load estimate D (R51). -/
def State.dumpLoad (s : State) : Nat := s.light.applied * (1023 - s.stats.feedForward) / 1023

/-- Any zone is blind (R54). -/
def State.anyBlind (s : State) : Bool := ZoneId.all.any fun z => (s.zone z).blind

/-- The loss action of a fan (R103). -/
def lossAction : FanId → LossAction
  | .f0 => .trip
  | .f1 => .cap
  | .f2 => .cap

/-- A fan whose loss action is CAP is FAILED (R54, R105). -/
def State.capLost (s : State) : Bool :=
  FanId.all.any fun f => decide (lossAction f = .cap) && decide ((s.fan f).state = .failed)

/-- The smallest of the thermal ceilings in force (R54). -/
def State.thermalCeiling (s : State) : Nat :=
  let c := s.zoneCtl.ceiling
  let c := if s.anyBlind then min c s.zoneCtl.blindCap else c
  if s.capLost then min c s.zoneCtl.lossCap else c

/-- The THERMAL limiter formed afresh, and the target with it (R54). -/
def State.reformThermal (s : State) : State := s.setLight (s.light.setThermal s.thermalCeiling)

/-- Whether LIGHT_PWM is high at a count of its 4095-count period (R61); low while RESET_N is asserted (R52). -/
def State.lightPwmHigh (s : State) (count : Nat) : Bool := s.live && decide (count < s.light.pwmLevel)

end Sys2Proof.Machine
end

