-- ==== Sys2Proof/Machine/Fans.lean ====
section
/-! DEFINITION. The fan drivers: the five states, requested duty, ceilings, PWM and speed measurement (R103 to
R115). A stall's trip and the entry to FAILED stand in StateControl.lean. -/

namespace Sys2Proof.Machine

/-- The fan's ceiling for an acoustic mode (R103). -/
def Fan.modeCeiling (f : Fan) : Acoustic → Nat
  | .quiet => f.quiet
  | .standard => f.standard
  | .highAltitude => f.high

/-- Setting the applied duty; the PWM buffer takes it as it is set (R113). -/
def Fan.setApplied (f : Fan) (d : Nat) : Fan := { f with applied := d, pwmBuffer := d }

/-- Entry to KICK (R107, R109). -/
def Fan.enterKick (f : Fan) : Fan :=
  { f.setApplied Config.fullDuty with
    state := .kick, kickTimer := some Config.kickTime, stallTimer := some Config.stallTime, pauseTimer := none, clearTimer := none }

/-- Entry to OFF (R107, R109). -/
def Fan.enterOff (f : Fan) : Fan :=
  { f.setApplied 0 with state := .off, kickTimer := none, stallTimer := none, pauseTimer := none, clearTimer := none }

/-- Entry to RUNNING at the requested duty; the stall timer runs on (R107, R108, R109). -/
def Fan.enterRunning (f : Fan) : Fan :=
  { f.setApplied f.requested with state := .running, kickTimer := none, clearTimer := some Config.retryClearTime }

/-- Entry to PAUSE (R110). -/
def Fan.enterPause (f : Fan) : Fan :=
  { f.setApplied 0 with
    state := .pause, kickTimer := none, stallTimer := none, pauseTimer := some Config.pauseTime, clearTimer := none }

/-- Entry to FAILED (R111). -/
def Fan.enterFailed (f : Fan) : Fan :=
  { f.setApplied 0 with
    state := .failed, atCeiling := true, kickTimer := none, stallTimer := none, pauseTimer := none, clearTimer := none }

/-- A fan's new requested duty acts as its state requires (R107, R108, R110, R111). -/
def Fan.act (f : Fan) : Fan :=
  match f.state with
  | .off => if f.requested = 0 then f else f.enterKick
  | .running => if f.requested = 0 then f.enterOff else f.setApplied f.requested
  | .kick => f
  | .pause => f
  | .failed => f

/-- A zone's demand as one fan takes it: GUARD counts as the fan's minimum duty (R105). -/
def Fan.demandOf (f : Fan) : Demand → Nat
  | .duty d => d
  | .guard => f.minDuty

/-- The demands handed to a fan: those of the zones whose mask includes it (R105). -/
def FanDrv.serving (d : FanDrv) (f : FanId) : List Handed := d.handed.toList.filter fun h => inMask h.mask f

/-- The largest demand on a fan, 0 when no zone's mask includes it (R105 step 1). -/
def FanDrv.largest (d : FanDrv) (f : FanId) (x : Fan) : Nat := ((d.serving f).map fun h => x.demandOf h.demand).foldl max 0

/-- The floor of R105 step 2. -/
def Fan.floored (x : Fan) (d : Nat) : Nat :=
  if d = 0 then (if x.mayStop then 0 else x.minDuty) else max d x.minDuty

/-- The ceiling in force of R105 step 3, from whether a CAP fan is FAILED. -/
def FanDrv.ceilingFor (d : FanDrv) (capLost : Bool) (f : FanId) (x : Fan) : Nat :=
  if capLost || (d.serving f).any (fun h => h.blind) then Config.fullDuty else x.modeCeiling d.handedMode

/-- A fan's requested duty, flag and ceiling in force formed from the demands handed (R105), and the duty's
effect on the fan. -/
def FanDrv.formed (d : FanDrv) (capLost : Bool) (f : FanId) (x : Fan) : Fan :=
  let want := x.floored (d.largest f x)
  let ceiling := d.ceilingFor capLost f x
  ({ x with
    requested := min want ceiling
    atCeiling := decide (x.state = .failed) || decide (ceiling ≤ want)
    ceiling := ceiling } : Fan).act

/-- A fan driven at full while the part is TRIPPED: requested duty 1023, flag set, ceiling 1023 (R106). -/
def Fan.full (x : Fan) : Fan :=
  let y : Fan := { x with requested := Config.fullDuty, atCeiling := true, ceiling := Config.fullDuty }
  if y.state = .pause then y.enterKick else y.act

/-- Every fan's record put through one update. -/
def FanDrv.each (d : FanDrv) (g : FanId → Fan → Fan) : FanDrv :=
  { d with fans := #v[g .f0 (d.fans[FanId.idx .f0]), g .f1 (d.fans[FanId.idx .f1]), g .f2 (d.fans[FanId.idx .f2])] }

/-- Every fan's requested duty formed from the demands and mode handed at the last control tick (R105, R106). -/
def State.formFans (s : State) : State := s.setFanDrv (s.fanDrv.each (s.fanDrv.formed s.capLost))

/-- Every fan driven at full (R106). -/
def State.fullFans (s : State) : State := s.setFanDrv (s.fanDrv.each fun _ x => x.full)

/-- The kick timer expires in KICK (R107). -/
def Fan.kickExpired (f : Fan) : Fan :=
  if f.state = .kick then (if f.requested = 0 then f.enterOff else f.enterRunning) else f

/-- The pause timer expires in PAUSE (R110). -/
def Fan.pauseExpired (f : Fan) : Fan :=
  if f.state = .pause then (if f.requested = 0 then f.enterOff else f.enterKick) else f

/-- The retry-clear timer expires in RUNNING (R108). -/
def Fan.clearExpired (f : Fan) : Fan :=
  if f.state = .running then { f with retry := 0, clearTimer := none } else f

/-- The speed between two selected edges (R114); `free` stands for it where the interval is 0. -/
def Fan.speedOver (f : Fan) (micros free : Nat) : Nat :=
  if micros * f.edges = 0 then min free Config.maxSpeed else 60000000 / (micros * f.edges)

/-- An edge is a selected one: a rise when the select is RISING, a fall when it is FALLING, either when it is
BOTH (R114). -/
def Fan.selects (f : Fan) (rise : Bool) : Bool :=
  match f.edgeSel with
  | .rising => rise
  | .falling => !rise
  | .both => true

/-- A selected tach edge, some µs after the held one: the measured speed, the held edge, and the stall timer
while it runs (R109, R114). -/
def Fan.edge (f : Fan) (micros free : Nat) : Fan :=
  { f with
    speed := if f.edgeHeld then (if micros ≤ Config.tachWindow then f.speedOver micros free else 0) else f.speed
    edgeHeld := true
    stallTimer := f.stallTimer.map fun _ => Config.stallTime }

/-- The edge's speed is a free value: two edges in one microsecond (R114, notes/assumptions/9.md). -/
def Fan.drawsFree (f : Fan) (micros : Nat) : Bool := f.edgeHeld && decide (micros * f.edges = 0)

/-- No selected edge for 1,000,000 µs (R114). -/
def Fan.edgeLost (f : Fan) : Fan := { f with edgeHeld := false, speed := 0 }

/-- A FAN_PWM period boundary (R113). -/
def Fan.pwmBoundary (f : Fan) : Fan := { f with pwmLevel := f.pwmBuffer }

/-- Whether a FAN_PWM output is high at a count of its 1023-count period (R113). -/
def State.fanPwmHigh (s : State) (f : FanId) (count : Nat) : Bool := s.live && decide (count < (s.fan f).pwmLevel)

/-- The fan draw of the rail check, in units of 10 mA (R155). -/
def State.fanDraw (s : State) : Nat := (FanId.all.map fun f => (s.fan f).applied * (s.fan f).current / 1023).sum

end Sys2Proof.Machine
end

