-- ==== Sys2Proof/Machine/Motion.lean ====
section
/-! DEFINITION. The motion queue: how requests end, the rail allowance, the start of the head request, recalls,
stops and trips (R151 to R164). A chain of events that one step sets off (a leg that ends as it starts, a
request that ends as it starts) is followed with a bound on its length, so that every function here is
structural. -/

namespace Sys2Proof.Machine

/-! ### Progress of the executing request -/

def Executing.work (x : Executing) : AxisId → Work
  | .h => x.hWork
  | .v => x.vWork

def Executing.setWork (x : Executing) : AxisId → Work → Executing
  | .h, w => { x with hWork := w }
  | .v, w => { x with vWork := w }

def Executing.target (x : Executing) : AxisId → Nat
  | .h => x.hTarget
  | .v => x.vTarget

def Executing.setPhase (x : Executing) (p : Phase) : Executing := { x with req := { x.req with phase := p } }

/-- All the work of the request on both axes has ended. -/
def Executing.allFinished (x : Executing) : Bool :=
  (decide (x.hWork = .unused) || decide (x.hWork = .finished)) && (decide (x.vWork = .unused) || decide (x.vWork = .finished))

def State.setExecuting (s : State) (x : Option Executing) : State := s.setMotion { s.motion with executing := x }

/-- The kind of a request (R151, R164). -/
def Job.kind : Job → RequestKind
  | .moveAxis _ _ => .moveAxis
  | .stepAxis _ _ => .stepAxis
  | .home _ => .home
  | .recall _ _ => .recallPreset

/-- The request moves its axis, or homes it. -/
def Job.isHome : Job → Bool
  | .home _ => true
  | .moveAxis _ _ => false
  | .stepAxis _ _ => false
  | .recall _ _ => false

/-! ### The history (R164) -/

/-- The history entry of a request that ends now (R164). -/
def State.histEntry (s : State) (r : Request) (res : MotionResult) : HistEntry :=
  { tag := r.tag, kind := r.job.kind, result := res, hPos := s.axisH.position, vPos := s.axisV.position }

/-- A request's end written into the history, with MOTION_DONE (R164). -/
def State.record (s : State) (r : Request) (res : MotionResult) : State :=
  (s.setMotion { s.motion with history := (s.histEntry r res :: s.motion.history).take Config.queueRoom }).raise .motionDone

/-- The blank hold is released, if it is held (R161). -/
def State.releaseHold (s : State) : State :=
  if s.motion.blankHold then (s.setMotion { s.motion with blankHold := false }).setLight s.light.release else s

/-- The executing request ends with a result: its history entry, its blank hold and the rail wait timer
(R157, R161, R162, R164). -/
def State.endRequest (s : State) (res : MotionResult) : State :=
  match s.motion.executing with
  | none => s
  | some x =>
    let s := (s.record x.req res).releaseHold
    s.setMotion { s.motion with executing := none, railTimer := none }

/-- Queued records end with a result, oldest first (R162, R163, R164). -/
def State.endAll (s : State) (res : MotionResult) : List Request → State
  | [] => s
  | r :: rs => (s.record r res).endAll res rs

/-- Every queued record ends with a result and the queue becomes empty (R162, R163). -/
def State.flushQueue (s : State) (res : MotionResult) : State :=
  let s := s.endAll res s.motion.queue
  s.setMotion { s.motion with queue := [] }

/-! ### Axis outcomes (R157) -/

/-- An axis that is in motion or waits in APPROACH. -/
def Axis.busy (x : Axis) : Bool := x.inMotion || x.waits

/-- A stop request sent to an axis whose outcome is set aside (R156, R157, R163). -/
def State.stopAside (s : State) (a : AxisId) : State :=
  if (s.axis a).busy then s.setAxis a (s.axis a).stopRequest.1 else s

/-- A stop request sent to each axis that the request `x` has handed work to, its outcome set aside. -/
def State.stopRequestAxes (s : State) (x : Executing) : State :=
  let s := if x.hWork = .active then s.stopAside .h else s
  if x.vWork = .active then s.stopAside .v else s

/-- The axis that is not this one. -/
def otherAxis : AxisId → AxisId
  | .h => .v
  | .v => .h

/-- An outcome reaches the queue from an axis (R157). It is set aside when the axis has no work in hand for the
executing request. -/
def State.noteOutcome (s : State) (a : AxisId) (o : AxisOutcome) : State :=
  match s.motion.executing with
  | none => s
  | some x =>
    if x.work a = .active then
      match o with
      | .done clamped =>
        let y := x.setWork a .finished
        s.setExecuting (some { y with req := { y.req with clamped := y.req.clamped || clamped } })
      | .stopped => s.setExecuting (some (x.setWork a .finished))
      | .endstop _ => (s.endRequest .endstop).stopRequestAxes (x.setWork a .finished)
      | .homeFail => s.endRequest .homeFail
    else s

/-- The event flags an axis sets with its outcome (R143, R144). -/
def AxisOutcome.flags (o : AxisOutcome) (s : State) : State :=
  match o with
  | .endstop _ => s.raise .endstop
  | .homeFail => s.raise .homeFail
  | .done _ => s
  | .stopped => s

/-- What an axis has for the queue is taken (R147, R157). A request for an approach leg is judged with the
leg starts (R155). -/
def State.takeEvent (s : State) (a : AxisId) (e : AxisEvent) : State :=
  match e with
  | .quiet => s
  | .asks => s
  | .outcome o => (o.flags s).noteOutcome a o

/-! ### The rail allowance (R155) -/

/-- The run current an axis adds to the rail while it is in motion (R155). -/
def Axis.movingDraw (x : Axis) : Nat := if x.inMotion then x.current else 0

/-- The rail allows a start that adds some current (R155). -/
def State.railAllows (s : State) (add : Nat) : Bool :=
  decide (s.fanDraw + (s.axisH.movingDraw + s.axisV.movingDraw) + add ≤ s.ctl.budget)

/-- The approach direction in force (R138). -/
def State.approachOf (s : State) : AxisId → Dir
  | .h => s.axisH.approach
  | .v => if s.ctl.orientation = .desk then .positive else .negative

/-- Whether the H axis must wait for V: the second half of HOME BOTH, or of a recall that runs in sequence
(R154, R158). -/
def Executing.holdsBackH (x : Executing) : Bool :=
  (x.req.job.isHome || x.inSequence) && decide (x.vWork ≠ .unused) && decide (x.vWork ≠ .finished)

/-- The axis has a leg start to judge: it waits in APPROACH, or its move or homing is yet to be handed
(R155). Whether a move needs a leg is judged at its start alone, by `handIdle` (notes/assumptions/35.md). -/
def State.wantsStart (s : State) (x : Executing) (a : AxisId) : Bool :=
  (decide (x.work a = .active) && (s.axis a).waits)
    || (decide (x.work a = .owed) && !(decide (a = .h) && x.holdsBackH))

/-- An allowed start: the approach leg is granted, or the move or homing is handed and its first leg granted
in the same event (R136, R139, R141, R154, R155). -/
def State.beginAxis (s : State) (x : Executing) (a : AxisId) : State × AxisEvent :=
  let (y, e) :=
    if x.work a = .active then (s.axis a).grantApproach
    else if x.req.job.isHome then ((s.axis a).takeHoming, .quiet)
    else (s.axis a).takeMove (s.approachOf a) (x.target a)
  (s.setAxis a y, e)

/-- The request goes on in phase RUNNING with the rail wait timer stopped (R155). -/
def State.resume (s : State) (x : Executing) : State :=
  s.setMotion { s.motion with executing := some (x.setPhase .running), railTimer := none }

/-- A start that the rail does not carry: held in RUNNING while an axis of the request moves, otherwise the
request enters, or stays in, WAIT_RAIL (R155). -/
def State.holdStart (s : State) (x : Executing) : State :=
  if (decide (x.hWork = .active) && s.axisH.inMotion) || (decide (x.vWork = .active) && s.axisV.inMotion) then
    s.resume x
  else if x.req.phase = .waitRail then s
  else s.setMotion { s.motion with executing := some (x.setPhase .waitRail), railTimer := some Config.railWaitTime }

/-- One axis starts alone. -/
def State.startOne (s : State) (x : Executing) (a : AxisId) : State × AxisEvent × AxisEvent :=
  let (s, e) := (s.resume (x.setWork a .active)).beginAxis x a
  match a with
  | .h => (s, e, .quiet)
  | .v => (s, .quiet, e)

/-- Both axes start together: both are handed before either outcome is taken. -/
def State.startBoth (s : State) (x : Executing) : State × AxisEvent × AxisEvent :=
  let (s, eh) := (s.resume ((x.setWork .h .active).setWork .v .active)).beginAxis x .h
  let (s, ev) := s.beginAxis x .v
  (s, eh, ev)

/-- The leg starts of the executing request judged against the rail: the pair first and V alone second, or one
axis on its own (R155, R158). -/
def State.judgeRail (s : State) (x : Executing) : State × AxisEvent × AxisEvent :=
  match s.wantsStart x .h, s.wantsStart x .v with
  | true, true =>
    if s.railAllows (s.axisH.current + s.axisV.current) then s.startBoth x
    else if s.railAllows s.axisV.current then
      s.startOne (if x.hWork = .owed then { x with inSequence := true } else x) .v
    else (s.holdStart x, .quiet, .quiet)
  | true, false => if s.railAllows s.axisH.current then s.startOne x .h else (s.holdStart x, .quiet, .quiet)
  | false, true => if s.railAllows s.axisV.current then s.startOne x .v else (s.holdStart x, .quiet, .quiet)
  | false, false => (s, .quiet, .quiet)

/-! ### The end of a request's work (R157, R159, R160) -/

/-- The result of a request all of whose work is done (R157). -/
def Request.completion (r : Request) : MotionResult := if r.clamped then .completedClamped else .completed

/-- A recall's named slot is VALID: the pending choice is placed and the recall enters SWITCHING, or ends at
once while silence armed is no (R16, R159, R160). -/
def State.enterSwitching (s : State) (x : Executing) (n : Fin 4) : State :=
  let s := s.setWarp { s.warp with choice := some { slot := some n, origin := .recall x.req.tag } }
  let s := s.setExecuting (some (x.setPhase .switching))
  if s.ctl.armed then s else s.endRequest x.req.completion

/-- All the work of the executing request has ended DONE: a recall takes its grid step, any other request ends
(R157, R159). -/
def State.finishWork (s : State) (x : Executing) : State :=
  match x.req.job with
  | .recall _ p =>
    match p.slot with
    | none => s.endRequest x.req.completion
    | some n => if (s.slot n).state = .valid then s.enterSwitching x n else s.endRequest .gridHeld
  | .moveAxis _ _ => s.endRequest x.req.completion
  | .stepAxis _ _ => s.endRequest x.req.completion
  | .home _ => s.endRequest x.req.completion

/-- An axis of the executing request is in motion or waits in APPROACH (R157). -/
def State.stillStopping (s : State) (x : Executing) : Bool :=
  (decide (x.hWork = .active) && s.axisH.busy) || (decide (x.vWork = .active) && s.axisV.busy)

/-- The executing request goes on after something has happened to it: a stop that has come to rest ends it,
finished work ends it or takes it to its grid step, and otherwise its leg starts are judged (R155, R157,
R159). A start that ends as it starts is followed at once; `fuel` bounds how often. -/
def State.carryOn (s : State) : Nat → State
  | 0 => s
  | fuel + 1 =>
    match s.motion.executing with
    | none => s
    | some x =>
      if x.req.phase = .switching then s
      else if x.req.stopReq then (if s.stillStopping x then s else s.endRequest .stopped)
      else if x.allFinished then s.finishWork x
      else
        match s.judgeRail x with
        | (t, .quiet, .quiet) => t
        | (t, eh, ev) => ((t.takeEvent .h eh).takeEvent .v ev).carryOn fuel

/-- Steps of `carryOn` that no chain of events outlasts: each axis ends at most a move and an approach leg. -/
def carryFuel : Nat := 8

/-! ### Starting the head request (R153, R154, R158) -/

/-- The part takes and starts motion requests in LIT and COOLDOWN alone (R152, R153). -/
def OpState.moves : OpState → Bool
  | .standby => false
  | .lit => true
  | .cooldown => true
  | .tripped => false

/-- The head request may start (R153). -/
def State.mayStart (s : State) : Bool :=
  s.motion.executing.isNone && decide (s.axisH.state = .idle) && decide (s.axisV.state = .idle) && s.ctl.op.moves

/-- Whether a request moves or homes an axis. -/
def Job.involves (j : Job) (a : AxisId) : Bool :=
  match j with
  | .moveAxis b _ => decide (a = b)
  | .stepAxis b _ => decide (a = b)
  | .home .h => decide (a = .h)
  | .home .v => decide (a = .v)
  | .home .both => true
  | .recall _ _ => true

/-- The target a request has for an axis, formed at its start (R154, R158). -/
def Job.targetFor (j : Job) (s : State) (a : AxisId) : Nat :=
  match j with
  | .moveAxis _ t => t
  | .stepAxis b d => (clampInt ((s.axis b).position + d) 0 65535).toNat
  | .home _ => 0
  | .recall _ p => match a with | .h => p.hTarget | .v => p.vTarget

/-- A STEP_AXIS target had to be brought into 0..65,535 (R154). -/
def Job.stepClamped (j : Job) (s : State) : Bool :=
  match j with
  | .stepAxis b d => !within 0 65535 ((s.axis b).position + d)
  | .moveAxis _ _ => false
  | .home _ => false
  | .recall _ _ => false

/-- A request that needs a homed axis finds one unhomed (R154, R158). -/
def Job.needsHoming (j : Job) (s : State) : Bool :=
  !j.isHome && ((j.involves .h && !s.axisH.homed) || (j.involves .v && !s.axisV.homed))

/-- A starting recall whose copied blank flag is yes takes the blank hold in LIT (R56, R158). -/
def State.takeHold (s : State) (j : Job) : State :=
  match j with
  | .recall _ p =>
    if p.blank ∧ s.ctl.op = .lit then (s.setMotion { s.motion with blankHold := true }).setLight s.light.hold else s
  | .moveAxis _ _ => s
  | .stepAxis _ _ => s
  | .home _ => s

/-- The executing request, as it starts, hands an axis at once a move that needs no leg (R154, R158). The need is
not judged again while the request waits for the rail (notes/assumptions/35.md). -/
def State.handIdle (s : State) (a : AxisId) : State :=
  match s.motion.executing with
  | none => s
  | some x =>
    if x.work a = .owed ∧ !x.req.job.isHome ∧ !(s.axis a).needsLeg (x.target a) then
      let (y, e) := (s.axis a).takeMove (s.approachOf a) (x.target a)
      ((s.setExecuting (some (x.setWork a .active))).setAxis a y).takeEvent a e
    else s

/-- The executing request that a starting record becomes. -/
def State.executingOf (s : State) (r : Request) : Executing :=
  { req := { r with phase := .running, clamped := r.clamped || r.job.stepClamped s }
    hWork := if r.job.involves .h then .owed else .unused
    vWork := if r.job.involves .v then .owed else .unused
    hTarget := r.job.targetFor s .h
    vTarget := r.job.targetFor s .v
    inSequence := false }

/-- The head record, already off the queue, becomes the executing request and proceeds (R153, R154, R158). -/
def State.startRequest (s : State) (r : Request) : State :=
  let s1 := s.setExecuting (some (s.executingOf r))
  if r.job.needsHoming s then s1.endRequest .notHomed
  else (((s1.takeHold r.job).handIdle .h).handIdle .v).carryOn carryFuel

/-- The queue starts its head for as long as the conditions of R153 hold; `fuel` bounds how many records. -/
def State.startHeads (s : State) : Nat → State
  | 0 => s
  | fuel + 1 =>
    match s.motion.queue with
    | [] => s
    | r :: rest =>
      if s.mayStart then ((s.setMotion { s.motion with queue := rest }).startRequest r).startHeads fuel else s

/-- The queue starts what it may start (R153). -/
def State.pump (s : State) : State := s.startHeads s.motion.queue.length

/-- The executing request goes on, and the queue starts what it then may start (R153, R155, R157). -/
def State.proceed (s : State) : State := (s.carryOn carryFuel).pump

/-- An axis event is taken and the queue goes on; nothing happens after a quiet one. -/
def State.afterEvent (s : State) (a : AxisId) (e : AxisEvent) : State :=
  if e = .quiet then s else (s.takeEvent a e).proceed

/-! ### Recalls in SWITCHING, stops and trips (R17, R156, R160, R162, R163) -/

/-- A recall in SWITCHING ends COMPLETED or COMPLETED_CLAMPED (R160). -/
def State.endSwitching (s : State) : State :=
  match s.motion.executing with
  | none => s
  | some x => if x.req.phase = .switching then (s.endRequest x.req.completion).pump else s

/-- The pending choice is that of the recall with this tag (R17). -/
def Choice.ofRecall (c : Choice) (tag : Byte) : Bool := decide (c.origin = .recall tag)

/-- The withdrawal of a recall's own pending choice (R17). -/
def State.withdraw (s : State) (tag : Byte) : State :=
  if s.warp.choice.any (fun c => c.ofRecall tag) then s.setWarp { s.warp with choice := none } else s

/-- The withdrawal that goes with the end of a request in SWITCHING (R162, R163). -/
def State.withdrawIfSwitching (s : State) (x : Executing) : State :=
  if x.req.phase = .switching then s.withdraw x.req.tag else s

/-- The rail wait timer expires with the request in WAIT_RAIL (R156). -/
def State.railTimeout (s : State) : State :=
  match s.motion.executing with
  | none => s
  | some x => if x.req.phase = .waitRail then ((s.endRequest .railTimeout).stopRequestAxes x).pump else s

/-- A stop request sent to one axis of the executing request; a STOPPED it hands back at once is noted
(R145, R146, R162). -/
def State.stopActive (s : State) (a : AxisId) : State :=
  match s.motion.executing with
  | none => s
  | some x =>
    if x.work a = .active ∧ (s.axis a).busy then
      (s.setAxis a (s.axis a).stopRequest.1).takeEvent a (s.axis a).stopRequest.2
    else s

/-- STOP_MOTION on the executing request (R162 step 1). -/
def State.stopExecuting (s : State) : State :=
  match s.motion.executing with
  | none => s
  | some x =>
    if x.req.phase = .switching then (s.withdraw x.req.tag).endRequest .stopped
    else if x.req.stopReq then s
    else
      let s := s.setExecuting (some { x with req := { x.req with stopReq := true } })
      ((s.stopActive .h).stopActive .v).carryOn carryFuel

/-- The requests that STOP_MOTION ends at once: the queued ones, and the executing one when it has ended
(R162). -/
def State.endedAtOnce (s t : State) : Nat :=
  s.motion.queue.length + (if s.motion.executing.isSome ∧ t.motion.executing.isNone then 1 else 0)

/-- STOP_MOTION: the executing request, then the queued requests (R162). -/
def State.stopMotion (s : State) : State := (s.stopExecuting.flushQueue .flushed).pump

/-- The motion queue at entry to TRIPPED (R163). -/
def State.abortMotion (s : State) : State :=
  let s :=
    match s.motion.executing with
    | none => s
    | some x => ((s.withdrawIfSwitching x).endRequest .abortedTrip).stopRequestAxes x
  (s.releaseHold).flushQueue .abortedTrip

end Sys2Proof.Machine
end

