-- ==== Sys2Proof/Machine/Sources.lean ====
section
/-! DEFINITION. Source records and their health (R64 to R66), the thermistor conversion (R81, R82) and the trip
comparator's own judgement (R86). -/

namespace Sys2Proof.Machine

/-- What a read gives a source record: a good read with its temperature, or a failed read (R64). -/
inductive Reading where
  | good (temp : Int)
  | bad (o : ReadOutcome)
  deriving DecidableEq, Repr

/-- A failed read applied to a record that is UNREAD or OK (R65). -/
def Source.countFailure (x : Source) (o : ReadOutcome) : Source :=
  if 3 ≤ x.failures + 1 then { x with lastOutcome := o, failures := 3, state := .failed, goods := 0 }
  else { x with lastOutcome := o, failures := x.failures + 1 }

/-- A failed read applied to a record (R65). -/
def Source.applyBad (x : Source) (o : ReadOutcome) : Source :=
  match x.state with
  | .failed => { x with lastOutcome := o, goods := 0 }
  | .unread => x.countFailure o
  | .ok => x.countFailure o

/-- A good read applied to a record (R66). -/
def Source.applyGood (x : Source) (t : Int) : Source :=
  match x.state with
  | .failed =>
    if 5 ≤ x.goods + 1 then { x with lastOutcome := .done, lastGood := some t, state := .ok, failures := 0, goods := 0 }
    else { x with lastOutcome := .done, lastGood := some t, goods := x.goods + 1 }
  | .unread => { x with lastOutcome := .done, lastGood := some t, state := .ok, failures := 0 }
  | .ok => { x with lastOutcome := .done, lastGood := some t, state := .ok, failures := 0 }

/-- A read applied to a record (R65, R66). -/
def Source.apply (x : Source) : Reading → Source
  | .good t => x.applyGood t
  | .bad o => x.applyBad o

/-- Whether a read takes a record into FAILED, which sets SENSOR_FAIL (R65). -/
def Source.entersFailed (x : Source) (r : Reading) : Bool :=
  decide (x.state ≠ .failed) && decide ((x.apply r).state = .failed)

/-- A read handed to a source record (R65, R66, R80, R81). -/
def State.applyReading (s : State) (n : Fin 12) (r : Reading) : State :=
  (s.setSource n ((s.source n).apply r)).raiseIf ((s.source n).entersFailed r) .sensorFail

/-- A return to UNREAD keeps the zone assignment alone (R64). -/
def State.unread (s : State) (n : Fin 12) : State := s.setSource n (.unread (s.source n).zone)

/-! ### Thermistor conversion -/

/-- The table a letter names, as it is in use (R82). -/
def Temps.table (t : Temps) : TableId → Vector Int 17
  | .a => t.tableA
  | .b => t.tableB

/-- A code converted with a table (R82). -/
def convertCode (tab : Vector Int 17) (c : Nat) : Int :=
  let k := c / 256
  let f : Int := (c % 256 : Nat)
  tab.getD k 0 + ((tab.getD (k + 1) 0 - tab.getD k 0) * f + 128) / 256

/-- A code judged SHORTED, DONE or OPEN (R81). -/
def judgeCode (tab : Vector Int 17) (c : Nat) : Reading :=
  if c < 16 then .bad .shorted else if 4079 < c then .bad .openCircuit else .good (convertCode tab c)

/-- The channel converted after a channel in a scan (R81). -/
def nextChannel : Channel → Option Channel
  | .c0 => some .c1
  | .c1 => some .c2
  | .c2 => some .c3
  | .c3 => none

/-- The code that the comparator would see on a pin (R86, R88; notes/assumptions/7.md). -/
def State.setPinCode (s : State) (ch : Channel) (code : BitVec 12) : State :=
  s.setTemps { s.temps with pinCode := s.temps.pinCode.set ch.idx code }

/-- The table a channel uses (R82). -/
def Temps.tableOf (t : Temps) (ch : Channel) : TableId := t.channelTable[ch.idx]

/-- A channel's conversion completes: its outcome is handed to the channel's record unless it is to be
discarded (R81, R82). -/
def State.takeConversion (s : State) (ch : Channel) (code : BitVec 12) : State :=
  if s.temps.converting = some ch ∧ s.temps.discardConversion then s
  else s.applyReading ch.source (judgeCode (s.temps.table (s.temps.tableOf ch)) code.toNat)

/-- The scan goes on to the next channel, or ends (R81). -/
def State.advanceScan (s : State) (ch : Channel) : State :=
  if s.temps.converting = some ch then
    s.setTemps { s.temps with converting := nextChannel ch, discardConversion := false }
  else s

/-- A thermistor scan starts with C0 (R81). -/
def State.startScan (s : State) : State := s.setTemps { s.temps with converting := some .c0, discardConversion := false }

/-! ### Trip comparator -/

/-- The code the comparator sees on its channel (R86, R88). -/
def Temps.watchedCode (t : Temps) : Nat := t.pinCode[t.comparator.channel.idx].toNat

/-- Whether a code trips the comparator: it is RELEASED and the code is at or below the threshold (R86). -/
def Comparator.tripsAt (c : Comparator) (code : Nat) : Bool := decide (c.state = .released) && decide (code ≤ c.threshold)

/-- Whether a code releases the comparator: it is TRIPPED and the code is at or above the threshold plus 64
(R86). -/
def Comparator.releasesAt (c : Comparator) (code : Nat) : Bool :=
  decide (c.state = .tripped) && decide (c.threshold + Config.comparatorBand ≤ code)

def State.setComparator (s : State) (c : Comparator) : State := s.setTemps { s.temps with comparator := c }

end Sys2Proof.Machine
end

