-- ==== Sys2Proof/Machine/SensorBus.lean ====
section
/-! DEFINITION. The sensor bus: sweeps, transactions, PEC, conversion, faults and recovery (R69 to R80). The
model takes the bytes a transaction brought (notes/assumptions/8.md), and gives what the controller drove. -/

namespace Sys2Proof.Machine

/-! ### PEC (R76) -/

/-- One bit taken into the CRC-8. -/
def crc8Bit (crc : Byte) (bit : Bool) : Byte :=
  if Bool.xor crc.msb bit then (crc <<< 1) ^^^ 0x07#8 else crc <<< 1

/-- One byte taken into the CRC-8, most significant bit first. -/
def crc8Byte (crc b : Byte) : Byte := [7, 6, 5, 4, 3, 2, 1, 0].foldl (fun c i => crc8Bit c (b.getLsbD i)) crc

/-- The CRC-8 over some bytes, from the initial value 0. -/
def crc8 (bytes : List Byte) : Byte := bytes.foldl crc8Byte 0

/-- The bytes the controller sends in a transaction: the write byte, the register index and the read byte
(R74). -/
def PollEntry.sentBytes (e : PollEntry) : List Byte :=
  [BitVec.ofNat 8 (2 * e.address), BitVec.ofNat 8 e.register, BitVec.ofNat 8 (2 * e.address + 1)]

/-- The temperature of a raw reading under some fraction bits (R74, R75). -/
def convertRaw (raw : BitVec 16) (fraction : Nat) : Int := raw.toInt * 16 / (2 ^ fraction : Nat)

/-- The reading of a transaction that ran to its stop: acknowledges, then the PEC check, then conversion and
range (R74 to R76). -/
def PollEntry.judge (e : PollEntry) : SbEnd → Reading
  | .nackAddr _ => .bad .nackAddr
  | .nackData => .bad .nackData
  | .data hi lo pec =>
    if e.pec ∧ crc8 (e.sentBytes ++ [hi, lo]) ≠ pec then .bad .pecMismatch
    else
      let t := convertRaw (hi ++ lo) e.fraction
      if plausible t then .good t else .bad .range

/-! ### The two lines (R73, R74, R79) -/

/-- One bit: SB_CLK low with SB_DAT set for the bit, then SB_CLK released, each half for 5 µs (R73). -/
def driveBit (dat : Bool) : List SbLevel :=
  [⟨false, dat, some Config.sbHalfBit⟩, ⟨true, dat, some Config.sbHalfBit⟩]

/-- The bits of a byte, most significant first (R73). -/
def byteBits (b : Byte) : List Bool := [7, 6, 5, 4, 3, 2, 1, 0].map b.getLsbD

/-- What the controller drives for one signal. Of a byte it sends it drives the eight bits and leaves SB_DAT to the
target in the ninth; of a byte it receives it drives the acknowledge bit alone, low to acknowledge (R73, R79). -/
def SbSignal.drive : SbSignal → List SbLevel
  | .start => [⟨true, false, none⟩]
  | .repeatedStart => [⟨false, true, none⟩, ⟨true, true, none⟩, ⟨true, false, none⟩]
  | .stop => [⟨false, false, none⟩, ⟨true, false, none⟩, ⟨true, true, none⟩]
  | .release => [⟨true, true, none⟩]
  | .pulse => driveBit true
  | .sent b _ => (byteBits b ++ [true]).flatMap driveBit
  | .received _ acked => (List.replicate 8 true ++ [!acked]).flatMap driveBit
  | .part levels => levels

/-- The levels of SB_DAT sampled while SB_CLK is high, in the nine bits of a byte: the receiver of the byte pulls
the ninth low to acknowledge (R73). -/
def SbSignal.sampled : SbSignal → List Bool
  | .sent b acked | .received b acked => byteBits b ++ [!acked]
  | .start | .repeatedStart | .stop | .release | .pulse | .part _ => []

/-- What the controller makes in a transaction that runs to its stop: a declined byte is followed by the stop; the
last byte received is the one it declines (R74). -/
def PollEntry.signals (e : PollEntry) : SbEnd → List SbSignal
  | .nackAddr false => [.start, .sent (BitVec.ofNat 8 (2 * e.address)) false, .stop]
  | .nackData =>
    [.start, .sent (BitVec.ofNat 8 (2 * e.address)) true, .sent (BitVec.ofNat 8 e.register) false, .stop]
  | .nackAddr true =>
    [.start, .sent (BitVec.ofNat 8 (2 * e.address)) true, .sent (BitVec.ofNat 8 e.register) true, .repeatedStart,
      .sent (BitVec.ofNat 8 (2 * e.address + 1)) false, .stop]
  | .data hi lo pec =>
    [.start, .sent (BitVec.ofNat 8 (2 * e.address)) true, .sent (BitVec.ofNat 8 e.register) true, .repeatedStart,
      .sent (BitVec.ofNat 8 (2 * e.address + 1)) true, .received hi true, .received lo e.pec]
      ++ (if e.pec then [.received pec false] else []) ++ [.stop]

/-- What the controller makes in a recovery: nine clock pulses with SB_DAT released, then a stop (R79). -/
def recoverySignals : List SbSignal := List.replicate 9 .pulse ++ [.stop]

/-- The levels the controller drives for some signals. -/
def driven (signals : List SbSignal) : List SbLevel := signals.flatMap SbSignal.drive

/-! ### Transactions and recoveries cut off (R77 to R79, R89) -/

/-- Where a transaction or a recovery can be cut off: in a wait for SB_CLK to be seen high, before the start or after
a release of SB_CLK (R74 step 1, R77); with SB_CLK high, or before the start (R74 step 1, R78); in the hold of a
recovery pulse (R79); and by a reset anywhere (R89). -/
inductive SbPlace where
  | wait | high | pulse | anywhere
  deriving DecidableEq, Repr

/-- After so many levels SB_CLK has just been released. -/
def clockRises (levels : List SbLevel) (n : Nat) : Bool :=
  decide (2 ≤ n) && levels[n - 1]?.any (fun l => l.clk) && levels[n - 2]?.any (fun l => !l.clk)

/-- The place can lie after so many of the levels. -/
def SbPlace.admits (levels : List SbLevel) (n : Nat) : SbPlace → Bool
  | .wait => decide (n = 0) || clockRises levels n
  | .high => decide (n = 0) || levels[n - 1]?.any (fun l => l.clk)
  | .pulse => clockRises levels n && levels[n - 1]?.any (fun l => l.dat)
  | .anywhere => true

/-- The numbers of levels after which the place can lie. -/
def SbPlace.points (p : SbPlace) (levels : List SbLevel) : List Nat :=
  (List.range (levels.length + 1)).filter fun n => p.admits levels n

/-- Some signals up to a number of levels: the whole ones, and the levels driven of the one cut off. -/
def cutSignals : List SbSignal → Nat → List SbSignal
  | [], _ => []
  | g :: rest, n =>
    if g.drive.length ≤ n then g :: cutSignals rest (n - g.drive.length)
    else if n = 0 then []
    else [.part (g.drive.take n)]

/-- The course a transaction that is cut off was on: a free value (notes/assumptions/8.md). -/
def freeCourse (k : Nat) : SbEnd :=
  match Config.cutCourse k % 4 with
  | 0 => .nackAddr false
  | 1 => .nackData
  | 2 => .nackAddr true
  | _ => .data ((Config.cutData k).extractLsb' 16 8) ((Config.cutData k).extractLsb' 8 8) ((Config.cutData k).extractLsb' 0 8)

/-- What the controller would have made for the entry in flight: its transaction on a free course, or the recovery
ahead of it. -/
def Flight.course (f : Flight) (k : Nat) : List SbSignal := if f.begun then f.contents.signals (freeCourse k) else recoverySignals

/-- How far the controller had come when it was cut off: a free value among the points of the place
(notes/assumptions/8.md). -/
def SbPlace.freePoint (p : SbPlace) (levels : List SbLevel) (k : Nat) : Nat :=
  (p.points levels).getD (Config.cutPoint k % (p.points levels).length) 0

/-- What the controller had made for the entry in flight when it was cut off, and the release of both lines. -/
def Flight.cutWire (f : Flight) (p : SbPlace) (k : Nat) : List SbSignal :=
  cutSignals (f.course k) (p.freePoint (driven (f.course k)) k) ++ [.release]

/-- What a reset leaves on the two lines: the release, after what it cuts off (R89). -/
def Temps.abandonedWire (t : Temps) (k : Nat) : List SbSignal :=
  match t.flight with
  | none => [.release]
  | some f => f.cutWire .anywhere k

/-! ### Sweeps (R72, R79) -/

/-- The entry taken off the front of the sweep list becomes the entry in flight, its transaction begun unless
recovery is due; with nothing left to read the sweep ends (R72, R79). That an entry whose transaction waits for
the recovery is off the list and in flight is the model's choice (notes/assumptions/32.md). -/
def Temps.takeNext (t : Temps) : Temps :=
  match t.sweepList with
  | [] => { t with sweeping := false, flight := none }
  | n :: rest =>
    { t with
      sweepList := rest
      flight := some { entry := n, begun := !t.recoveryDue, contents := t.poll[n], discarded := false, stretchSum := 0 } }

/-- A sweep starts at a control tick unless one is in progress (R72). -/
def Temps.startSweep (t : Temps) : Temps :=
  if t.sweeping then t
  else
    let entries := (List.finRange 8).filter fun n => (t.poll[n]).enable
    ({ t with sweeping := true, sweepList := entries } : Temps).takeNext

/-- The entry in flight once its transaction has begun. -/
def Temps.begun (t : Temps) : Option Flight := t.flight.filter fun f => f.begun

/-- The entry in flight while the bus is being recovered ahead of its transaction (R79). -/
def Temps.recovering (t : Temps) : Option Flight := t.flight.filter fun f => !f.begun

/-- A transaction ends with a reading, its last signals made: it is handed to the entry's record unless a WRITE_POLL
has discarded it, and the sweep moves on or ends (R70, R72, R73, R80). -/
def State.endFlight (s : State) (f : Flight) (r : Reading) (wire : List SbSignal) : State :=
  let s := if f.discarded then s else s.applyReading (pollSource f.entry) r
  s.setTemps ({ s.temps with wire := wire } : Temps).takeNext

/-- A transaction ends with both lines released where it is, so that recovery becomes due (R77 to R80). -/
def State.cutFlight (s : State) (f : Flight) (o : ReadOutcome) (p : SbPlace) : State :=
  ((s.setTemps { s.temps with recoveryDue := true }).endFlight f (.bad o) (f.cutWire p s.freeCount)).drawFree

/-- The transaction in flight runs to its stop (R74 to R76, R80); nothing happens where none has begun. -/
def State.stopBegun (s : State) (e : SbEnd) : State :=
  match s.temps.begun with
  | none => s
  | some f => s.endFlight f (f.contents.judge e) (f.contents.signals e)

/-- The transaction in flight is cut off with an outcome (R77, R78); nothing happens where none has begun. -/
def State.cutBegun (s : State) (o : ReadOutcome) (p : SbPlace) : State :=
  match s.temps.begun with
  | none => s
  | some f => s.cutFlight f o p

/-- SB_CLK seen high after a stretch: the stretch joins the transaction's sum, and a sum above 15 ms ends the
transaction STRETCH (R77). -/
def State.addStretch (s : State) (micros : Nat) : State :=
  match s.temps.begun with
  | none => s
  | some f =>
    let sum := f.stretchSum + micros
    if Config.stretchLimit < sum then s.cutFlight f .stretch .wait
    else s.setTemps { s.temps with flight := some { f with stretchSum := sum } }

/-- A reset ends the sweep, and both lines are released where the controller is (R89). -/
def State.abandonBus (s : State) : State :=
  (s.setTemps { s.temps with
    sweeping := false, sweepList := [], flight := none, wire := s.temps.abandonedWire s.freeCount }).drawFreeIf s.temps.flight.isSome

/-- Bus recovery completes: recovery is no longer due and the waiting transaction begins with its entry's
contents as they then stand (R72, R79). -/
def State.recoveryDone (s : State) : State :=
  match s.temps.recovering with
  | none => s
  | some f =>
    s.setTemps { s.temps with
      recoveryDue := false, wire := recoverySignals
      flight := some { f with begun := true, contents := s.temps.poll[f.entry], stretchSum := 0 } }

/-- Bus recovery is abandoned: the waiting entry ends TIMEOUT without being begun, and recovery stays due
(R79). -/
def State.recoveryAbandoned (s : State) : State :=
  match s.temps.recovering with
  | none => s
  | some f => s.cutFlight f .timeout .pulse

/-! ### Pins (R73, R79, R89) -/

/-- What the controller drove on SB_CLK and SB_DAT up to the last time it let go of both lines (R73). -/
def State.busLevels (s : State) : List SbLevel := driven s.temps.wire

/-- The controller has SB_CLK and SB_DAT both released: between transactions and between sweeps, and while RESET_N
is asserted (R73, R89). With an entry in flight it works the lines; what it drove is seen at the end
(`State.busLevels`). -/
def State.busReleased (s : State) : Bool := !s.live || s.temps.flight.isNone

end Sys2Proof.Machine
end

