-- ==== Sys2Proof/Machine/ZoneControl.lean ====
section
/-! DEFINITION. The zone controller at a control tick: zone temperatures, demands, the derate ceiling and the
digital trip's condition (R93 to R102). -/

namespace Sys2Proof.Machine

/-- The last good values of the sources that count for a zone: those assigned to it that are OK (R93). -/
def State.zoneReadings (s : State) (z : ZoneId) : List Int :=
  s.temps.sources.toList.filterMap fun x => if x.zone = some z ∧ x.state = .ok then x.lastGood else none

/-- A zone's temperature and blind flag formed from its readings (R93). -/
def Zone.sense (x : Zone) (readings : List Int) : Zone := { x with temp := readings.max?, blind := readings.isEmpty }

/-- Every zone's record put through one update. -/
def ZoneCtl.each (c : ZoneCtl) (g : ZoneId → Zone → Zone) : ZoneCtl :=
  { c with zones := #v[g .light (c.zones[ZoneId.idx .light]), g .panel (c.zones[ZoneId.idx .panel]), g .air (c.zones[ZoneId.idx .air])] }

/-- A zone goes from seeing to blind at this tick (R93). -/
def State.goesBlind (s : State) (z : ZoneId) : Bool := !(s.zone z).blind && (s.zoneReadings z).isEmpty

/-- The zone temperatures formed, with ZONE_BLIND set when a zone goes blind (R93). -/
def State.senseZones (s : State) : State :=
  (s.setZoneCtl (s.zoneCtl.each fun z x => x.sense (s.zoneReadings z))).raiseIf (ZoneId.all.any s.goesBlind) .zoneBlind

/-- The acoustic mode of the installation record copied into the mode in force (R94). -/
def State.copyMode (s : State) : State := s.setZoneCtl { s.zoneCtl with mode := s.ctl.acoustic }

/-- Every fan in a mask has its at-ceiling flag set (R96, R99). -/
def State.saturated (s : State) (m : BitVec 3) : Bool := FanId.all.all fun f => !inMask m f || (s.fan f).atCeiling

/-- The load a zone's feed-forward follows (R95 step 4). -/
def State.load (s : State) : LoadBasis → Nat
  | .lightLevel => s.light.applied
  | .dumpLoad => s.dumpLoad
  | .noLoad => 0

/-- The accumulator after the integration step of R96, for an error and whether the masked fans are all at
their ceilings. -/
def Zone.integrated (x : Zone) (e : Int) (sat : Bool) : Nat :=
  if 0 < e ∧ sat then x.acc else (clampInt (x.acc + x.ki * e) 0 Config.maxAccumulator).toNat

/-- The proportional term (R95). -/
def Zone.proportional (x : Zone) (e : Int) : Int := (x.kp * e + 128) / 256

/-- The feed-forward term (R95). -/
def Zone.feedForward (x : Zone) (load : Nat) : Nat := x.kff * load / 4096

/-- The integral term (R92, R95). -/
def integralTerm (acc : Nat) : Nat := acc / 256

/-- A seen zone's accumulator and demand at a tick in LIT, COOLDOWN or TRIPPED (R95, R96). -/
def Zone.regulate (x : Zone) (t : Int) (sat : Bool) (load : Nat) : Zone :=
  let e := t - x.setpoint
  let a := x.integrated e sat
  { x with
    acc := a
    demand := .duty (clampInt (x.feedForward load + x.proportional e + integralTerm a) 0 Config.fullDuty).toNat }

/-- A zone's demand at a tick in STANDBY (R98). -/
def Zone.guardDemand (x : Zone) : Demand :=
  match x.temp with
  | none => .guard
  | some t => if x.guard < t then .guard else .duty 0

/-- A zone's demand formed at a control tick (R95 to R98). -/
def Zone.formDemand (x : Zone) (op : OpState) (sat : Bool) (load : Nat) : Zone :=
  if op = .standby then { x with demand := x.guardDemand }
  else
    match x.temp with
    | none => { x with demand := .duty Config.fullDuty }
    | some t => x.regulate t sat load

/-- Every zone's demand formed (R95 to R98). -/
def State.formDemands (s : State) : State :=
  s.setZoneCtl (s.zoneCtl.each fun _ x => x.formDemand s.ctl.op (s.saturated x.mask) (s.load x.basis))

/-- A zone meets the derate condition: seen, at or above its derate threshold, its fans all at their ceilings
(R99). -/
def State.zoneDerates (s : State) (z : ZoneId) : Bool :=
  match (s.zone z).temp with
  | none => false
  | some t => decide ((s.zone z).derate ≤ t) && s.saturated (s.zone z).mask

/-- A zone allows recovery: seen and below its derate threshold minus 32 (R100). -/
def State.zoneRecovers (s : State) (z : ZoneId) : Bool :=
  match (s.zone z).temp with
  | none => false
  | some t => decide (t < (s.zone z).derate - Config.coolBand)

def State.setCeiling (s : State) (n : Nat) : State := s.setZoneCtl { s.zoneCtl with ceiling := n }

/-- The derate condition of R99: some zone meets it. -/
def State.derates (s : State) : Bool := ZoneId.all.any s.zoneDerates

/-- The recovery condition of R100: every zone allows it. -/
def State.recovers (s : State) : Bool := ZoneId.all.all s.zoneRecovers

/-- The derate ceiling falls, rises or keeps its value (R99, R100). DERATE is set when it leaves 4095. -/
def State.judgeDerate (s : State) : State :=
  if s.derates then
    (s.setCeiling (max (s.zoneCtl.ceiling - Config.derateStep) Config.derateFloor)).raiseIf
      (decide (s.zoneCtl.ceiling = Config.fullLevel)) .derate
  else if s.recovers then s.setCeiling (min (s.zoneCtl.ceiling + Config.derateStep) Config.fullLevel)
  else s

/-- A seen zone is at or above its trip threshold (R102). -/
def State.zoneTrips (s : State) (z : ZoneId) : Bool :=
  match (s.zone z).temp with
  | none => false
  | some t => decide ((s.zone z).trip ≤ t)

/-- The demands and the acoustic mode handed to the fan drivers (R94, R105). -/
def State.handDemands (s : State) : State :=
  s.setFanDrv { s.fanDrv with
    handed := s.zoneCtl.zones.map fun x => { demand := x.demand, mask := x.mask, blind := x.blind }
    handedMode := s.zoneCtl.mode }

/-- Every integrator accumulator becomes 0 (R98, R117). -/
def State.clearIntegrators (s : State) : State := s.setZoneCtl (s.zoneCtl.each fun _ x => { x with acc := 0 })

end Sys2Proof.Machine
end

