-- ==== Sys2Proof/Machine/StateControl.lean ====
section
/-! DEFINITION. The state controller: changes of operating state and their hand-offs, the three trips, the
run-on, link supervision and resets (R116 to R131), and what a fan's stall leads to (R110 to R112), which
needs them. -/

namespace Sys2Proof.Machine

/-! ### Changes of operating state (R117) -/

/-- The axes at the entry to a state (R117, R133). -/
def Axis.enter (x : Axis) : OpState → Axis
  | .standby => x.deenergise
  | .lit => x.energise
  | .cooldown => x.energise
  | .tripped => x

/-- The run-on elapsed at the entry to a state: started from 0 in COOLDOWN, stopped in every other (R116). -/
def runOnAt : OpState → Option Nat
  | .cooldown => some 0
  | .standby => none
  | .lit => none
  | .tripped => none

/-- The hand-offs that go with the state that is left (R117): the blank hold at departure from LIT, the fans at
departure from TRIPPED. -/
def State.leave (s : State) (old : OpState) : State :=
  match old with
  | .lit => s.releaseHold
  | .tripped => s.formFans
  | .standby => s
  | .cooldown => s

/-- The hand-offs that go with the state that is entered (R117), the axes and SAFETY apart. -/
def State.arrive (s : State) (new : OpState) : State :=
  match new with
  | .standby => s.clearIntegrators.raise .cooldownDone
  | .lit => s.pump
  | .cooldown => s.pump
  | .tripped => s.fullFans.abortMotion.raise .trip

/-- The operating state and the run-on elapsed written, with SAFETY, LIGHT_EN and the axes (R57, R116, R117,
R133). -/
def State.writeOp (s : State) (new : OpState) : State :=
  let s := s.setCtl { s.ctl with op := new, runOn := runOnAt new }
  let s := s.setLight (s.light.setSafety (decide (new = .lit)))
  (s.setAxis .h (s.axisH.enter new)).setAxis .v (s.axisV.enter new)

/-- A change of operating state, with every hand-off of R117 in the one event. -/
def State.changeState (s : State) (new : OpState) : State := ((s.writeOp new).leave s.ctl.op).arrive new

/-! ### Trips (R121, R122) -/

/-- A trip: it takes the part to TRIPPED and names the cause, and changes nothing in TRIPPED (R121). -/
def State.trip (s : State) (cause : TripCause) : State :=
  if s.ctl.op = .tripped then s else (s.setCtl { s.ctl with lastTrip := cause }).changeState .tripped

/-- A fan-loss trip: it acts in LIT alone (R122). -/
def State.fanLossTrip (s : State) : State := if s.ctl.op = .lit then s.trip .fanLoss else s

/-- The comparator judges the code on its channel (R86). -/
def State.judgeComparator (s : State) : State :=
  let c := s.temps.comparator
  if c.tripsAt s.temps.watchedCode then (s.setComparator { c with state := .tripped }).trip .comparator
  else if c.releasesAt s.temps.watchedCode then s.setComparator { c with state := .released }
  else s

/-- The digital trips of a control tick, zone by zone (R102, R121). -/
def State.judgeDigital (s : State) : List ZoneId → State
  | [] => s
  | z :: zs => (if s.zoneTrips z then s.trip (.zone z) else s).judgeDigital zs

/-! ### Fan stalls and failures (R110 to R112) -/

/-- A fan enters FAILED and its loss action applies (R111). -/
def State.failFan (s : State) (f : FanId) : State :=
  let s := s.setFan f (s.fan f).enterFailed
  match lossAction f with
  | .trip => s.fanLossTrip
  | .cap => s.reformThermal

/-- A fan's next attempt after a stall: at once in TRIPPED, after a pause in every other state (R110). -/
def Fan.tryAgain (x : Fan) (op : OpState) : Fan :=
  let y : Fan := { x with retry := x.retry + 1 }
  if op = .tripped then y.enterKick else y.enterPause

/-- A stall of a fan in KICK or RUNNING (R110). -/
def State.stall (s : State) (f : FanId) : State :=
  let t := s.raise .fanFault
  if (s.fan f).retry < 3 then t.setFan f ((s.fan f).tryAgain s.ctl.op) else t.failFan f

/-- The stall timer expires: a stall, where the fan kicks or runs (R109, R110). -/
def State.stallExpired (s : State) (f : FanId) : State :=
  match (s.fan f).state with
  | .kick => s.stall f
  | .running => s.stall f
  | .off => s
  | .pause => s
  | .failed => s

/-- A FAILED fan's record as CLEAR_FAN leaves it (R112). -/
def Fan.cleared (x : Fan) (op : OpState) : Fan :=
  let y : Fan := { x with state := .off, retry := 0, atCeiling := false }
  if op = .tripped then y.full else y

/-- CLEAR_FAN on a fan (R112). -/
def State.clearFan (s : State) (f : FanId) : State :=
  if (s.fan f).state = .failed then (s.setFan f ((s.fan f).cleared s.ctl.op)).reformThermal else s

/-! ### The run-on (R120) -/

/-- A zone lets the run-on end: seen, and at or below its run-on threshold (R120). -/
def State.zoneCooled (s : State) (z : ZoneId) : Bool :=
  match (s.zone z).temp with
  | none => false
  | some t => decide (t ≤ (s.zone z).runOn)

/-- The lens is at rest and no request is queued or executing (R120). -/
def State.lensIdle (s : State) : Bool :=
  !s.axisH.inMotion && !s.axisV.inMotion && s.motion.queue.isEmpty && s.motion.executing.isNone

/-- The run-on elapsed has reached 60,000 ms (R120). -/
def State.runOnElapsed (s : State) : Bool := s.ctl.runOn.any fun n => decide (Config.runOnLimit ≤ n)

/-- The run-on is complete (R120). -/
def State.runOnComplete (s : State) : Bool :=
  s.runOnElapsed && !s.anyBlind && ZoneId.all.all s.zoneCooled && s.lensIdle

/-- The run-on is judged at a control tick in COOLDOWN (R120). -/
def State.judgeRunOn (s : State) : State :=
  if s.ctl.op = .cooldown ∧ s.runOnComplete then s.changeState .standby else s

/-! ### LIGHT_ON and CLEAR_TRIP: the first condition that fails (R118, R123) -/

/-- A zone is blind. -/
def State.isBlind (s : State) (z : ZoneId) : Bool := (s.zone z).blind

/-- A zone is at or above a threshold; a zone without a temperature is not. -/
def State.hotAt (s : State) (limit : Zone → Int) (z : ZoneId) : Bool :=
  match (s.zone z).temp with
  | none => false
  | some t => decide (limit (s.zone z) ≤ t)

/-- A zone is at or above its derate threshold (R118). -/
def State.aboveDerate (s : State) (z : ZoneId) : Bool := s.hotAt (fun x => x.derate) z

/-- A zone is at or above its trip threshold minus 32 (R123). -/
def State.nearTrip (s : State) (z : ZoneId) : Bool := s.hotAt (fun x => x.trip - Config.coolBand) z

/-- F0 is FAILED (R118, R123). -/
def State.f0Failed (s : State) : Bool := decide ((s.fan .f0).state = .failed)

/-- The first condition of LIGHT_ON that fails, with its zone (R118). -/
def State.lightOnBar (s : State) : Option (HotReason × Option ZoneId) :=
  match ZoneId.all.find? s.isBlind with
  | some z => some (.zoneBlind, some z)
  | none =>
    if s.f0Failed then some (.fanLoss, none)
    else if s.ctl.op = .cooldown then
      match ZoneId.all.find? s.aboveDerate with
      | some z => some (.zoneHot, some z)
      | none => none
    else none

/-- The first condition of CLEAR_TRIP that fails, with its zone (R123). -/
def State.clearTripBar (s : State) : Option (HotReason × Option ZoneId) :=
  if s.temps.comparator.state = .tripped then some (.comparator, none)
  else
    match ZoneId.all.find? s.nearTrip with
    | some z => some (.zoneHot, some z)
    | none => if s.f0Failed then some (.fanLoss, none) else none

/-! ### Resets (R129 to R131) -/

/-- An axis's reset values, with its pins as they stand: the levels of its end-stop inputs, and what DIR and STEP
put out (R150). -/
def Axis.reset (x : Axis) (limit : Nat) : Axis :=
  { Axis.resetWith limit x.lowLevel x.highLevel with dirPin := x.dirPin, pulses := x.pulses }

/-- Every block at its reset values. The model's queue of commands, the level of RESET_N, the lock of the link,
the axes' pins, the levels of the thermistor pins, what was driven on the sensor bus and the model's counter of free values are no block's state and
stay. -/
def State.resetBlocks (s : State) : State :=
  { pending := s.pending, resetAsserted := s.resetAsserted, locked := s.locked,
    warp := { Warp.reset with vout := if s.locked then .blanking else .nothing },
    grid := Vector.replicate 4 .reset, stats := .reset, light := .reset,
    temps := { Temps.resetWith s.temps.pinCode with wire := s.temps.wire },
    zoneCtl := .reset, fanDrv := .reset, ctl := .reset,
    axisH := s.axisH.reset resetLimitH, axisV := s.axisV.reset resetLimitV,
    motion := .reset, chan := .reset, freeCount := s.freeCount }

/-- A reset is applied: the sensor bus is let go, every block takes its reset values and the comparator judges its code
at once (R86, R89, R129, R130). -/
def State.applyReset (s : State) : State := s.abandonBus.resetBlocks.judgeComparator

/-- The pins and the work in progress when RESET_N is asserted (R26, R52, R89, R113, R129, R130, R150, R172). -/
def State.assertReset (s : State) : State :=
  let quiet (x : Axis) : Axis := { x with dirPin := false, pulses := 0 }
  let s := s.setResetAsserted true
  let s := s.setWarp { s.warp with frames := [], vout := .nothing }
  let s := s.setStats { s.stats with accumulating := false }
  let s := s.setLight { s.light with lightEn := false, pwmLevel := 0 }
  let s := s.abandonBus
  let s := s.setTemps { s.temps with converting := none, discardConversion := false }
  let s := s.setFanDrv (s.fanDrv.each fun _ x => { x with pwmLevel := 0 })
  let s := s.setCtl { s.ctl with resetPending := false }
  let s := (s.setAxis .h (quiet s.axisH)).setAxis .v (quiet s.axisV)
  s.setChan { s.chan with lane := none, waiting := none, taken := 0, entries := [] }

/-! ### Link supervision (R124, R125) -/

/-- The silence counter expires (R125, R129, R160). -/
def State.silenceExpires (s : State) : State :=
  let s := (s.setCtl { s.ctl with silence := Config.silenceLimit, armed := false }).raise .linkLost
  let s := if s.ctl.op = .lit then s.changeState .cooldown else s
  let s := s.endSwitching
  if s.ctl.resetPending then s.applyReset else s

/-- An input frame start re-arms the silence counter at 0 (R124). -/
def State.rearm (s : State) : State := s.setCtl { s.ctl with silence := 0, armed := true }

/-- A silence tick (R124). -/
def State.silenceCounts (s : State) : State :=
  if s.ctl.armed then
    if Config.silenceLimit ≤ s.ctl.silence + 1 then s.silenceExpires
    else s.setCtl { s.ctl with silence := s.ctl.silence + 1 }
  else s

/-! ### The passing of time (R2, R107 to R110, R116, R151; notes/assumptions/1.md) -/

/-- One millisecond off a running timer. -/
def countDown (t : Option Nat) : Option Nat := t.map fun n => n - 1

/-- One millisecond of a fan's timers. -/
def Fan.millisecond (x : Fan) : Fan :=
  { x with
    kickTimer := countDown x.kickTimer, stallTimer := countDown x.stallTimer, pauseTimer := countDown x.pauseTimer,
    clearTimer := countDown x.clearTimer }

/-- One millisecond of REFCLK, in which no command comes: the run-on elapsed counts up to 60,000 and the
running timers count down (R116, R151). -/
def State.millisecond (s : State) : State :=
  s.whenLive fun s =>
    let s := s.setCtl { s.ctl with runOn := s.ctl.runOn.map fun n => min (n + 1) Config.runOnLimit }
    let s := s.setFanDrv (s.fanDrv.each fun _ x => x.millisecond)
    s.setMotion { s.motion with railTimer := countDown s.motion.railTimer }

end Sys2Proof.Machine
end

