-- ==== Sys2Proof/Machine/Channel.lean ====
section
/-! DEFINITION. The control channel: taking packets, answer entries, the frame answer and the return lane (R167
to R172, R180). -/

namespace Sys2Proof.Machine

/-! ### Replies of the owning blocks (R170) -/

/-- What an owning block does with a packet: the part after it, and the reply. -/
abbrev Owner := State → State × Reply

/-- A reply without data. -/
def Reply.plain (r : Result) : Reply := { result := r, data := [] }

/-- OK with no data. -/
def Reply.ok : Reply := .plain .ok

/-- OK with data. -/
def Reply.okWith (data : List Byte) : Reply := { result := .ok, data := data }

/-- A REFUSED_HOT with its reason and zone (R118, R123, R182). -/
def Reply.hot (b : HotReason × Option ZoneId) : Reply :=
  { result := .refusedHot, data := byte b.1.code ++ orNone (b.2.map ZoneId.code) }

/-- A refusal, or an answer of the control channel's own: it changes nothing. -/
def answer (r : Result) : Owner := fun s => (s, .plain r)

/-- What a command's meaning answers. -/
abbrev Out := Host.Outcome State Fault Refusal

/-! ### Taking packets (R167, R170) -/

/-- The count of packets taken rises by one (R167). -/
def State.countTaken (s : State) : State := s.setChan { s.chan with taken := s.chan.taken + 1 }

/-- An answer entry appended to the back of the list (R167, R170). -/
def State.addEntry (s : State) (tag : Byte) (r : Reply) : State :=
  s.setChan { s.chan with entries := s.chan.entries ++ [{ tag := tag, reply := r }] }

/-- A line is ignored (R167). -/
def State.ignoreLine (s : State) : State :=
  (s.setChan { s.chan with ignored := min (s.chan.ignored + 1) Config.maxIgnored }).raiseIf
    (decide (s.chan.ignored = 0)) .packetOverflow

/-- A taken packet's effect, then its answer entry (R170). -/
def State.carryOut (s : State) (tag : Byte) (run : Owner) : State :=
  (run s.countTaken).1.addEntry tag (run s.countTaken).2

/-- A packet reaches the control channel (R167): discarded while an ENGINE_RESET is pending, taken while the
count is below 16, otherwise ignored. No packet arrives while RESET_N is asserted or the link is out of lock. -/
def State.takePacket (s : State) (tag : Byte) (run : Owner) : State :=
  s.whenLinked fun s =>
    if s.ctl.resetPending then s
    else if s.chan.taken < Config.maxPackets then s.carryOut tag run
    else s.ignoreLine

/-! ### The frame answer (R171, R180) -/

/-- An answer entry's bytes (R180). -/
def Entry.bytes (e : Entry) : List Byte :=
  [e.tag] ++ byte e.reply.result.code ++ byte e.reply.data.length ++ e.reply.data

/-- The pending choice as the header carries it (R178, R180). -/
def choiceByte : Option Choice → List Byte
  | none => [0xFF]
  | some c =>
    match c.slot with
    | none => [0xFE]
    | some n => byte n.val

/-- The frame count of the answer that is formed next (R171). -/
def ChanState.nextCount (c : ChanState) : Nat := (c.frameCount + 1) % 65536

/-- The 21-byte header, each value as it stands (R171, R180). -/
def State.header (s : State) : List Byte :=
  be16 s.chan.nextCount ++ byte s.ctl.op.code ++ be16 s.chan.flags.toNat ++ be16 s.light.applied
    ++ byte s.light.governing.code ++ be16 s.stats.apl ++ be32 s.stats.coverage ++ flagByte s.stats.valid
    ++ be16 s.stats.recordNumber ++ orNone (s.warp.active.map Fin.val) ++ choiceByte s.warp.choice
    ++ byte s.chan.taken ++ byte s.chan.ignored

/-- The frame answer formed at an input frame start (R171, R180). -/
def State.frameAnswer (s : State) : FrameAnswer :=
  let body := s.header ++ s.chan.entries.flatMap Entry.bytes
  { bytes := body ++ wordBytes (crc16 body), holdsReset := s.ctl.resetPending && !s.chan.entries.isEmpty }

/-- Sending a frame answer, or keeping it waiting (R172). -/
def ChanState.send (c : ChanState) (resetPending : Bool) (a : FrameAnswer) : ChanState :=
  match c.lane with
  | none => { c with lane := some a }
  | some _ =>
    match c.waiting with
    | none => { c with waiting := some a }
    | some w => if w.holdsReset && resetPending then c else { c with waiting := some a }

/-- The frame answer is formed and sent or kept, and the counts and the list are cleared (R167, R171, R172). -/
def State.formAnswer (s : State) : State :=
  let c := { s.chan with frameCount := s.chan.nextCount, taken := 0, ignored := 0, entries := [] }
  s.setChan (c.send s.ctl.resetPending s.frameAnswer)

/-! ### The return lane (R129, R172) -/

/-- The answer on the lane holds the entry of a pending ENGINE_RESET (R129, R172). -/
def State.laneHoldsReset (s : State) : Bool := s.ctl.resetPending && s.chan.lane.any fun a => a.holdsReset

/-- The lane is free and takes the waiting answer, if there is one (R172). -/
def ChanState.nextAnswer (c : ChanState) : ChanState := { c with lane := c.waiting, waiting := none }

/-- The answer on the lane has been sent in full (R129, R172). -/
def State.answerSent (s : State) : State :=
  if s.chan.lane.isSome then
    (if s.laneHoldsReset then s.applyReset else s.setChan s.chan.nextAnswer)
  else s

/-- The answer on the lane is cut off by a loss of lock (R129, R172). -/
def State.answerCut (s : State) : State :=
  if s.laneHoldsReset then s.applyReset else s.setChan { s.chan with lane := none }

end Sys2Proof.Machine
end

