-- ==== Sys2Proof/Machine/DriveEvents.lean ====
section
/-! DEFINITION. The events of the light drive and the fan drivers (R59, R61, R107 to R114). -/

namespace Sys2Proof.Machine

/-- A fan's record put through an update. -/
def State.updateFan (s : State) (f : FanId) (g : Fan → Fan) : State := s.setFan f (g (s.fan f))

/-- RAMP_TICK (R59). -/
def execRampTick (s : State) : Out := .next (s.whenLive fun s => s.setLight s.light.ramp)

/-- LIGHT_PWM_PERIOD_BOUNDARY (R61). -/
def execLightPwmPeriodBoundary (s : State) : Out := .next (s.whenLive fun s => s.setLight s.light.pwmBoundary)

/-- FAN_PWM_PERIOD_BOUNDARY (R113). -/
def execFanPwmPeriodBoundary (f : FanId) (s : State) : Out := .next (s.whenLive fun s => s.updateFan f Fan.pwmBoundary)

/-- KICK_TIMER_EXPIRY (R107). -/
def execKickTimerExpiry (f : FanId) (s : State) : Out := .next (s.whenLive fun s => s.updateFan f Fan.kickExpired)

/-- STALL_TIMER_EXPIRY (R109, R110). -/
def execStallTimerExpiry (f : FanId) (s : State) : Out := .next (s.whenLive fun s => s.stallExpired f)

/-- PAUSE_TIMER_EXPIRY (R110). -/
def execPauseTimerExpiry (f : FanId) (s : State) : Out := .next (s.whenLive fun s => s.updateFan f Fan.pauseExpired)

/-- RETRY_CLEAR_TIMER_EXPIRY (R108). -/
def execRetryClearTimerExpiry (f : FanId) (s : State) : Out := .next (s.whenLive fun s => s.updateFan f Fan.clearExpired)

/-- A selected tach edge on a fan's input (R109, R114). -/
def State.selectedEdge (s : State) (f : FanId) (micros : Nat) : State :=
  (s.updateFan f fun x => x.edge micros (Config.freeSpeed s.freeCount)).drawFreeIf ((s.fan f).drawsFree micros)

/-- TACH_EDGE: a rise or a fall, so many microseconds after the selected edge that is held; one that is not
selected changes nothing (R109, R114). -/
def execTachEdge (f : FanId) (e : TachEdge) (s : State) : Out :=
  .next (s.whenLive fun s => if (s.fan f).selects e.rise then s.selectedEdge f e.micros else s)

/-- TACH_TIMEOUT: 1,000,000 µs without a selected edge (R114). -/
def execTachTimeout (f : FanId) (s : State) : Out := .next (s.whenLive fun s => s.updateFan f Fan.edgeLost)

end Sys2Proof.Machine
end

