-- ==== Sys2Proof/Machine/LensEvents.lean ====
section
/-! DEFINITION. The events of the lens axes and the motion queue's timer (R135 to R146, R155 to R157). -/

namespace Sys2Proof.Machine

/-- Both axes take a profile tick, each from its record as it stands at the tick; then what they hand over is
taken, H before V, and the queue goes on (R137, R141, R142, R145, R157; notes/assumptions/12.md). -/
def State.profileTick (s : State) : State :=
  let t := (s.setAxis .h s.axisH.tick.1).setAxis .v s.axisV.tick.1
  let eh := s.axisH.tick.2
  let ev := s.axisV.tick.2
  if eh = .quiet ∧ ev = .quiet then t else ((t.takeEvent .h eh).takeEvent .v ev).proceed

/-- A selected edge of an end-stop input acts on its axis, and the queue on what the axis hands over (R135,
R141, R143, R144). -/
def State.endstopEdge (s : State) (e : EndStop) : State :=
  let x := s.axis (endAxis e)
  (s.setAxis (endAxis e) (x.inputEdge e).1).afterEvent (endAxis e) (x.inputEdge e).2

/-- An end-stop input becomes inactive (R142). -/
def State.endstopInactive (s : State) (e : EndStop) : State :=
  let x := s.axis (endAxis e)
  (s.setAxis (endAxis e) (x.inputInactive e).1).afterEvent (endAxis e) (x.inputInactive e).2

/-- The pin of an end-stop input takes its level while RESET_N is asserted. -/
def State.setEndstopPin (s : State) (e : EndStop) (selected : Bool) : State :=
  s.setAxis (endAxis e) ((s.axis (endAxis e)).setInput e selected)

/-- PROFILE_TICK. -/
def execProfileTick (s : State) : Out := .next (s.whenLive State.profileTick)

/-- ENDSTOP_EDGE: the input goes to the level its selected edge leads to. -/
def execEndstopEdge (e : EndStop) (s : State) : Out :=
  .next (if s.live then s.endstopEdge e else s.setEndstopPin e true)

/-- ENDSTOP_INACTIVE: the input leaves the level its selected edge leads to. -/
def execEndstopInactive (e : EndStop) (s : State) : Out :=
  .next (if s.live then s.endstopInactive e else s.setEndstopPin e false)

/-- RAIL_WAIT_TIMEOUT (R156). -/
def execRailWaitTimeout (s : State) : Out := .next (s.whenLive State.railTimeout)

end Sys2Proof.Machine
end

