-- ==== Sys2Proof/Machine/ResetEvents.lean ====
section
/-! DEFINITION. The events of RESET_N, of the control tick and of link supervision (R93 to R102, R120, R124,
R125, R130, R131). -/

namespace Sys2Proof.Machine

/-! ### The control tick -/

/-- The zone controller's part of a control tick: the mode copied, the zones seen, their demands formed, the
derate ceiling judged and THERMAL formed (R93 to R100, R54). -/
def State.zoneTick (s : State) : State := s.copyMode.senseZones.formDemands.judgeDerate.reformThermal

/-- The demands handed to the fan drivers, and the requested duties formed from them, or full in TRIPPED (R105,
R106). -/
def State.fanTick (s : State) : State :=
  let s := s.handDemands
  if s.ctl.op = .tripped then s.fullFans else s.formFans

/-- The sensor sweep and the thermistor scan start (R72, R81). -/
def State.sourceTick (s : State) : State := (s.setTemps s.temps.startSweep).startScan

/-- A control tick (R93 to R106, R72, R81, R120, R155; the order of the blocks: notes/assumptions/11.md). -/
def State.controlTick (s : State) : State :=
  ((s.zoneTick.judgeDigital ZoneId.all).fanTick).sourceTick.judgeRunOn.proceed

/-! ### The commands -/

/-- RESET_N_ASSERTED. -/
def execResetNAsserted (s : State) : Out := .next (s.whenLive State.assertReset)

/-- RESET_N_RELEASED. -/
def execResetNReleased (s : State) : Out := .next (s.setResetAsserted false).applyReset

/-- CONTROL_TICK. -/
def execControlTick (s : State) : Out := .next (s.whenLive State.controlTick)

/-- RUN_ON_ELAPSED_LIMIT: a running run-on elapsed stops at 60,000 ms (R116). -/
def execRunOnElapsedLimit (s : State) : Out :=
  .next (s.whenLive fun s => s.setCtl { s.ctl with runOn := s.ctl.runOn.map fun _ => Config.runOnLimit })

/-- SILENCE_TICK. -/
def execSilenceTick (s : State) : Out := .next (s.whenLive State.silenceCounts)

/-- SILENCE_EXPIRY: an armed counter expires (R125). -/
def execSilenceExpiry (s : State) : Out := .next (s.whenLive fun s => if s.ctl.armed then s.silenceExpires else s)

end Sys2Proof.Machine
end

