-- ==== Sys2Proof/Machine/SourceEvents.lean ====
section
/-! DEFINITION. The events of the temperature sources: conversions, sensor-bus ends, recovery and the trip
comparator (R65, R66, R72 to R82, R86). -/

namespace Sys2Proof.Machine

/-- THERMISTOR_CONVERSION_DONE: the scan's reading of the channel's pin is judged and applied, and the scan goes
on (R81, R82). The comparator's own reading is another one (R88). -/
def execThermistorConversionDone (ch : Channel) (code : BitVec 12) (s : State) : Out :=
  .next (s.whenLive fun s => (s.takeConversion ch code).advanceScan ch)

/-- SB_TRANSACTION_END: the transaction in flight ran to its stop (R74 to R76, R80). -/
def execSbTransactionEnd (e : SbEnd) (s : State) : Out :=
  .next (s.whenLive fun s => s.stopBegun e)

/-- SB_STRETCH_LIMIT: SB_CLK is seen high after a stretch of so many microseconds (R77). -/
def execSbStretchLimit (micros : Nat) (s : State) : Out := .next (s.whenLive fun s => s.addStretch micros)

/-- SB_CLOCK_TIMEOUT: one stretch has lasted 30 ms (R77). -/
def execSbClockTimeout (s : State) : Out := .next (s.whenLive fun s => s.cutBegun .timeout .wait)

/-- SB_BUS_ERROR: a misplaced start or stop, or SB_DAT held low (R74, R78). -/
def execSbBusError (s : State) : Out := .next (s.whenLive fun s => s.cutBegun .busError .high)

/-- SB_RECOVERY_DONE (R79). -/
def execSbRecoveryDone (s : State) : Out := .next (s.whenLive State.recoveryDone)

/-- SB_RECOVERY_ABANDONED (R79). -/
def execSbRecoveryAbandoned (s : State) : Out := .next (s.whenLive State.recoveryAbandoned)

/-- A pin goes to a level, which the comparator sees as a code; it judges the code of its channel, whichever pin
has moved (R86). -/
def State.showLevel (s : State) (level : PinLevel) : State :=
  (s.setPinCode level.ch level.code).whenLive State.judgeComparator

/-- COMPARATOR_TRIP: the code on a pin falls, on the comparator's channel to the threshold or below (R86,
R121). -/
def execComparatorTrip (level : PinLevel) (s : State) : Out := .next (s.showLevel level)

/-- COMPARATOR_RELEASE: the code on a pin rises, on the comparator's channel to the threshold plus 64 or above
(R86). -/
def execComparatorRelease (level : PinLevel) (s : State) : Out := .next (s.showLevel level)

end Sys2Proof.Machine
end

