-- ==== Sys2Proof/Machine/AxisCommands.lean ====
section
/-! DEFINITION. The lens axes' commands: WRITE_AXIS and READ_AXIS (R148, R149). -/

namespace Sys2Proof.Machine

/-- The velocities of WRITE_AXIS lie within their ranges, the start velocity at or below the other two (R132,
R148). -/
def axisVelocitiesOk (vmax vstart homeVel : Nat) : Bool :=
  decide (200 ≤ vmax) && decide (vmax ≤ 8000) && decide (50 ≤ vstart) && decide (vstart ≤ 1000)
    && decide (200 ≤ homeVel) && decide (homeVel ≤ 8000) && decide (vstart ≤ vmax) && decide (vstart ≤ homeVel)

/-- The other fields of WRITE_AXIS lie within their ranges (R132, R148, R182; notes/assumptions/20.md). -/
def axisFieldsOk (limit accel backlash endstops : Nat) : Bool :=
  decide (1 ≤ limit) && decide (1 ≤ accel) && decide (backlash ≤ 2000) && decide (endstops < 16)

/-- An axis that WRITE_AXIS is refused for: it is neither OFF nor IDLE (R148). -/
def Axis.working (x : Axis) : Bool := decide (x.state ≠ .off) && decide (x.state ≠ .idle)

/-- The axis whose record holds an approach direction of its own is H (R132, R148). -/
def storedApproach (a : AxisId) (carried old : Dir) : Dir :=
  match a with
  | .h => carried
  | .v => old

/-- WRITE_AXIS as the lens axes take it (R148). -/
def writeAxis (axis : Byte) (limit vmax vstart : BitVec 16) (accel : Byte) (homeVel backlash : BitVec 16)
    (current approach endstops : Byte) : Owner := fun s =>
  match AxisId.ofCode axis, Dir.ofCode approach with
  | some a, some d =>
    if axisVelocitiesOk vmax.toNat vstart.toNat homeVel.toNat
        && axisFieldsOk limit.toNat accel.toNat backlash.toNat endstops.toNat then
      if (s.axis a).working then answer .refusedBusy s
      else
        (s.setAxis a { s.axis a with
          limit := limit.toNat, vmax := vmax.toNat, vstart := vstart.toNat, accel := accel.toNat, homeVel := homeVel.toNat,
          backlash := backlash.toNat, current := current.toNat, approach := storedApproach a d (s.axis a).approach,
          lowEnable := endstops.getLsbD 0, lowFalling := endstops.getLsbD 1,
          highEnable := endstops.getLsbD 2, highFalling := endstops.getLsbD 3,
          homed := (s.axis a).homed && decide ((s.axis a).position ≤ limit.toNat) }, .ok)
    else answer .refusedRange s
  | _, _ => answer .refusedRange s

/-- Yes-or-no values as the bits of one byte, the first at bit 0. -/
def bitsByte : List Bool → Nat
  | [] => 0
  | b :: bs => (if b then 1 else 0) + 2 * bitsByte bs

/-- A count as it is carried; above 65,535 it is carried as 65,535 (R183). -/
def be16Capped (n : Nat) : List Byte := be16 (min n 65535)

/-- The leg byte and the count of page 3 of READ_AXIS (R183): the homing allowance in SEEK and RELEASE. The count
of an axis with neither a leg nor an allowance is a free value (notes/assumptions/10.md); the direction bit is 0
wherever no leg is shown running (notes/assumptions/36.md). -/
def Axis.legBytes (x : Axis) (free : Nat) : List Byte :=
  if x.state = .seek ∨ x.state = .release then byte 0 ++ be16Capped x.allowance
  else
    match x.leg with
    | some l => byte (bitsByte [true, decide (l.dir = .negative)]) ++ be16Capped l.left
    | none => byte 0 ++ be16 (Config.absentCount free).toNat

/-- The plan byte and target of page 3 of READ_AXIS (R183). The target of an absent plan is a free value
(notes/assumptions/10.md); its clamped and owed bits are 0 (notes/assumptions/36.md). -/
def Axis.planBytes (x : Axis) (free : Nat) : List Byte :=
  match x.plan with
  | some p => byte (bitsByte [true, p.clamped, p.owed]) ++ be16 p.target
  | none => byte 0 ++ be16 (Config.absentTarget free).toNat

/-- A page of the READ_AXIS report, with the approach direction in force (R149, R183). -/
def Axis.page (x : Axis) (approach : Dir) (free : Nat) : Fin 4 → List Byte
  | 0 => byte (bitsByte [x.lowActive, x.highActive, x.lowLatched, x.highLatched]) ++ byte x.state.code ++ flagByte x.homed
      ++ byte approach.code ++ be16 x.position ++ be16 x.vel
  | 1 => be16 x.limit ++ be16 x.vmax ++ be16 x.vstart ++ be16 x.homeVel
  | 2 => be16 x.backlash ++ byte x.accel ++ byte x.current ++ byte approach.code
      ++ byte (bitsByte [x.lowEnable, x.lowFalling, x.highEnable, x.highFalling]) ++ be16 x.acc
  | 3 => x.legBytes free ++ x.planBytes free

/-- The latched flags cleared by a READ_AXIS of page 0 (R149, R183). -/
def Axis.clearLatched (x : Axis) : Axis := { x with lowLatched := false, highLatched := false }

/-- Page 3 draws a free value when it reports an absent leg or plan. -/
def Axis.pageDrawsFree (x : Axis) (page : Fin 4) : Bool :=
  decide (page = 3) && (x.plan.isNone || (x.leg.isNone && decide (x.state ≠ .seek) && decide (x.state ≠ .release)))

/-- READ_AXIS as the lens axes take it (R149, R183). -/
def readAxis (axis : Byte) (page : Fin 4) : Owner := fun s =>
  match AxisId.ofCode axis with
  | none => answer .refusedRange s
  | some a =>
    let reply := Reply.okWith (page8 ((s.axis a).page (s.approachOf a) s.freeCount page))
    if page = 0 then (s.setAxis a (s.axis a).clearLatched, reply)
    else (s.drawFreeIf ((s.axis a).pageDrawsFree page), reply)

/-! ### The commands -/

/-- WRITE_AXIS. -/
def execWriteAxis (tag axis : Byte) (limit vmax vstart : BitVec 16) (accel : Byte) (homeVel backlash : BitVec 16)
    (current approach endstops : Byte) (s : State) : Out :=
  .next (s.takePacket tag (writeAxis axis limit vmax vstart accel homeVel backlash current approach endstops))

/-- READ_AXIS. -/
def execReadAxis (tag axis : Byte) (page : Fin 4) (s : State) : Out := .next (s.takePacket tag (readAxis axis page))

end Sys2Proof.Machine
end

