-- ==== Sys2Proof/Machine/ChannelCommands.lean ====
section
/-! DEFINITION. The control channel's own commands: ACK_EVENTS, SET_EVENT_ENABLE and READ_STATUS (R174, R175,
R177). -/

namespace Sys2Proof.Machine

/-- ACK_EVENTS as the control channel takes it (R174). -/
def ackEvents (events : BitVec 16) : Owner := fun s =>
  match eventSet events with
  | none => answer .refusedRange s
  | some m => (s.setChan (s.chan.acknowledge m), .okWith (be16 (s.chan.flags &&& m).toNat))

/-- SET_EVENT_ENABLE as the control channel takes it (R175). -/
def setEventEnable (events : BitVec 16) : Owner := fun s =>
  match eventSet events with
  | none => answer .refusedRange s
  | some m => (s.setChan { s.chan with enables := m }, .ok)

/-- The blind flags as one byte (R178). -/
def State.blindByte (s : State) : Nat :=
  (if s.isBlind .light then 1 else 0) + (if s.isBlind .panel then 2 else 0) + (if s.isBlind .air then 4 else 0)

/-- A page of the READ_STATUS report (R177, R183). -/
def State.statusPage (s : State) : Fin 3 → List Byte
  | 0 => tempBytes (s.zone .light).temp ++ tempBytes (s.zone .panel).temp ++ tempBytes (s.zone .air).temp
      ++ byte s.blindByte ++ byte s.zoneCtl.mode.code
  | 1 => byte (s.fan .f0).state.code ++ byte (s.fan .f1).state.code ++ byte (s.fan .f2).state.code
      ++ byte s.axisH.state.code ++ byte s.axisV.state.code ++ be16 s.zoneCtl.ceiling
  | 2 => be16 s.light.user ++ be16 s.light.thermal ++ be16 s.light.motion ++ be16 s.light.safety

/-- READ_STATUS as the control channel takes it (R177). -/
def readStatus (page : Fin 3) : Owner := fun s => (s, .okWith (page8 (s.statusPage page)))

/-! ### The commands -/

/-- ACK_EVENTS. -/
def execAckEvents (tag : Byte) (events : BitVec 16) (s : State) : Out := .next (s.takePacket tag (ackEvents events))

/-- SET_EVENT_ENABLE. -/
def execSetEventEnable (tag : Byte) (events : BitVec 16) (s : State) : Out :=
  .next (s.takePacket tag (setEventEnable events))

/-- READ_STATUS. -/
def execReadStatus (tag : Byte) (page : Fin 3) (s : State) : Out := .next (s.takePacket tag (readStatus page))

end Sys2Proof.Machine
end

