-- ==== Sys2Proof/Machine/FanCommands.lean ====
section
/-! DEFINITION. The fan drivers' commands: WRITE_FAN, CLEAR_FAN and READ_FAN (R104, R112, R115). -/

namespace Sys2Proof.Machine

/-- A duty that WRITE_FAN may carry (R103). -/
def dutyInRange (d : Nat) : Bool := decide (1 ≤ d) && decide (d ≤ Config.fullDuty)

/-- The duties of WRITE_FAN lie within their ranges, the minimum at or below every ceiling (R104). -/
def fanDutiesOk (minDuty quiet standard high : Nat) : Bool :=
  dutyInRange minDuty && dutyInRange quiet && dutyInRange standard && dutyInRange high
    && decide (minDuty ≤ quiet) && decide (minDuty ≤ standard) && decide (minDuty ≤ high)

/-- WRITE_FAN as the fan drivers take it (R104): the speed measurement starts afresh. -/
def writeFan (fan : Byte) (minDuty : BitVec 16) (mayStop : Byte) (quiet standard high : BitVec 16) (current edges edgeSel : Byte) :
    Owner := fun s =>
  match FanId.ofCode fan, TachSelect.ofCode edgeSel with
  | some f, some e =>
    if fanDutiesOk minDuty.toNat quiet.toNat standard.toNat high.toNat ∧ 1 ≤ edges.toNat ∧ edges.toNat ≤ 8 then
      (s.setFan f { s.fan f with
        minDuty := minDuty.toNat, mayStop := yes mayStop, quiet := quiet.toNat, standard := standard.toNat, high := high.toNat,
        current := current.toNat, edges := edges.toNat, edgeSel := e, edgeHeld := false, speed := 0 }, .ok)
    else answer .refusedRange s
  | _, _ => answer .refusedRange s

/-- CLEAR_FAN as the fan drivers take it (R112). -/
def clearFan (fan : Byte) : Owner := fun s =>
  match FanId.ofCode fan with
  | none => answer .refusedRange s
  | some f => (s.clearFan f, .ok)

/-- A page of the READ_FAN report (R115, R183). -/
def Fan.page (x : Fan) (f : FanId) : Fin 4 → List Byte
  | 0 => be16 x.minDuty ++ be16 x.quiet ++ be16 x.standard ++ be16 x.high
  | 1 => flagByte x.mayStop ++ byte x.current ++ byte x.edges ++ byte x.edgeSel.code ++ byte (lossAction f).code
      ++ byte x.state.code ++ byte x.retry ++ flagByte x.atCeiling
  | 2 => be16 x.requested ++ be16 x.applied ++ be16 x.ceiling
  | 3 => be32 x.speed

/-- READ_FAN as the fan drivers take it (R115). -/
def readFan (fan : Byte) (page : Fin 4) : Owner := fun s =>
  match FanId.ofCode fan with
  | none => answer .refusedRange s
  | some f => (s, .okWith (page8 ((s.fan f).page f page)))

/-! ### The commands -/

/-- WRITE_FAN. -/
def execWriteFan (tag fan : Byte) (minDuty : BitVec 16) (mayStop : Byte) (quiet standard high : BitVec 16)
    (current edges edgeSel : Byte) (s : State) : Out :=
  .next (s.takePacket tag (writeFan fan minDuty mayStop quiet standard high current edges edgeSel))

/-- CLEAR_FAN. -/
def execClearFan (tag fan : Byte) (s : State) : Out := .next (s.takePacket tag (clearFan fan))

/-- READ_FAN. -/
def execReadFan (tag fan : Byte) (page : Fin 4) (s : State) : Out := .next (s.takePacket tag (readFan fan page))

end Sys2Proof.Machine
end

