-- ==== Sys2Proof/Machine/GridStore.lean ====
section
/-! DEFINITION. The grid store: the six grid commands (R27 to R45). -/

namespace Sys2Proof.Machine

/-! ### Slots (R27, R28) -/

/-- The written count (R27). -/
def Slot.writtenCount (x : Slot) : Nat := x.written.toList.count true

/-- The first unwritten index, or none when every flag is set (R27). -/
def Slot.firstUnwritten (x : Slot) : Option Nat := (List.range 170).find? fun n => !x.written.getD n true

/-- Every written flag is set (R34). -/
def Slot.full (x : Slot) : Bool := x.written.toList.all id

/-- The slot is protected: a pointer names it (R30). -/
def State.isActive (s : State) (n : Fin 4) : Bool := decide (s.warp.active = some n)

/-- The pending choice names the slot (R30, R41). -/
def State.isPending (s : State) (n : Fin 4) : Bool := s.warp.choice.any fun c => decide (c.slot = some n)

def State.isProtected (s : State) (n : Fin 4) : Bool := s.isActive n || s.isPending n

/-! ### WRITE_GRID (R32, R33) -/

/-- A carried point's source position (R181). -/
def pointOf (q : RawPoint) : Point := ⟨q.x.toInt, q.y.toInt⟩

/-- A point lies within the source coordinate range (R32). -/
def pointInRange (q : RawPoint) : Bool := within (-65536) 65535 q.x.toInt && within (-65536) 65535 q.y.toInt

/-- Points stored from an index on (R33). -/
def storePoints (pts : Vector Point 170) (k : Nat) : List RawPoint → Vector Point 170
  | [] => pts
  | q :: qs => storePoints (pts.setIfInBounds k (pointOf q)) (k + 1) qs

/-- Written flags set from an index on, as many as the points (R33). -/
def markWritten (w : Vector Bool 170) (k : Nat) : List RawPoint → Vector Bool 170
  | [] => w
  | _ :: qs => markWritten (w.setIfInBounds k true) (k + 1) qs

/-- A slot with points written (R33): it becomes LOADING and reports no clamps. -/
def Slot.write (x : Slot) (first : Nat) (points : List RawPoint) : Slot :=
  { points := storePoints x.points first points, written := markWritten x.written first points, state := .loading, clampCount := 0 }

/-- The written count and the first unwritten index as answer data (R33, R34, R182). -/
def Slot.progress (x : Slot) : List Byte := byte x.writtenCount ++ orNone x.firstUnwritten

/-- The range checks of WRITE_GRID on its first index, count and points (R32). -/
def writeGridInRange (first count : Nat) (points : List RawPoint) : Bool :=
  decide (1 ≤ count) && decide (count ≤ 8) && decide (first + count ≤ 170) && points.all pointInRange

/-- WRITE_GRID as the grid store takes it (R32, R33). -/
def writeGrid (slot first count : Byte) (points : List RawPoint) : Owner := fun s =>
  match index 4 slot with
  | none => answer .refusedRange s
  | some n =>
    if !writeGridInRange first.toNat count.toNat points then answer .refusedRange s
    else if s.isProtected n then answer .refusedProtected s
    else
      let x := (s.slot n).write first.toNat points
      (s.setSlot n x, .okWith x.progress)

/-! ### COMMIT_GRID (R34) -/

/-- The Y of a point of grid row `j` brought into the displacement window (R34). -/
def clampY (j : Nat) (y : Int) : Int :=
  3840 * j + clampInt (y - 3840 * j) Config.minDisplacement Config.maxDisplacement

/-- Point `n` as a commit leaves it (R34). -/
def commitPoint (n : Nat) (p : Point) : Point := ⟨p.x, clampY (n / 17) p.y⟩

/-- A commit changes point `n` (R34). -/
def commitChanges (n : Nat) (p : Point) : Bool := decide ((commitPoint n p).y ≠ p.y)

/-- The points as a commit leaves them (R34). -/
def Slot.committedPoints (x : Slot) : Vector Point 170 := Vector.ofFn fun n : Fin 170 => commitPoint n.val (x.points.get n)

/-- The number of points whose Y a commit changes (R34). -/
def Slot.changedCount (x : Slot) : Nat := (List.range 170).countP fun n => commitChanges n (x.points.getD n ⟨0, 0⟩)

/-- A slot committed (R34). -/
def Slot.commit (x : Slot) : Slot :=
  { x with points := x.committedPoints, state := .valid, clampCount := x.changedCount }

/-- COMMIT_GRID as the grid store takes it (R34). -/
def commitGrid (slot : Byte) : Owner := fun s =>
  match index 4 slot with
  | none => answer .refusedRange s
  | some n =>
    let x := s.slot n
    if x.state ≠ .loading then answer .refusedState s
    else if !x.full then (s, { result := .refusedIncomplete, data := x.progress })
    else
      (s.setSlot n x.commit,
        { result := if x.changedCount = 0 then .ok else .okClamped, data := byte x.changedCount })

/-! ### ERASE_GRID, SELECT_GRID and the reads (R36 to R41) -/

/-- A slot erased: its points keep their values (R36). -/
def Slot.erase (x : Slot) : Slot := { x with state := .empty, written := Vector.replicate 170 false, clampCount := 0 }

/-- ERASE_GRID as the grid store takes it (R36). -/
def eraseGrid (slot : Byte) : Owner := fun s =>
  match index 4 slot with
  | none => answer .refusedRange s
  | some n =>
    if s.isProtected n then answer .refusedProtected s else (s.setSlot n (s.slot n).erase, .ok)

/-- A pending choice of origin SELECT placed (R16). -/
def State.selectChoice (s : State) (slot : Option (Fin 4)) : State :=
  s.setWarp { s.warp with choice := some { slot := slot, origin := .select } }

/-- SELECT_GRID as the grid store takes it (R37, R38). -/
def selectGrid (slot : Byte) : Owner := fun s =>
  match indexOrNone 4 slot with
  | none => answer .refusedRange s
  | some none => (s.selectChoice none, .ok)
  | some (some n) => if (s.slot n).state = .valid then (s.selectChoice (some n), .ok) else answer .refusedState s

/-- A stored point as READ_GRID carries it (R181). -/
def Point.bytes (p : Point) : List Byte := pointBytes ⟨BitVec.ofInt 20 p.x, BitVec.ofInt 20 p.y⟩

/-- READ_GRID as the grid store takes it (R40). -/
def readGrid (slot idx : Byte) : Owner := fun s =>
  match index 4 slot, index 170 idx with
  | some n, some k =>
    let x := s.slot n
    (s, .okWith ((x.points.get k).bytes ++ flagByte (x.written.get k) ++ byte x.state.code))
  | _, _ => answer .refusedRange s

/-- GRID_INFO as the grid store takes it (R41). -/
def gridInfo (slot : Byte) : Owner := fun s =>
  match index 4 slot with
  | none => answer .refusedRange s
  | some n =>
    let x := s.slot n
    (s, .okWith (byte x.state.code ++ x.progress ++ byte x.clampCount ++ flagByte (s.isActive n) ++ flagByte (s.isPending n)))

/-! ### The commands -/

/-- WRITE_GRID. A packet whose points are not as many as its count has the wrong length (R32, R169). -/
def execWriteGrid (tag slot first count : Byte) (points : List RawPoint) (s : State) : Out :=
  .next (s.takePacket tag (if points.length = count.toNat then writeGrid slot first count points else answer .badLength))

/-- COMMIT_GRID. -/
def execCommitGrid (tag slot : Byte) (s : State) : Out := .next (s.takePacket tag (commitGrid slot))

/-- ERASE_GRID. -/
def execEraseGrid (tag slot : Byte) (s : State) : Out := .next (s.takePacket tag (eraseGrid slot))

/-- SELECT_GRID. -/
def execSelectGrid (tag slot : Byte) (s : State) : Out := .next (s.takePacket tag (selectGrid slot))

/-- READ_GRID. -/
def execReadGrid (tag slot idx : Byte) (s : State) : Out := .next (s.takePacket tag (readGrid slot idx))

/-- GRID_INFO. -/
def execGridInfo (tag slot : Byte) (s : State) : Out := .next (s.takePacket tag (gridInfo slot))

end Sys2Proof.Machine
end

