-- ==== Sys2Proof/Machine/LightCommands.lean ====
section
/-! DEFINITION. The light drive's commands: SET_LIGHT, SET_LIGHT_RAMP and READ_LIGHT (R53, R60, R63). -/

namespace Sys2Proof.Machine

/-- SET_LIGHT as the light drive takes it (R53). -/
def setLight (level : BitVec 16) : Owner := fun s =>
  if level.toNat ≤ Config.fullLevel then (s.setLight (s.light.setUser level.toNat), .ok) else answer .refusedRange s

/-- The ramp step and blank level lie within their ranges (R60). -/
def rampInRange (rampStep blankLevel : Nat) : Bool :=
  decide (1 ≤ rampStep) && decide (rampStep ≤ Config.fullLevel) && decide (blankLevel ≤ Config.fullLevel)

/-- SET_LIGHT_RAMP as the light drive takes it (R60). -/
def setLightRamp (rampStep blankLevel : BitVec 16) : Owner := fun s =>
  if rampInRange rampStep.toNat blankLevel.toNat then
    (s.setLight { s.light with rampStep := rampStep.toNat, blankLevel := blankLevel.toNat }, .ok)
  else answer .refusedRange s

/-- A page of the READ_LIGHT report (R63, R183). -/
def State.lightPage (s : State) : Fin 3 → List Byte
  | 0 => be16 s.light.user ++ be16 s.light.thermal ++ be16 s.light.motion ++ be16 s.light.safety
  | 1 => be16 s.light.target ++ byte s.light.governing.code ++ be16 s.light.applied ++ flagByte s.light.motionHeld
      ++ be16 s.light.rampStep
  | 2 => be16 s.light.blankLevel ++ be16 s.stats.feedForward ++ be16 s.dumpLoad

/-- READ_LIGHT as the light drive takes it (R63). -/
def readLight (page : Fin 3) : Owner := fun s => (s, .okWith (page8 (s.lightPage page)))

/-- SET_LIGHT. -/
def execSetLight (tag : Byte) (level : BitVec 16) (s : State) : Out := .next (s.takePacket tag (setLight level))

/-- SET_LIGHT_RAMP. -/
def execSetLightRamp (tag : Byte) (rampStep blankLevel : BitVec 16) (s : State) : Out :=
  .next (s.takePacket tag (setLightRamp rampStep blankLevel))

/-- READ_LIGHT. -/
def execReadLight (tag : Byte) (page : Fin 3) (s : State) : Out := .next (s.takePacket tag (readLight page))

end Sys2Proof.Machine
end

