-- ==== Sys2Proof/Machine/MotionCommands.lean ====
section
/-! DEFINITION. The motion queue's commands (R152, R162, R164 to R166). -/

namespace Sys2Proof.Machine

/-! ### Requests (R152) -/

/-- A record as it is taken into the queue (R152). -/
def Request.fresh (tag : Byte) (j : Job) : Request :=
  { tag := tag, job := j, phase := .queued, clamped := false, stopReq := false }

/-- A record appended to the back of the queue (R152). -/
def State.append (s : State) (r : Request) : State := s.setMotion { s.motion with queue := s.motion.queue ++ [r] }

/-- A request that passed its range check: the operating state, then the room in the queue, then the append,
after which the queue starts what it may (R152, R153). -/
def enqueue (tag : Byte) (j : Job) : Owner := fun s =>
  if !s.ctl.op.moves then answer .refusedState s
  else if Config.queueRoom ≤ s.motion.queue.length then answer .refusedFull s
  else ((s.append (.fresh tag j)).pump, { result := .queued, data := byte (s.motion.queue.length + 1) })

/-- MOVE_AXIS as the motion queue takes it (R152). -/
def moveAxis (tag axis : Byte) (target : BitVec 16) : Owner := fun s =>
  match AxisId.ofCode axis with
  | none => answer .refusedRange s
  | some a => enqueue tag (.moveAxis a target.toNat) s

/-- STEP_AXIS as the motion queue takes it (R152). -/
def stepAxis (tag axis : Byte) (delta : BitVec 24) : Owner := fun s =>
  match AxisId.ofCode axis with
  | none => answer .refusedRange s
  | some a =>
    if within (-65535) 65535 delta.toInt then enqueue tag (.stepAxis a delta.toInt) s else answer .refusedRange s

/-- HOME as the motion queue takes it (R152). -/
def home (tag selection : Byte) : Owner := fun s =>
  match HomeSel.ofCode selection with
  | none => answer .refusedRange s
  | some sel => enqueue tag (.home sel) s

/-- RECALL_PRESET as the motion queue takes it: an invalid preset is refused after the operating state and
before the room (R152). -/
def recallPreset (tag preset : Byte) : Owner := fun s =>
  match index 12 preset with
  | none => answer .refusedRange s
  | some n =>
    if !(s.motion.presets[n]).valid then answer .refusedState s
    else enqueue tag (.recall n.val s.motion.presets[n]) s

/-- STOP_MOTION as the motion queue takes it (R162). -/
def stopMotion : Owner := fun s => (s.stopMotion, .okWith (byte (s.endedAtOnce s.stopExecuting)))

/-! ### Presets (R165, R166) -/

def State.setPreset (s : State) (n : Fin 12) (p : Preset) : State :=
  s.setMotion { s.motion with presets := s.motion.presets.set n p }

/-- STORE_PRESET in EXPLICIT mode: each target clamped to its axis's travel limit (R165). -/
def storeExplicit (n : Fin 12) (h v : Nat) (slot : Option (Fin 4)) (blank : Bool) : Owner := fun s =>
  (s.setPreset n { valid := true, hTarget := min h s.axisH.limit, vTarget := min v s.axisV.limit, slot := slot, blank := blank },
    .plain (if s.axisH.limit < h ∨ s.axisV.limit < v then .okClamped else .ok))

/-- An axis is homed and IDLE (R165). -/
def Axis.ready (x : Axis) : Bool := x.homed && decide (x.state = .idle)

/-- STORE_PRESET in CURRENT mode: the two axis positions (R165). -/
def storeCurrent (n : Fin 12) (slot : Option (Fin 4)) (blank : Bool) : Owner := fun s =>
  if s.axisH.ready && s.axisV.ready then
    (s.setPreset n { valid := true, hTarget := s.axisH.position, vTarget := s.axisV.position, slot := slot, blank := blank }, .ok)
  else answer .refusedState s

/-- STORE_PRESET as the motion queue takes it (R165). -/
def storePreset (preset mode : Byte) (hTarget vTarget : BitVec 16) (slot blank : Byte) : Owner := fun s =>
  match index 12 preset, PresetMode.ofCode mode, indexOrNone 4 slot with
  | some n, some .explicit, some g => storeExplicit n hTarget.toNat vTarget.toNat g (yes blank) s
  | some n, some .current, some g => storeCurrent n g (yes blank) s
  | _, _, _ => answer .refusedRange s

/-- ERASE_PRESET as the motion queue takes it (R166). -/
def erasePreset (preset : Byte) : Owner := fun s =>
  match index 12 preset with
  | none => answer .refusedRange s
  | some n => (s.setPreset n { s.motion.presets[n] with valid := false }, .ok)

/-- A preset's five fields (R166, R182). -/
def Preset.bytes (p : Preset) : List Byte :=
  flagByte p.valid ++ be16 p.hTarget ++ be16 p.vTarget ++ orNone (p.slot.map Fin.val) ++ flagByte p.blank

/-- READ_PRESET as the motion queue takes it (R166). -/
def readPreset (preset : Byte) : Owner := fun s =>
  match index 12 preset with
  | none => answer .refusedRange s
  | some n => (s, .okWith (s.motion.presets[n]).bytes)

/-! ### READ_MOTION (R164) -/

/-- A history entry as page 0 of READ_MOTION carries it, or 00h throughout (R183). -/
def histBytes : Option HistEntry → List Byte
  | none => List.replicate 8 0
  | some e => flagByte true ++ [e.tag] ++ byte e.kind.code ++ byte e.result.code ++ be16 e.hPos ++ be16 e.vPos

/-- The executing request as page 1 of READ_MOTION carries it (R183). -/
def executingBytes : Option Executing → List Byte
  | none => List.replicate 4 0
  | some x => flagByte true ++ [x.req.tag] ++ byte x.req.job.kind.code ++ byte x.req.phase.code

/-- A page of the READ_MOTION report (R164, R183). -/
def Motion.page (m : Motion) (idx : Nat) : Fin 2 → List Byte
  | 0 => histBytes (m.history[idx]?)
  | 1 => byte m.queue.length ++ executingBytes m.executing

/-- READ_MOTION as the motion queue takes it (R164). -/
def readMotion (idx : Byte) (page : Fin 2) : Owner := fun s =>
  if idx.toNat < Config.queueRoom then (s, .okWith (page8 (s.motion.page idx.toNat page))) else answer .refusedRange s

/-! ### The commands -/

/-- MOVE_AXIS. -/
def execMoveAxis (tag axis : Byte) (target : BitVec 16) (s : State) : Out := .next (s.takePacket tag (moveAxis tag axis target))

/-- STEP_AXIS. -/
def execStepAxis (tag axis : Byte) (delta : BitVec 24) (s : State) : Out := .next (s.takePacket tag (stepAxis tag axis delta))

/-- HOME. -/
def execHome (tag selection : Byte) (s : State) : Out := .next (s.takePacket tag (home tag selection))

/-- RECALL_PRESET. -/
def execRecallPreset (tag preset : Byte) (s : State) : Out := .next (s.takePacket tag (recallPreset tag preset))

/-- STOP_MOTION. -/
def execStopMotion (tag : Byte) (s : State) : Out := .next (s.takePacket tag stopMotion)

/-- STORE_PRESET. -/
def execStorePreset (tag preset mode : Byte) (hTarget vTarget : BitVec 16) (slot blank : Byte) (s : State) : Out :=
  .next (s.takePacket tag (storePreset preset mode hTarget vTarget slot blank))

/-- ERASE_PRESET. -/
def execErasePreset (tag preset : Byte) (s : State) : Out := .next (s.takePacket tag (erasePreset preset))

/-- READ_PRESET. -/
def execReadPreset (tag preset : Byte) (s : State) : Out := .next (s.takePacket tag (readPreset preset))

/-- READ_MOTION. -/
def execReadMotion (tag idx : Byte) (page : Fin 2) (s : State) : Out := .next (s.takePacket tag (readMotion idx page))

end Sys2Proof.Machine
end

