-- ==== Sys2Proof/Machine/SourceCommands.lean ====
section
/-! DEFINITION. The temperature sources' commands (R67, R68, R70, R71, R82, R84, R85, R87, R88). -/

namespace Sys2Proof.Machine

/-! ### The poll table (R70, R71) -/

/-- The poll entry that WRITE_POLL carries, when its fields lie within their ranges (R69, R70). -/
def pollEntryOf (enable address register fraction pec : Byte) : Option PollEntry :=
  if 0x08 ≤ address.toNat ∧ address.toNat ≤ 0x77 ∧ fraction.toNat ≤ 8 then
    some { enable := yes enable, address := address.toNat, register := register.toNat, fraction := fraction.toNat, pec := yes pec }
  else none

/-- An entry in flight, marked as discarded when a WRITE_POLL names it (R70). -/
def Flight.discard (f : Flight) (n : Fin 8) : Flight := if f.entry = n then { f with discarded := true } else f

/-- The poll table and the sweep after a WRITE_POLL is taken (R70). -/
def Temps.writePoll (t : Temps) (n : Fin 8) (e : PollEntry) : Temps :=
  { t with
    poll := t.poll.set n e
    sweepList := t.sweepList.filter fun m => m ≠ n
    flight := t.flight.map fun f => f.discard n }

/-- WRITE_POLL as the temperature sources take it (R70). -/
def writePoll (entry enable address register fraction pec : Byte) : Owner := fun s =>
  match index 8 entry, pollEntryOf enable address register fraction pec with
  | some n, some e => ((s.setTemps (s.temps.writePoll n e)).unread (pollSource n), .ok)
  | _, _ => answer .refusedRange s

/-- A poll entry's five fields (R71, R182). -/
def PollEntry.bytes (e : PollEntry) : List Byte :=
  flagByte e.enable ++ byte e.address ++ byte e.register ++ byte e.fraction ++ flagByte e.pec

/-- READ_POLL as the temperature sources take it (R71). -/
def readPoll (entry : Byte) : Owner := fun s =>
  match index 8 entry with
  | none => answer .refusedRange s
  | some n => (s, .okWith (s.temps.poll[n]).bytes)

/-! ### Source records (R67, R68) -/

/-- ASSIGN_SOURCE as the temperature sources take it (R67). -/
def assignSource (source zone : Byte) : Owner := fun s =>
  match index 12 source, zoneOrNone zone with
  | some n, some z => (s.setSource n { s.source n with zone := z }, .ok)
  | _, _ => answer .refusedRange s

/-- The thermistor channel of a source, absent for a poll entry's source (R67). -/
def channelOf (n : Fin 12) : Option Channel :=
  match n with
  | 8 => some .c0
  | 9 => some .c1
  | 10 => some .c2
  | 11 => some .c3
  | _ => none

/-- A source record as READ_SOURCE reports it, the table apart (R68, R182). -/
def Source.bytes (x : Source) : List Byte :=
  byte x.state.code ++ byte x.lastOutcome.code ++ byte x.failures ++ byte x.goods ++ tempBytes x.lastGood
    ++ orNone (x.zone.map ZoneId.code)

/-- READ_SOURCE as the temperature sources take it (R68). The table byte of a poll entry's source is a free
value (notes/assumptions/10.md). -/
def readSource (source : Byte) : Owner := fun s =>
  match index 12 source with
  | none => answer .refusedRange s
  | some n =>
    match channelOf n with
    | some ch => (s, .okWith ((s.source n).bytes ++ byte (s.temps.tableOf ch).code))
    | none => (s.drawFree, .okWith ((s.source n).bytes ++ [Config.sourceTableByte s.freeCount]))

/-! ### Thermistor channels and tables (R82, R84, R85) -/

/-- A channel put on another table (R82). -/
def Temps.switchTable (t : Temps) (ch : Channel) (tab : TableId) : Temps :=
  { t with
    channelTable := t.channelTable.set ch.idx tab
    discardConversion := t.discardConversion || decide (t.converting = some ch) }

/-- WRITE_CHANNEL as the temperature sources take it (R82). -/
def writeChannel (channel table : Byte) : Owner := fun s =>
  match Channel.ofCode channel, TableId.ofCode table with
  | some ch, some tab =>
    if s.temps.tableOf ch = tab then (s, .ok)
    else ((s.setTemps (s.temps.switchTable ch tab)).unread ch.source, .ok)
  | _, _ => answer .refusedRange s

/-- Each value is at most the one before (R84). -/
def nonIncreasing : List Int → Bool
  | [] => true
  | [_] => true
  | a :: b :: rest => decide (b ≤ a) && nonIncreasing (b :: rest)

/-- The carried temperatures (R178). -/
def temperatures (values : List (BitVec 16)) : List Int := values.map fun v => v.toInt

/-- The carried temperatures all lie within the plausible range and do not rise (R84). -/
def tableValuesOk (values : List Int) : Bool := values.all plausible && nonIncreasing values

def State.setStaging (s : State) (x : Option Staging) : State := s.setTemps { s.temps with staging := x }

/-- A REFUSED_RANGE that empties the staging record (R84). -/
def refuseStaging : Owner := fun s => (s.setStaging none, .plain .refusedRange)

/-- The first part of WRITE_THERMISTOR_TABLE as the temperature sources take it (R84). -/
def writeTableFirst (table : Byte) (values : List (BitVec 16)) : Owner := fun s =>
  match TableId.ofCode table with
  | none => refuseStaging s
  | some tab =>
    if tableValuesOk (temperatures values) then (s.setStaging (some { table := tab, values := temperatures values }), .ok)
    else refuseStaging s

/-- A table of seventeen values from a list. -/
def tableOfList (values : List Int) : Vector Int 17 := Vector.ofFn fun k : Fin 17 => values.getD k.val 0

/-- A table installed, the staging record emptied (R84). -/
def Temps.install (t : Temps) (tab : TableId) (values : List Int) : Temps :=
  match tab with
  | .a => { t with tableA := tableOfList values, staging := none }
  | .b => { t with tableB := tableOfList values, staging := none }

/-- The second part of WRITE_THERMISTOR_TABLE as the temperature sources take it (R84). -/
def writeTableSecond (table : Byte) (values : List (BitVec 16)) : Owner := fun s =>
  match TableId.ofCode table with
  | none => refuseStaging s
  | some tab =>
    match s.temps.staging with
    | none => answer .refusedState s
    | some st =>
      if st.table ≠ tab then answer .refusedState s
      else if (temperatures values).all plausible && nonIncreasing (st.values.drop 8 ++ temperatures values) then
        (s.setTemps (s.temps.install tab (st.values ++ temperatures values)), .ok)
      else refuseStaging s

/-- READ_THERMISTOR_TABLE as the temperature sources take it (R85). -/
def readTable (table entry : Byte) : Owner := fun s =>
  match TableId.ofCode table, index 17 entry with
  | some tab, some k => (s, .okWith (beSigned16 (s.temps.table tab)[k]))
  | _, _ => answer .refusedRange s

/-! ### The trip comparator (R87, R88) -/

/-- SET_TRIP_COMPARATOR as the temperature sources take it: the new settings are judged as from RELEASED (R87). -/
def setTripComparator (channel : Byte) (threshold : BitVec 16) : Owner := fun s =>
  if s.ctl.op = .tripped then answer .refusedState s
  else
    match Channel.ofCode channel with
    | none => answer .refusedRange s
    | some ch =>
      if threshold.toNat ≤ 4031 then
        ((s.setComparator { channel := ch, threshold := threshold.toNat, state := .released }).judgeComparator, .ok)
      else answer .refusedRange s

/-- READ_TRIP_COMPARATOR as the temperature sources take it (R88). -/
def readTripComparator : Owner := fun s =>
  let c := s.temps.comparator
  (s, .okWith (byte c.channel.code ++ be16 c.threshold ++ byte c.state.code ++ be16 s.temps.watchedCode))

/-! ### The commands -/

/-- WRITE_POLL. -/
def execWritePoll (tag entry enable address register fraction pec : Byte) (s : State) : Out :=
  .next (s.takePacket tag (writePoll entry enable address register fraction pec))

/-- READ_POLL. -/
def execReadPoll (tag entry : Byte) (s : State) : Out := .next (s.takePacket tag (readPoll entry))

/-- ASSIGN_SOURCE. -/
def execAssignSource (tag source zone : Byte) (s : State) : Out := .next (s.takePacket tag (assignSource source zone))

/-- READ_SOURCE. -/
def execReadSource (tag source : Byte) (s : State) : Out := .next (s.takePacket tag (readSource source))

/-- WRITE_CHANNEL. -/
def execWriteChannel (tag channel table : Byte) (s : State) : Out := .next (s.takePacket tag (writeChannel channel table))

/-- WRITE_THERMISTOR_TABLE, first part. A packet that does not carry nine values has the wrong length (R169). -/
def execWriteThermistorTableFirst (tag table : Byte) (values : List (BitVec 16)) (s : State) : Out :=
  .next (s.takePacket tag (if values.length = 9 then writeTableFirst table values else answer .badLength))

/-- WRITE_THERMISTOR_TABLE, second part. A packet that does not carry eight values has the wrong length (R169). -/
def execWriteThermistorTableSecond (tag table : Byte) (values : List (BitVec 16)) (s : State) : Out :=
  .next (s.takePacket tag (if values.length = 8 then writeTableSecond table values else answer .badLength))

/-- READ_THERMISTOR_TABLE. -/
def execReadThermistorTable (tag table entry : Byte) (s : State) : Out := .next (s.takePacket tag (readTable table entry))

/-- SET_TRIP_COMPARATOR. -/
def execSetTripComparator (tag channel : Byte) (threshold : BitVec 16) (s : State) : Out :=
  .next (s.takePacket tag (setTripComparator channel threshold))

/-- READ_TRIP_COMPARATOR. -/
def execReadTripComparator (tag : Byte) (s : State) : Out := .next (s.takePacket tag readTripComparator)

end Sys2Proof.Machine
end

