-- ==== Sys2Proof/Machine/StateCommands.lean ====
section
/-! DEFINITION. The state controller's commands: LIGHT_ON, LIGHT_OFF, CLEAR_TRIP, SET_INSTALL, READ_STATE and
ENGINE_RESET (R118, R119, R123, R126 to R128). -/

namespace Sys2Proof.Machine

/-- LIGHT_ON judged on its conditions in STANDBY and COOLDOWN (R118). -/
def tryLight : Owner := fun s =>
  match s.lightOnBar with
  | some b => (s, .hot b)
  | none => (s.changeState .lit, .ok)

/-- LIGHT_ON as the state controller takes it (R118). -/
def lightOn : Owner := fun s =>
  match s.ctl.op with
  | .standby => tryLight s
  | .cooldown => tryLight s
  | .lit => (s, .ok)
  | .tripped => answer .refusedState s

/-- LIGHT_OFF as the state controller takes it (R119). -/
def lightOff : Owner := fun s => (if s.ctl.op = .lit then s.changeState .cooldown else s, .ok)

/-- CLEAR_TRIP as the state controller takes it (R123). -/
def clearTrip : Owner := fun s =>
  if s.ctl.op = .tripped then
    match s.clearTripBar with
    | some b => (s, .hot b)
    | none => (s.changeState .cooldown, .ok)
  else (s, .ok)

/-- SET_INSTALL as the state controller takes it (R126). -/
def setInstall (orientation acoustic : Byte) (budget : BitVec 16) : Owner := fun s =>
  match Orientation.ofCode orientation, Acoustic.ofCode acoustic with
  | some o, some a =>
    if budget.toNat ≤ 1000 then
      (s.setCtl { s.ctl with orientation := o, acoustic := a, budget := budget.toNat }, .ok)
    else answer .refusedRange s
  | _, _ => answer .refusedRange s

/-- The run-on elapsed as it is carried; FFFFh when it is stopped (R178). -/
def runOnBytes : Option Nat → List Byte
  | none => be16 0xFFFF
  | some n => be16 n

/-- The READ_STATE report (R127, R182). -/
def StateCtl.report (c : StateCtl) : List Byte :=
  byte c.op.code ++ runOnBytes c.runOn ++ byte c.lastTrip.code ++ byte (c.silence + if c.armed then 128 else 0)
    ++ byte (128 * c.orientation.code + c.acoustic.code) ++ be16 c.budget

/-- READ_STATE as the state controller takes it (R127). -/
def readState : Owner := fun s => (s, .okWith s.ctl.report)

/-- ENGINE_RESET as the state controller takes it (R128). -/
def engineReset : Owner := fun s =>
  if s.ctl.op = .standby then (s.setCtl { s.ctl with resetPending := true }, .ok) else answer .refusedState s

/-! ### The commands -/

/-- LIGHT_ON. -/
def execLightOn (tag : Byte) (s : State) : Out := .next (s.takePacket tag lightOn)

/-- LIGHT_OFF. -/
def execLightOff (tag : Byte) (s : State) : Out := .next (s.takePacket tag lightOff)

/-- CLEAR_TRIP. -/
def execClearTrip (tag : Byte) (s : State) : Out := .next (s.takePacket tag clearTrip)

/-- SET_INSTALL. -/
def execSetInstall (tag orientation acoustic : Byte) (budget : BitVec 16) (s : State) : Out :=
  .next (s.takePacket tag (setInstall orientation acoustic budget))

/-- READ_STATE. -/
def execReadState (tag : Byte) (s : State) : Out := .next (s.takePacket tag readState)

/-- ENGINE_RESET. -/
def execEngineReset (tag : Byte) (s : State) : Out := .next (s.takePacket tag engineReset)

end Sys2Proof.Machine
end

