-- ==== Sys2Proof/Machine/LineStore.lean ====
section
/-! DEFINITION. The line store: a ring of 320 line places, held as the places that are not black (R6, R8, R9). -/

namespace Sys2Proof.Machine

/-- Black (R6). -/
def black : Pixel := ⟨0, 0, 0⟩

/-- A line without its trailing black pixels, so that equal lines are equal data. -/
def trimBlack : List Pixel → Line
  | [] => []
  | p :: ps => if trimBlack ps = [] ∧ p = black then [] else p :: trimBlack ps

/-- The line that an active line is stored as: its first 3840 pixels, filled with black (R6). -/
def storedLine (pixels : List Pixel) : Line := trimBlack (pixels.take Config.lineWidth)

/-- Writing a line into a place (R8). A black line removes the place's entry. -/
def writeLine : LineStore → Nat → Line → LineStore
  | [], k, l => if l = [] then [] else [(k, l)]
  | c :: cs, k, l =>
    if k < c.1 then (if l = [] then c :: cs else (k, l) :: c :: cs)
    else if k = c.1 then (if l = [] then cs else (k, l) :: cs)
    else c :: writeLine cs k l

/-- The line a place holds; an unlisted place holds black (R8). -/
def readLine : LineStore → Nat → Line
  | [], _ => []
  | c :: cs, k => if c.1 = k then c.2 else readLine cs k

/-- A pixel of the line a place holds. -/
def readPixel (st : LineStore) (place column : Nat) : Pixel := (readLine st place).getD column black

/-- A line in its one form: at most 3840 pixels, the last of them not black. -/
def lineWf (l : Line) : Bool := decide (l.length ≤ Config.lineWidth) && decide (trimBlack l = l)

/-- The line store's one form: places strictly rising and below 320, no black line listed, every line in its
one form. -/
def storeWf (st : LineStore) : Bool :=
  decide (st.Pairwise (fun a b => a.1 < b.1)) && st.all fun c => decide (c.1 < Config.linePlaces) && decide (c.2 ≠ []) && lineWf c.2

end Sys2Proof.Machine
end

