-- ==== Sys2Proof/Machine/Mapping.lean ====
section
/-! DEFINITION. The mapping computation of the warp engine: cell and weights, interpolation, border test and
sampling (R19 to R23), and the luma of an output pixel (R47). Integers only; every division is a floor
division (R1). -/

namespace Sys2Proof.Machine

/-- Grid point (i, j) of a slot (R28). -/
def pointAt (pts : Vector Point 170) (i j : Nat) : Point := pts.getD (17 * j + i) ⟨0, 0⟩

/-- The weighted mean of four corner values, rounded with an exact half upward (R20), for the fractions `fu`
and `fv` of the output pixel in its cell (R19). -/
def interpolate (fu fv : Nat) (p00 p10 p01 p11 : Int) : Int :=
  let w00 : Int := ((240 - fu) * (240 - fv) : Nat)
  let w10 : Int := (fu * (240 - fv) : Nat)
  let w01 : Int := ((240 - fu) * fv : Nat)
  let w11 : Int := (fu * fv : Nat)
  (w00 * p00 + w10 * p10 + w01 * p01 + w11 * p11 + 28800) / 57600

/-- The source position of output pixel (u, v) under a grid (R19, R20). -/
def gridPosition (pts : Vector Point 170) (u v : Nat) : Point :=
  let c := u / 240
  let r := v / 240
  let fu := u % 240
  let fv := v % 240
  let p00 := pointAt pts c r
  let p10 := pointAt pts (c + 1) r
  let p01 := pointAt pts c (r + 1)
  let p11 := pointAt pts (c + 1) (r + 1)
  ⟨interpolate fu fv p00.x p10.x p01.x p11.x, interpolate fu fv p00.y p10.y p01.y p11.y⟩

/-- The source position of output pixel (u, v): under the active grid, or the identity (R23). -/
def sourcePosition (grid : Option (Vector Point 170)) (u v : Nat) : Point :=
  match grid with
  | none => ⟨16 * u, 16 * v⟩
  | some pts => gridPosition pts u v

/-- The border test: the source position lies outside the input frame (R21). -/
def isBorder (p : Point) : Bool :=
  decide (p.x < 0) || decide (p.y < 0) || decide (61424 < p.x) || decide (34544 < p.y)

/-- The blend of four source components under the fractions `ax` and `ay` (R22). -/
def blend (ax ay : Nat) (p00 p10 p01 p11 : LaneWord) : LaneWord :=
  BitVec.ofNat 10 (((16 - ax) * (16 - ay) * p00.toNat + ax * (16 - ay) * p10.toNat + (16 - ax) * ay * p01.toNat
    + ax * ay * p11.toNat + 128) / 256)

/-- Sampling at a source position that passes the border test (R22); `src` gives row, then column. -/
def sample (src : Nat → Nat → Pixel) (p : Point) : Pixel :=
  let xi := (p.x / 16).toNat
  let yi := (p.y / 16).toNat
  let ax := (p.x % 16).toNat
  let ay := (p.y % 16).toNat
  let x1 := min (xi + 1) 3839
  let y1 := min (yi + 1) 2159
  let p00 := src yi xi
  let p10 := src yi x1
  let p01 := src y1 xi
  let p11 := src y1 x1
  ⟨blend ax ay p00.r p10.r p01.r p11.r, blend ax ay p00.g p10.g p01.g p11.g, blend ax ay p00.b p10.b p01.b p11.b⟩

/-- Output pixel (u, v): black and marked as border, or sampled (R21, R22). -/
def mapPixel (grid : Option (Vector Point 170)) (src : Nat → Nat → Pixel) (u v : Nat) : OutPixel :=
  let p := sourcePosition grid u v
  if isBorder p then ⟨black, true⟩ else ⟨sample src p, false⟩

/-- Row `r`, column `c` of a frame: from the line store below the rows received, black from there on (R9). -/
def sourcePixel (st : LineStore) (f : FrameRec) (r c : Nat) : Pixel :=
  if r < f.rows then readPixel st ((f.base + r) % Config.linePlaces) c else black

/-- The points of the grid in force (R15, R18). -/
def State.activeGrid (s : State) : Option (Vector Point 170) := s.warp.active.map fun n => (s.slot n).points

/-- The 3840 pixels of output line `v` of a frame (R10). -/
def State.outputPixels (s : State) (f : FrameRec) (v : Nat) : List OutPixel :=
  (List.range Config.lineWidth).map fun u => mapPixel s.activeGrid (sourcePixel s.warp.store f) u v

/-- The luma of a pixel (R47). -/
def luma (p : Pixel) : Nat := (77 * p.r.toNat + 150 * p.g.toNat + 29 * p.b.toNat + 128) / 256

end Sys2Proof.Machine
end

