-- ==== Sys2Proof/Machine/Statistics.lean ====
section
/-! DEFINITION. The statistics unit (R46 to R50). -/

namespace Sys2Proof.Machine

/-- A new output frame has begun (R48). -/
def Stats.beginFrame (x : Stats) : Stats :=
  let n := (x.frameNumber + 1) % 65536
  { x with frameNumber := n, current := n, lumaSum := 0, covered := 0, accumulating := true }

/-- The pixels of an output line handed on while an accumulation is in progress (R47). -/
def Stats.accumulate (x : Stats) (pixels : List OutPixel) : Stats :=
  if x.accumulating then
    { x with
      lumaSum := x.lumaSum + (pixels.map fun q => luma q.pixel).sum
      covered := x.covered + (pixels.filter fun q => !q.border).length }
  else x

/-- The end of an output frame, with whether all 2160 lines were produced and whether its source frame was
FULL (R49, R50). -/
def Stats.endFrame (x : Stats) (complete full : Bool) : Stats :=
  let apl := x.lumaSum / Config.framePixels
  let ok := complete && full
  { x with
    apl := apl
    coverage := x.covered
    valid := ok
    recordNumber := x.current
    feedForward := if ok then apl else x.feedForward
    accumulating := false }

end Sys2Proof.Machine
end

