-- ==== Sys2Proof/Machine/Video.lean ====
section
/-! DEFINITION. The warp engine's lines and frames: input lines, frame records, output timing, the grid latch
and the lock of the link (R3 to R18, R26). -/

namespace Sys2Proof.Machine

/-! ### Line times (R8) -/

/-- A line time passes: the arriving line is written into its place, the write position moves on, and the
output carries a blanking line until an output line is produced (R8, R10). -/
def Warp.takeLine (w : Warp) (kind : LineKind) (l : Line) : Warp :=
  { w with
    store := writeLine w.store w.writePos l
    writePos := (w.writePos + 1) % Config.linePlaces
    lineTime := w.lineTime + 1
    previous := some kind
    vout := .blanking }

/-- The count of line times at a value (R4, R8). -/
def State.setLineTime (s : State) (n : Nat) : State := s.setWarp { s.warp with lineTime := n }

/-! ### The list of frame records (R4, R5, R7) -/

/-- An update of the newest record. -/
def updateNewest (g : FrameRec → FrameRec) : List FrameRec → List FrameRec
  | [] => []
  | [f] => [g f]
  | f :: f' :: fs => f :: updateNewest g (f' :: fs)

/-- The newest record is RECEIVING. -/
def Warp.receiving (w : Warp) : Bool := w.frames.getLast?.any fun f => decide (f.reception = .receiving)

/-- One more row received; the row 2159 makes the record FULL (R5). -/
def FrameRec.addRow (f : FrameRec) : FrameRec :=
  { f with rows := f.rows + 1, reception := if f.rows + 1 = Config.frameRows then .full else f.reception }

/-- A blanking line ends a RECEIVING frame SHORT (R7). -/
def FrameRec.endRows (f : FrameRec) : FrameRec := if f.reception = .receiving then { f with reception := .short } else f

/-- The record of a frame whose first active line is written into a place at a line time (R4). -/
def FrameRec.fresh (place lineTime : Nat) : FrameRec :=
  { base := place, rows := 1, reception := .receiving, output := .waiting, start := lineTime, nextLine := 0 }

/-- A record is in output state WAITING. -/
def FrameRec.isWaiting (f : FrameRec) : Bool := decide (f.output = .waiting)

/-- A record is in output state OUTPUT. -/
def FrameRec.isOutput (f : FrameRec) : Bool := decide (f.output = .output)

/-- A WAITING record's output frame start falls in a line time: 160 line times after its input frame start
(R11). -/
def FrameRec.dueAt (f : FrameRec) (lineTime : Nat) : Bool := f.isWaiting && decide (lineTime = f.start + Config.latency)

/-! ### Output frames (R10 to R12, R18) -/

/-- The record whose output is in progress. -/
def Warp.inOutput (w : Warp) : Option FrameRec := w.frames.find? FrameRec.isOutput

/-- The output frame in progress, if there is one, ends (R12, R49). -/
def State.endOutput (s : State) (complete : Bool) : State :=
  match s.warp.inOutput with
  | none => s
  | some f =>
    let t := s.setStats (s.stats.endFrame complete (decide (f.reception = .full)))
    t.setWarp { t.warp with frames := t.warp.frames.filter FrameRec.isWaiting }

/-- The WAITING record whose output frame start falls in the line time goes to OUTPUT (R11). -/
def beginOutput (lineTime : Nat) : List FrameRec → List FrameRec
  | [] => []
  | f :: fs => if f.dueAt lineTime then { f with output := .output, nextLine := 0 } :: fs else f :: beginOutput lineTime fs

/-- The grid latch (R18). -/
def State.latch (s : State) : State :=
  match s.warp.choice with
  | none => s
  | some c => (s.setWarp { s.warp with active := c.slot, choice := none }).raise .gridSwitched

/-- The steps of an output frame start (R11). -/
def State.startOutput (s : State) : State :=
  let s := s.endOutput false
  let s := s.setWarp { s.warp with frames := beginOutput s.warp.lineTime s.warp.frames }
  let s := s.latch
  (s.setStats s.stats.beginFrame).endSwitching

/-- An output frame start is due in this line time (R11). -/
def Warp.frameStartDue (w : Warp) : Bool := w.frames.any fun f => f.dueAt w.lineTime

/-- An output frame start (R11). -/
def State.outputFrameStart (s : State) : State := if s.warp.frameStartDue then s.startOutput else s

/-- An output line is due: the line time of the next line of the frame in output (R10), unless the output frame
start of a newer frame is due in it, which cuts this frame short without the line (R11 step 1). Lines are produced in
their order: once OUTPUT_LINE has been left out in the line time of one, no later line of that frame is due, and the
frame ends cut short (the model's choice, notes/assumptions/6.md). -/
def Warp.lineDue (w : Warp) (f : FrameRec) : Bool :=
  decide (w.lineTime = f.start + Config.latency + f.nextLine) && !w.frameStartDue

/-- One more line of a record's output frame has been produced. -/
def FrameRec.produced (f : FrameRec) : FrameRec := if f.isOutput then { f with nextLine := f.nextLine + 1 } else f

/-- Output line `f.nextLine` produced: its pixels to the output lanes and the statistics unit (R10, R47), and the
end of the frame after line 2159 (R12). -/
def State.produceLine (s : State) (f : FrameRec) : State :=
  let pixels := s.outputPixels f f.nextLine
  let t := s.setStats (s.stats.accumulate pixels)
  let t := t.setWarp { t.warp with vout := .line pixels, frames := t.warp.frames.map FrameRec.produced }
  if f.nextLine + 1 = Config.frameRows then t.endOutput true else t

/-- An output line is produced when one is due (R10). -/
def State.outputLine (s : State) : State :=
  match s.warp.inOutput with
  | none => s
  | some f => if s.warp.lineDue f then s.produceLine f else s

/-! ### Input lines (R3 to R7) -/

/-- The output frame start that falls in the line time of an input frame start comes before it, since the list of
records holds at most two, and of two the older is the one in output (R4, R11, R13; notes/assumptions/14.md). -/
def State.startDueFirst (s : State) : State :=
  ((s.setLineTime (s.warp.lineTime + 1)).outputFrameStart).setLineTime s.warp.lineTime

/-- The next line, as an input frame start, overtakes a frame that still waits (R13). -/
def Warp.overtakes (w : Warp) : Bool := w.frames.any FrameRec.isWaiting

/-- The warp engine at an input frame start: an overtaken record removed, the new record appended, row 0 stored
(R4, R13). -/
def Warp.startFrame (w : Warp) (l : Line) : Warp :=
  { w with frames := w.frames.filter FrameRec.isOutput ++ [FrameRec.fresh w.writePos (w.lineTime + 1)] }.takeLine .active l

/-- A frame starts, overtaking one that waits (R4, R13, R124, R160, R171). -/
def State.beginFrame (s : State) (l : Line) : State :=
  let t := s.setWarp (s.warp.startFrame l)
  let t := if s.warp.overtakes then t.endSwitching else t
  t.formAnswer.rearm

/-- An input frame start (R4, R11). -/
def State.inputFrameStart (s : State) (l : Line) : State := s.startDueFirst.beginFrame l

/-- The warp engine at an active line that starts no frame: the next row of a RECEIVING frame, or black (R4,
R5, R14). -/
def Warp.nextActive (w : Warp) (l : Line) : Warp :=
  if w.receiving then { w with frames := updateNewest FrameRec.addRow w.frames }.takeLine .active l
  else w.takeLine .active []

/-- An active line arrives (R4 to R6, R8). -/
def State.activeLine (s : State) (pixels : List Pixel) : State :=
  if s.warp.previous = some .blanking then s.inputFrameStart (storedLine pixels)
  else s.setWarp (s.warp.nextActive (storedLine pixels))

/-- A blanking line arrives (R3, R7, R8). -/
def State.blankingLine (s : State) : State :=
  s.setWarp ({ s.warp with frames := updateNewest FrameRec.endRows s.warp.frames }.takeLine .blanking [])

/-! ### The lock of the link (R14, R172) -/

/-- The link loses lock (R12, R14, R129, R172). -/
def State.lockLost (s : State) : State :=
  let s := (s.setLocked false).endOutput false
  let s := s.setWarp { s.warp with frames := [], previous := none, vout := .nothing }
  s.answerCut

/-- The link regains lock (R14, R172). -/
def State.lockRegained (s : State) : State :=
  let s := (s.setLocked true).setWarp { s.warp with vout := .blanking }
  s.setChan s.chan.nextAnswer

end Sys2Proof.Machine
end

