-- ==== Sys2Proof/Machine/ZoneCommands.lean ====
section
/-! DEFINITION. The zone controller's commands: WRITE_ZONE, READ_ZONE and SET_THERMAL_LIMITS (R91, R92, R101). -/

namespace Sys2Proof.Machine

/-- The thresholds of WRITE_ZONE lie within the plausible range, and setpoint, derate and trip rise (R91). -/
def zoneThresholdsOk (setpoint derate trip runOn guard : Int) : Bool :=
  plausible setpoint && plausible derate && plausible trip && plausible runOn && plausible guard
    && decide (setpoint < derate) && decide (derate < trip)

/-- The gains and the mask of WRITE_ZONE lie within their ranges; Ki is one byte and always does (R91). -/
def zoneGainsOk (kp kff mask : Nat) : Bool := decide (kp ≤ 4095) && decide (kff ≤ 4095) && decide (mask < 8)

/-- WRITE_ZONE as the zone controller takes it (R91). -/
def writeZone (zone : Byte) (setpoint derate trip runOn guard kp : BitVec 16) (ki : Byte) (kff : BitVec 16) (basis mask : Byte) :
    Owner := fun s =>
  match ZoneId.ofCode zone, LoadBasis.ofCode basis with
  | some z, some b =>
    if zoneThresholdsOk setpoint.toInt derate.toInt trip.toInt runOn.toInt guard.toInt
        && zoneGainsOk kp.toNat kff.toNat mask.toNat then
      (s.setZone z { s.zone z with
        setpoint := setpoint.toInt, derate := derate.toInt, trip := trip.toInt, runOn := runOn.toInt, guard := guard.toInt,
        kp := kp.toNat, ki := ki.toNat, kff := kff.toNat, basis := b, mask := mask.setWidth 3 }, .ok)
    else answer .refusedRange s
  | _, _ => answer .refusedRange s

/-- A demand as it is carried; GUARD is FFFFh (R178). -/
def Demand.bytes : Demand → List Byte
  | .duty d => be16 d
  | .guard => be16 0xFFFF

/-- A page of the READ_ZONE report (R92, R183). -/
def Zone.page (x : Zone) : Fin 4 → List Byte
  | 0 => beSigned16 x.setpoint ++ beSigned16 x.derate ++ beSigned16 x.trip ++ beSigned16 x.runOn
  | 1 => beSigned16 x.guard ++ be16 x.kp ++ be16 x.kff ++ byte x.ki ++ byte x.basis.code
  | 2 => byte x.mask.toNat ++ flagByte x.blind ++ be24 x.acc ++ tempBytes x.temp
  | 3 => x.demand.bytes ++ be16 (integralTerm x.acc)

/-- READ_ZONE as the zone controller takes it (R92). -/
def readZone (zone : Byte) (page : Fin 4) : Owner := fun s =>
  match ZoneId.ofCode zone with
  | none => answer .refusedRange s
  | some z => (s, .okWith (page8 ((s.zone z).page page)))

/-- SET_THERMAL_LIMITS as the zone controller takes it (R101). -/
def setThermalLimits (blindCap lossCap : BitVec 16) : Owner := fun s =>
  if blindCap.toNat ≤ Config.fullLevel ∧ lossCap.toNat ≤ Config.fullLevel then
    ((s.setZoneCtl { s.zoneCtl with blindCap := blindCap.toNat, lossCap := lossCap.toNat }).reformThermal, .ok)
  else answer .refusedRange s

/-! ### The commands -/

/-- WRITE_ZONE. -/
def execWriteZone (tag zone : Byte) (setpoint derate trip runOn guard kp : BitVec 16) (ki : Byte) (kff : BitVec 16)
    (basis mask : Byte) (s : State) : Out :=
  .next (s.takePacket tag (writeZone zone setpoint derate trip runOn guard kp ki kff basis mask))

/-- READ_ZONE. -/
def execReadZone (tag zone : Byte) (page : Fin 4) (s : State) : Out := .next (s.takePacket tag (readZone zone page))

/-- SET_THERMAL_LIMITS. -/
def execSetThermalLimits (tag : Byte) (blindCap lossCap : BitVec 16) (s : State) : Out :=
  .next (s.takePacket tag (setThermalLimits blindCap lossCap))

end Sys2Proof.Machine
end

