-- ==== Sys2Proof/Machine/VideoEvents.lean ====
section
/-! DEFINITION. The events of the video link and the return lane (R3 to R18, R167 to R172). A control line
carries its packet to the same owners as the packet commands' own rows. -/

namespace Sys2Proof.Machine

/-- The owner of a packet command, with the command's fields (R170, R182). No packet carries one of the events,
which have no command code. -/
def ownerOf : Instr → Owner
  | .writeGrid _ slot first count points => writeGrid slot first count points
  | .commitGrid _ slot => commitGrid slot
  | .eraseGrid _ slot => eraseGrid slot
  | .selectGrid _ slot => selectGrid slot
  | .readGrid _ slot idx => readGrid slot idx
  | .gridInfo _ slot => gridInfo slot
  | .setLight _ level => setLight level
  | .setLightRamp _ rampStep blankLevel => setLightRamp rampStep blankLevel
  | .readLight _ page => readLight page
  | .writePoll _ entry enable address register fraction pec => writePoll entry enable address register fraction pec
  | .readPoll _ entry => readPoll entry
  | .assignSource _ source zone => assignSource source zone
  | .readSource _ source => readSource source
  | .writeChannel _ channel table => writeChannel channel table
  | .writeThermistorTableFirst _ table values => writeTableFirst table values
  | .writeThermistorTableSecond _ table values => writeTableSecond table values
  | .readThermistorTable _ table entry => readTable table entry
  | .setTripComparator _ channel threshold => setTripComparator channel threshold
  | .readTripComparator _ => readTripComparator
  | .writeZone _ zone setpoint derate trip runOn guard kp ki kff basis mask =>
    writeZone zone setpoint derate trip runOn guard kp ki kff basis mask
  | .readZone _ zone page => readZone zone page
  | .setThermalLimits _ blindCap lossCap => setThermalLimits blindCap lossCap
  | .writeFan _ fan minDuty mayStop quiet standard high current edges edgeSel =>
    writeFan fan minDuty mayStop quiet standard high current edges edgeSel
  | .clearFan _ fan => clearFan fan
  | .readFan _ fan page => readFan fan page
  | .lightOn _ => lightOn
  | .lightOff _ => lightOff
  | .clearTrip _ => clearTrip
  | .setInstall _ orientation acoustic budget => setInstall orientation acoustic budget
  | .readState _ => readState
  | .engineReset _ => engineReset
  | .writeAxis _ axis limit vmax vstart accel homeVel backlash current approach endstops =>
    writeAxis axis limit vmax vstart accel homeVel backlash current approach endstops
  | .readAxis _ axis page => readAxis axis page
  | .moveAxis tag axis target => moveAxis tag axis target
  | .stepAxis tag axis delta => stepAxis tag axis delta
  | .home tag selection => home tag selection
  | .recallPreset tag preset => recallPreset tag preset
  | .stopMotion _ => stopMotion
  | .storePreset _ preset mode hTarget vTarget slot blank => storePreset preset mode hTarget vTarget slot blank
  | .erasePreset _ preset => erasePreset preset
  | .readPreset _ preset => readPreset preset
  | .readMotion _ idx page => readMotion idx page
  | .ackEvents _ events => ackEvents events
  | .setEventEnable _ events => setEventEnable events
  | .readStatus _ page => readStatus page
  | .inputActiveLine _ | .controlLine _ | .plainBlankingLine | .outputLine | .outputFrameStart | .linkLockLost
  | .linkLockRegained | .answerSent | .resetNAsserted | .resetNReleased | .controlTick | .runOnElapsedLimit
  | .thermistorConversionDone _ _ | .sbTransactionEnd _ | .sbStretchLimit _ | .sbClockTimeout | .sbBusError | .sbRecoveryDone
  | .sbRecoveryAbandoned | .comparatorTrip _ | .comparatorRelease _ | .rampTick | .lightPwmPeriodBoundary
  | .fanPwmPeriodBoundary _ | .kickTimerExpiry _ | .stallTimerExpiry _ | .pauseTimerExpiry _ | .retryClearTimerExpiry _
  | .tachEdge _ _ | .tachTimeout _ | .profileTick | .endstopEdge _ | .endstopInactive _ | .railWaitTimeout | .silenceTick
  | .silenceExpiry => answer .unknownCommand

/-- A packet on a control line reaches the control channel: the answer of a failed check, or the command's owner
(R168 to R170). -/
def State.receive (s : State) : PacketRead → State
  | .badCheck tag => s.takePacket tag (answer .badCheck)
  | .unknownCommand tag => s.takePacket tag (answer .unknownCommand)
  | .badLength tag => s.takePacket tag (answer .badLength)
  | .command tag i => s.takePacket tag (ownerOf i)

/-- A blanking line with its pixels: the line itself, then its packet where its words begin with the control
preamble (R3, R167, R179). -/
def State.controlLine (s : State) (pixels : List Pixel) : State :=
  if isControlLine (lineWords pixels) then s.blankingLine.receive (readPacket (lineBytes (lineWords pixels)))
  else s.blankingLine

/-! ### The commands -/

/-- INPUT_ACTIVE_LINE. -/
def execInputActiveLine (pixels : List Pixel) (s : State) : Out := .next (s.whenLinked fun s => s.activeLine pixels)

/-- CONTROL_LINE. -/
def execControlLine (pixels : List Pixel) (s : State) : Out := .next (s.whenLinked fun s => s.controlLine pixels)

/-- PLAIN_BLANKING_LINE. -/
def execPlainBlankingLine (s : State) : Out := .next (s.whenLinked State.blankingLine)

/-- OUTPUT_LINE. -/
def execOutputLine (s : State) : Out := .next (s.whenLinked State.outputLine)

/-- OUTPUT_FRAME_START. -/
def execOutputFrameStart (s : State) : Out := .next (s.whenLinked State.outputFrameStart)

/-- LINK_LOCK_LOST. While RESET_N is asserted only the lock itself changes. -/
def execLinkLockLost (s : State) : Out := .next (if s.linked then s.lockLost else s.setLocked false)

/-- LINK_LOCK_REGAINED. While RESET_N is asserted only the lock itself changes. -/
def execLinkLockRegained (s : State) : Out :=
  .next (if s.live && !s.locked then s.lockRegained else s.setLocked true)

/-- ANSWER_SENT. -/
def execAnswerSent (s : State) : Out := .next (s.whenLinked State.answerSent)

end Sys2Proof.Machine
end

