-- ==== Sys2Proof/Machine/Dispatch.lean ====
section
/-! DEFINITION. One arm per command: the call of its meaning. -/

namespace Sys2Proof.Machine

def exec (i : Instr) (s : State) : Host.Outcome State Fault Refusal :=
  match i with
  | .inputActiveLine pixels => Sys2Proof.Machine.execInputActiveLine pixels s
  | .controlLine pixels => Sys2Proof.Machine.execControlLine pixels s
  | .plainBlankingLine => Sys2Proof.Machine.execPlainBlankingLine s
  | .outputLine => Sys2Proof.Machine.execOutputLine s
  | .outputFrameStart => Sys2Proof.Machine.execOutputFrameStart s
  | .linkLockLost => Sys2Proof.Machine.execLinkLockLost s
  | .linkLockRegained => Sys2Proof.Machine.execLinkLockRegained s
  | .answerSent => Sys2Proof.Machine.execAnswerSent s
  | .resetNAsserted => Sys2Proof.Machine.execResetNAsserted s
  | .resetNReleased => Sys2Proof.Machine.execResetNReleased s
  | .controlTick => Sys2Proof.Machine.execControlTick s
  | .runOnElapsedLimit => Sys2Proof.Machine.execRunOnElapsedLimit s
  | .thermistorConversionDone ch code => Sys2Proof.Machine.execThermistorConversionDone ch code s
  | .sbTransactionEnd e => Sys2Proof.Machine.execSbTransactionEnd e s
  | .sbStretchLimit micros => Sys2Proof.Machine.execSbStretchLimit micros s
  | .sbClockTimeout => Sys2Proof.Machine.execSbClockTimeout s
  | .sbBusError => Sys2Proof.Machine.execSbBusError s
  | .sbRecoveryDone => Sys2Proof.Machine.execSbRecoveryDone s
  | .sbRecoveryAbandoned => Sys2Proof.Machine.execSbRecoveryAbandoned s
  | .comparatorTrip level => Sys2Proof.Machine.execComparatorTrip level s
  | .comparatorRelease level => Sys2Proof.Machine.execComparatorRelease level s
  | .rampTick => Sys2Proof.Machine.execRampTick s
  | .lightPwmPeriodBoundary => Sys2Proof.Machine.execLightPwmPeriodBoundary s
  | .fanPwmPeriodBoundary fan => Sys2Proof.Machine.execFanPwmPeriodBoundary fan s
  | .kickTimerExpiry fan => Sys2Proof.Machine.execKickTimerExpiry fan s
  | .stallTimerExpiry fan => Sys2Proof.Machine.execStallTimerExpiry fan s
  | .pauseTimerExpiry fan => Sys2Proof.Machine.execPauseTimerExpiry fan s
  | .retryClearTimerExpiry fan => Sys2Proof.Machine.execRetryClearTimerExpiry fan s
  | .tachEdge fan edge => Sys2Proof.Machine.execTachEdge fan edge s
  | .tachTimeout fan => Sys2Proof.Machine.execTachTimeout fan s
  | .profileTick => Sys2Proof.Machine.execProfileTick s
  | .endstopEdge e => Sys2Proof.Machine.execEndstopEdge e s
  | .endstopInactive e => Sys2Proof.Machine.execEndstopInactive e s
  | .railWaitTimeout => Sys2Proof.Machine.execRailWaitTimeout s
  | .silenceTick => Sys2Proof.Machine.execSilenceTick s
  | .silenceExpiry => Sys2Proof.Machine.execSilenceExpiry s
  | .writeGrid tag slot first count points => Sys2Proof.Machine.execWriteGrid tag slot first count points s
  | .commitGrid tag slot => Sys2Proof.Machine.execCommitGrid tag slot s
  | .eraseGrid tag slot => Sys2Proof.Machine.execEraseGrid tag slot s
  | .selectGrid tag slot => Sys2Proof.Machine.execSelectGrid tag slot s
  | .readGrid tag slot index => Sys2Proof.Machine.execReadGrid tag slot index s
  | .gridInfo tag slot => Sys2Proof.Machine.execGridInfo tag slot s
  | .setLight tag level => Sys2Proof.Machine.execSetLight tag level s
  | .setLightRamp tag rampStep blankLevel => Sys2Proof.Machine.execSetLightRamp tag rampStep blankLevel s
  | .readLight tag page => Sys2Proof.Machine.execReadLight tag page s
  | .writePoll tag entry enable address register fraction pec => Sys2Proof.Machine.execWritePoll tag entry enable address register fraction pec s
  | .readPoll tag entry => Sys2Proof.Machine.execReadPoll tag entry s
  | .assignSource tag source zone => Sys2Proof.Machine.execAssignSource tag source zone s
  | .readSource tag source => Sys2Proof.Machine.execReadSource tag source s
  | .writeChannel tag channel table => Sys2Proof.Machine.execWriteChannel tag channel table s
  | .writeThermistorTableFirst tag table values => Sys2Proof.Machine.execWriteThermistorTableFirst tag table values s
  | .writeThermistorTableSecond tag table values => Sys2Proof.Machine.execWriteThermistorTableSecond tag table values s
  | .readThermistorTable tag table entry => Sys2Proof.Machine.execReadThermistorTable tag table entry s
  | .setTripComparator tag channel threshold => Sys2Proof.Machine.execSetTripComparator tag channel threshold s
  | .readTripComparator tag => Sys2Proof.Machine.execReadTripComparator tag s
  | .writeZone tag zone setpoint derate trip runOn guard kp ki kff basis mask => Sys2Proof.Machine.execWriteZone tag zone setpoint derate trip runOn guard kp ki kff basis mask s
  | .readZone tag zone page => Sys2Proof.Machine.execReadZone tag zone page s
  | .setThermalLimits tag blindCap lossCap => Sys2Proof.Machine.execSetThermalLimits tag blindCap lossCap s
  | .writeFan tag fan minDuty mayStop quiet standard high current edges edgeSel => Sys2Proof.Machine.execWriteFan tag fan minDuty mayStop quiet standard high current edges edgeSel s
  | .clearFan tag fan => Sys2Proof.Machine.execClearFan tag fan s
  | .readFan tag fan page => Sys2Proof.Machine.execReadFan tag fan page s
  | .lightOn tag => Sys2Proof.Machine.execLightOn tag s
  | .lightOff tag => Sys2Proof.Machine.execLightOff tag s
  | .clearTrip tag => Sys2Proof.Machine.execClearTrip tag s
  | .setInstall tag orientation acoustic budget => Sys2Proof.Machine.execSetInstall tag orientation acoustic budget s
  | .readState tag => Sys2Proof.Machine.execReadState tag s
  | .engineReset tag => Sys2Proof.Machine.execEngineReset tag s
  | .writeAxis tag axis limit vmax vstart accel homeVel backlash current approach endstops => Sys2Proof.Machine.execWriteAxis tag axis limit vmax vstart accel homeVel backlash current approach endstops s
  | .readAxis tag axis page => Sys2Proof.Machine.execReadAxis tag axis page s
  | .moveAxis tag axis target => Sys2Proof.Machine.execMoveAxis tag axis target s
  | .stepAxis tag axis delta => Sys2Proof.Machine.execStepAxis tag axis delta s
  | .home tag selection => Sys2Proof.Machine.execHome tag selection s
  | .recallPreset tag preset => Sys2Proof.Machine.execRecallPreset tag preset s
  | .stopMotion tag => Sys2Proof.Machine.execStopMotion tag s
  | .storePreset tag preset mode hTarget vTarget slot blank => Sys2Proof.Machine.execStorePreset tag preset mode hTarget vTarget slot blank s
  | .erasePreset tag preset => Sys2Proof.Machine.execErasePreset tag preset s
  | .readPreset tag preset => Sys2Proof.Machine.execReadPreset tag preset s
  | .readMotion tag index page => Sys2Proof.Machine.execReadMotion tag index page s
  | .ackEvents tag events => Sys2Proof.Machine.execAckEvents tag events s
  | .setEventEnable tag events => Sys2Proof.Machine.execSetEventEnable tag events s
  | .readStatus tag page => Sys2Proof.Machine.execReadStatus tag page s

end Sys2Proof.Machine
end

