-- ==== Sys2Proof/Machine/Step.lean ====
section
/-! DEFINITION. One step of the part: the command at the front of the queue, or one millisecond in which none
comes. -/

namespace Sys2Proof.Machine

/-- The queue of commands that wait. -/
def State.setPending (s : State) (q : List Instr) : State := { s with pending := q }

/-- A step: the command at the front of the queue is carried out with the queue's rest; on an empty queue one
millisecond of REFCLK passes (DESIGN CHOICE, notes/assumptions/1.md). -/
def step (s : State) : Host.Outcome State Fault Refusal :=
  match s.pending with
  | [] => .next s.millisecond
  | c :: rest => exec c (s.setPending rest)

/-- The command that a word spells, put at the front of the queue. No row of the table gives bits, so no word
spells one (notes/assumptions/3.md). -/
def State.withFetchWord (s : State) (nbits w : Nat) : State :=
  match decodeTableWord nbits w with
  | none => s
  | some i => s.setPending (i :: s.pending)

end Sys2Proof.Machine
end

