-- ==== Sys2Proof/Safety.lean ====
section
/-! DEFINITION. What every state of a run satisfies, block by block, and what it is for the control channel to
take a packet: the terms in which the claims are stated. -/

namespace Sys2Proof.Machine

/-! ### Packets -/

/-- The control channel takes the packet that comes next (R14, R128, R130, R167). -/
def State.takes (s : State) : Prop :=
  s.resetAsserted = false ∧ s.locked = true ∧ s.ctl.resetPending = false ∧ s.chan.taken < 16

/-- The control channel after a packet is taken and answered, with no flag set or cleared (R167, R170). -/
def State.answered (s : State) (tag : Byte) (result : Result) (data : List Byte) : ChanState :=
  { s.chan with taken := s.chan.taken + 1, entries := s.chan.entries ++ [{ tag := tag, reply := { result := result, data := data } }] }

/-- The part after a packet that changed nothing but its own answer. -/
def State.onlyAnswered (s : State) (tag : Byte) (result : Result) (data : List Byte) : State :=
  { s with chan := s.answered tag result data }

/-- A command that a control packet carries (R182). -/
def isPacket (i : Instr) : Prop := (packetOf i).isSome = true

/-- The data that reports a slot's written count and its first unwritten index, FFh when every flag is set (R27,
R178). -/
def Slot.reports (x : Slot) (data : List Byte) : Prop :=
  ∃ u : Byte, data = [BitVec.ofNat 8 (x.written.toList.count true), u] ∧
    (((∀ k : Fin 170, x.written.get k = true) ∧ u = 0xFF) ∨
      ∃ k : Fin 170, u.toNat = k.val ∧ x.written.get k = false ∧ ∀ j : Fin 170, j < k → x.written.get j = true)

/-! ### The light drive (R54 to R58, R61, R161) -/

/-- The four limiters and the blank level lie within 0..4095, the derate ceiling and the ramp step within their
ranges; the target and the governing limiter are formed from the limiters; THERMAL is the lowest ceiling in force; the
applied level exceeds neither SAFETY nor MOTION and stands in the PWM buffer; SAFETY and LIGHT_EN belong to LIT; and a
hold of MOTION is a blank hold of the motion queue in LIT. -/
abbrev State.LightOk (s : State) : Prop :=
  s.light.target = min (min s.light.safety s.light.motion) (min s.light.thermal s.light.user) ∧
  s.light.governing = s.light.governor ∧
  s.light.applied ≤ s.light.safety ∧ s.light.applied ≤ s.light.motion ∧ s.light.pwmBuffer = s.light.applied ∧
  s.light.safety = (if s.ctl.op = .lit then 4095 else 0) ∧
  (s.light.lightEn = true → s.ctl.op = .lit) ∧ (s.resetAsserted = false → s.ctl.op = .lit → s.light.lightEn = true) ∧
  s.light.thermal = s.thermalCeiling ∧
  s.light.motionHeld = s.motion.blankHold ∧ (s.light.motionHeld = false → s.light.motion = 4095) ∧
  (s.motion.blankHold = true → s.ctl.op = .lit) ∧
  (s.light.user ≤ 4095 ∧ s.light.thermal ≤ 4095 ∧ s.light.motion ≤ 4095 ∧ s.light.safety ≤ 4095) ∧
  s.light.blankLevel ≤ 4095 ∧ 1 ≤ s.light.rampStep ∧ s.light.rampStep ≤ 4095 ∧ s.zoneCtl.ceiling ≤ 4095

/-! ### Zones and fans (R90, R91, R96, R98, R99, R103, R106 to R111) -/

/-- A zone's accumulator lies within 0..261,888 and is 0 in STANDBY; its temperature is absent exactly while it is
blind; its thresholds rise. -/
abbrev Zone.Ok (x : Zone) (op : OpState) : Prop :=
  x.acc ≤ 261888 ∧ (op = .standby → x.acc = 0) ∧ x.blind = x.temp.isNone ∧ x.setpoint < x.derate ∧ x.derate < x.trip

/-- Every zone is as `Zone.Ok` says, the derate ceiling lies within 1024..4095, and no cap exceeds 4095. -/
abbrev State.ZonesOk (s : State) : Prop :=
  (∀ z ∈ ZoneId.all, (s.zone z).Ok s.ctl.op) ∧ 1024 ≤ s.zoneCtl.ceiling ∧ s.zoneCtl.ceiling ≤ 4095 ∧
  s.zoneCtl.blindCap ≤ 4095 ∧ s.zoneCtl.lossCap ≤ 4095

/-- The applied duty that a fan's state gives (chapter 5.6): 1023 in KICK, the requested duty in RUNNING, 0 in OFF,
PAUSE and FAILED. -/
def Fan.dutyOfState (x : Fan) : Nat :=
  match x.state with
  | .kick => 1023
  | .running => x.requested
  | .off => 0
  | .pause => 0
  | .failed => 0

/-- A fan's parameters lie within their ranges; its applied duty is the one of its state and stands in the PWM
buffer; a running fan has a request; a FAILED fan has its flag set; each timer runs exactly where its rule runs
it; and while the part is TRIPPED the request is 1023 and the fan kicks, runs or is FAILED. -/
abbrev Fan.Ok (x : Fan) (op : OpState) : Prop :=
  (1 ≤ x.minDuty ∧ x.minDuty ≤ x.quiet ∧ x.minDuty ≤ x.standard ∧ x.minDuty ≤ x.high ∧
    x.quiet ≤ 1023 ∧ x.standard ≤ 1023 ∧ x.high ≤ 1023) ∧
  x.applied = x.dutyOfState ∧ x.pwmBuffer = x.applied ∧ x.requested ≤ 1023 ∧ x.retry ≤ 3 ∧
  (x.state = .running → 0 < x.requested) ∧ (x.state = .failed → x.atCeiling = true) ∧
  x.kickTimer.isSome = decide (x.state = .kick) ∧ x.pauseTimer.isSome = decide (x.state = .pause) ∧
  x.stallTimer.isSome = decide (0 < x.applied) ∧ (x.clearTimer.isSome = true → x.state = .running) ∧
  (op = .tripped → x.requested = 1023 ∧ x.state ≠ .off ∧ x.state ≠ .pause)

/-- Fan record `y` is what fan record `x` becomes when a requested duty is formed for it from a largest demand and a
ceiling in force, with whatever else the duty does to the fan (R105, R107, R108). -/
def Fan.FormedFrom (x y : Fan) (largest ceiling : Nat) : Prop :=
  ∀ want, want = (if largest = 0 then (if x.mayStop then 0 else x.minDuty) else max largest x.minDuty) →
    y.requested = min want ceiling ∧ y.ceiling = ceiling ∧ (y.atCeiling = true ↔ x.state = .failed ∨ ceiling ≤ want) ∧
    (x.state = .off → min want ceiling = 0 → y.state = .off) ∧
    (x.state = .off → 0 < min want ceiling → y.state = .kick ∧ y.applied = 1023 ∧ y.kickTimer = some 400 ∧
      y.stallTimer = some 1000) ∧
    (x.state = .running → min want ceiling = 0 → y.state = .off ∧ y.applied = 0 ∧ y.stallTimer = none ∧ y.clearTimer = none) ∧
    (x.state = .running → 0 < min want ceiling → y.state = .running ∧ y.applied = min want ceiling ∧
      y.pwmBuffer = min want ceiling ∧ y.clearTimer = x.clearTimer) ∧
    (x.state = .kick ∨ x.state = .pause ∨ x.state = .failed → y.state = x.state ∧ y.applied = x.applied) ∧
    y.retry = x.retry ∧ y.speed = x.speed ∧ y.minDuty = x.minDuty ∧ y.current = x.current

/-- Fan record `y` is what fan record `x` becomes when the part drives every fan at full in TRIPPED (R106): OFF and PAUSE
enter KICK, KICK goes on, RUNNING takes 1023, FAILED stays. -/
def Fan.DrivenFullTo (x y : Fan) : Prop :=
  y.requested = 1023 ∧ y.atCeiling = true ∧ y.ceiling = 1023 ∧ y.retry = x.retry ∧ y.speed = x.speed ∧ y.edgeHeld = x.edgeHeld ∧
  y.pwmLevel = x.pwmLevel ∧
  ((x.state = .off ∨ x.state = .pause) ∧ y.state = .kick ∧ y.applied = 1023 ∧ y.pwmBuffer = 1023 ∧ y.kickTimer = some 400 ∧
      y.stallTimer = some 1000 ∧ y.pauseTimer = none ∨
    x.state = .kick ∧ y.state = .kick ∧ y.applied = x.applied ∧ y.kickTimer = x.kickTimer ∧ y.stallTimer = x.stallTimer ∨
    x.state = .running ∧ y.state = .running ∧ y.applied = 1023 ∧ y.pwmBuffer = 1023 ∧ y.stallTimer = x.stallTimer ∧
      y.clearTimer = x.clearTimer ∨
    x.state = .failed ∧ y.state = .failed ∧ y.applied = x.applied)

/-- Every fan is as `Fan.Ok` says. -/
abbrev State.FansOk (s : State) : Prop := ∀ f ∈ FanId.all, (s.fan f).Ok s.ctl.op

/-! ### Temperature sources (R64, R69, R82 to R84, R93) -/

/-- A source record's last good value is plausible; the failure count is 3 exactly in FAILED, where alone reads are
counted good; an UNREAD record has no value and an OK record has one. -/
abbrev Source.Ok (x : Source) : Prop :=
  (x.lastGood.all plausible = true) ∧ x.failures ≤ 3 ∧ (x.failures = 3 ↔ x.state = .failed) ∧
  (x.state ≠ .failed → x.goods = 0) ∧ x.goods < 5 ∧ (x.state = .unread → x.lastGood = none) ∧
  (x.state = .ok → x.lastGood.isSome = true)

/-- A thermistor table's values are plausible and do not rise (R84). -/
abbrev tableOk (tab : List Int) : Prop := tab.Pairwise (fun a b => b ≤ a) ∧ ∀ t ∈ tab, plausible t = true

/-- Every source record is as `Source.Ok` says, both tables and the staged values are good tables, and every
zone's temperature is plausible. -/
abbrev State.SourcesOk (s : State) : Prop :=
  (∀ x ∈ s.temps.sources.toList, x.Ok) ∧ tableOk s.temps.tableA.toList ∧ tableOk s.temps.tableB.toList ∧
  (∀ st ∈ s.temps.staging, st.values.length = 9 ∧ tableOk st.values) ∧
  ∀ z ∈ ZoneId.all, (s.zone z).temp.all plausible = true

/-! ### Grid slots and pointers (R15, R27, R30, R34) -/

/-- A point lies within the source coordinate range (R27). -/
abbrev Point.Ok (p : Point) : Prop := -65536 ≤ p.x ∧ p.x ≤ 65535 ∧ -65536 ≤ p.y ∧ p.y ≤ 65535

/-- The displacement of point `n` lies within the window (R34). -/
def inWindow (n : Nat) (p : Point) : Prop := -2544 ≤ p.y - 3840 * ((n / 17 : Nat) : Int) ∧ p.y - 3840 * ((n / 17 : Nat) : Int) ≤ 2559

/-- A slot's points lie within the source coordinate range; a VALID slot is written whole and holds no point outside
the displacement window; a slot that is not VALID has clamp count 0, and an EMPTY one has no flag set. -/
def Slot.Ok (x : Slot) : Prop :=
  (∀ k : Fin 170, (x.points.get k).Ok) ∧
  (x.state = .valid → ∀ k : Fin 170, x.written.get k = true ∧ inWindow k.val (x.points.get k)) ∧
  (x.state ≠ .valid → x.clampCount = 0) ∧ (x.state = .empty → ∀ k : Fin 170, x.written.get k = false)

/-- Every slot is as `Slot.Ok` says, and the slots that the two pointers name are VALID. -/
def State.GridsOk (s : State) : Prop :=
  (∀ n : Fin 4, (s.slot n).Ok) ∧ (∀ n : Fin 4, s.isProtected n = true → (s.slot n).state = .valid)

/-! ### Frame records and the line store (R4, R5, R7, R8, R10) -/

/-- A frame record's fields lie within their ranges, and it is FULL exactly when 2160 rows have come. -/
abbrev FrameRec.Ok (f : FrameRec) (now : Nat) : Prop :=
  f.base < 320 ∧ 1 ≤ f.rows ∧ f.rows ≤ 2160 ∧ (f.reception = .full ↔ f.rows = 2160) ∧ f.nextLine < 2160 ∧ f.start ≤ now

/-- The line store has its one form and its write position is a place; at most two records stand in the order of
their input frame starts, the older of two in output, and never two of them; every record is as `FrameRec.Ok` says; and
only the newest record can be RECEIVING, none after a blanking line. -/
def State.FramesOk (s : State) : Prop :=
  storeWf s.warp.store = true ∧ s.warp.writePos < 320 ∧
  s.warp.frames.length ≤ 2 ∧ (∀ f ∈ s.warp.frames.dropLast, f.output = .output) ∧
  (s.warp.frames.filter FrameRec.isOutput).length ≤ 1 ∧
  s.warp.frames.Pairwise (fun f g => f.start < g.start) ∧
  (∀ f ∈ s.warp.frames, f.Ok s.warp.lineTime) ∧
  (∀ f ∈ s.warp.frames.dropLast, f.reception ≠ .receiving) ∧
  (s.warp.previous = some .blanking → ∀ f ∈ s.warp.frames, f.reception ≠ .receiving)

/-! ### Lens axes (R132, R134, R142) -/

/-- The end of a leg, when its position counts. -/
def Axis.legEndsWithin (x : Axis) (limit : Nat) : Prop :=
  match x.leg with
  | none => True
  | some l => match l.dir with
    | .positive => x.position + l.left ≤ limit
    | .negative => l.left ≤ x.position

/-- An axis's parameters and counts lie within their ranges. A homed axis stands within its travel, and so does the
end of its leg and of its plan; an axis that homes is unhomed. A leg runs exactly in MOVING and STOPPING and, where
it has been granted, in APPROACH; an axis in OFF or IDLE has no plan. -/
def Axis.Ok (x : Axis) : Prop :=
  (x.limit ≤ 65535 ∧ x.vmax ≤ 8000 ∧ x.vstart ≤ 1000 ∧ x.homeVel ≤ 8000) ∧
  x.position ≤ 65535 ∧ x.vel ≤ 8000 ∧ x.acc < 1000 ∧ x.pulses ≤ 8 ∧ x.allowance ≤ 73726 ∧
  (x.homed = true → x.position ≤ x.limit) ∧
  (¬(x.state = .stopping ∧ x.stopHoming = true) → x.legEndsWithin (if x.homed then x.limit else 65535)) ∧
  (∀ p ∈ x.plan, p.target ≤ x.limit) ∧
  (x.state = .seek ∨ x.state = .release → x.homed = false) ∧ (x.stopHoming = true → x.homed = false) ∧
  (x.state = .moving ∨ x.state = .stopping → x.leg.isSome = true) ∧
  (x.state = .off ∨ x.state = .idle ∨ x.state = .seek ∨ x.state = .release → x.leg = none) ∧
  (x.state = .off ∨ x.state = .idle → x.plan = none)

/-- Both axes are as `Axis.Ok` says. -/
def State.AxesOk (s : State) : Prop := s.axisH.Ok ∧ s.axisV.Ok

/-! ### The motion queue (R151, R152, R153, R161, R163, R164) -/

/-- At most eight records are queued and at most eight entries stand in the history; a queued record is as it was
taken; an executing request is not in phase QUEUED; nothing is queued or executing outside LIT and COOLDOWN; and
the blank hold belongs to an executing request. -/
abbrev State.MotionOk (s : State) : Prop :=
  s.motion.queue.length ≤ 8 ∧ s.motion.history.length ≤ 8 ∧
  (∀ r ∈ s.motion.queue, r.phase = .queued ∧ r.clamped = false ∧ r.stopReq = false) ∧
  (∀ x ∈ s.motion.executing, x.req.phase ≠ .queued) ∧
  (s.ctl.op.moves = false → s.motion.executing = none ∧ s.motion.queue = []) ∧
  (s.motion.blankHold = true → s.motion.executing.isSome = true)

/-- A command is a motion request within its ranges, and this is the request it queues (R152). -/
def State.Requests (s : State) (c : Instr) (tag : Byte) (job : Job) : Prop :=
  (∃ (a : AxisId) (b : Byte) (target : BitVec 16), b.toNat = (if a = .h then 0 else 1) ∧ c = .moveAxis tag b target ∧
    job = .moveAxis a target.toNat) ∨
  (∃ (a : AxisId) (b : Byte) (delta : BitVec 24), b.toNat = (if a = .h then 0 else 1) ∧ -65535 ≤ delta.toInt ∧
    delta.toInt ≤ 65535 ∧ c = .stepAxis tag b delta ∧ job = .stepAxis a delta.toInt) ∨
  c = .home tag 0 ∧ job = .home .h ∨ c = .home tag 1 ∧ job = .home .v ∨ c = .home tag 2 ∧ job = .home .both ∨
  ∃ (b : Byte) (n : Fin 12), b.toNat = n.val ∧ (s.motion.presets[n]).valid = true ∧ c = .recallPreset tag b ∧
    job = .recall n.val s.motion.presets[n]

/-- Axis `y` is what a stop request makes of axis `x` (R145, R146): a moving one decelerates, a homing one within its
allowance, one that waits in APPROACH rests where it stands. -/
def Axis.StopRequestedTo (x y : Axis) : Prop :=
  (x.state = .off ∨ x.state = .idle ∨ x.state = .stopping → y = x) ∧
  (x.state = .moving ∨ x.state = .approach ∧ x.leg ≠ none → y = { x with state := .stopping, stopHoming := false }) ∧
  (∀ d : Dir, x.state = .seek ∧ d = .negative ∨ x.state = .release ∧ d = .positive →
    y = { x with state := .stopping, leg := some { dir := d, left := x.allowance }, allowance := 0, stopHoming := true }) ∧
  (x.state = .approach → x.leg = none →
    y = { x with state := .idle, vel := 0, acc := 0, allowance := 0, leg := none, plan := none, stopHoming := false })

/-- The executing request `x` has a leg of a move to start on an idle or waiting axis, and `y` is the axis as the leg is
granted: a move whose limited target is another position starts its first leg (R136, R139), or an axis that waits in APPROACH
starts its approach leg to another position (R136, R140). The second half of a recall in sequence is to be judged only once
V's work has ended (R158). -/
def State.GrantsLeg (s : State) (x : Executing) (a : AxisId) (y : Axis) : Prop :=
  (x.work a = .owed ∧ (s.axis a).state = .idle ∧ (∀ sel, x.req.job ≠ .home sel) ∧
    (a = .h → x.inSequence = true → x.vWork = .unused ∨ x.vWork = .finished) ∧
    ∃ (approach : Dir) (target goal firstEnd : Nat) (owed : Bool),
      approach = (if a = .h then s.axisH.approach else if s.ctl.orientation = .desk then .positive else .negative) ∧
      target = (if a = .h then x.hTarget else x.vTarget) ∧ goal = min target (s.axis a).limit ∧ goal ≠ (s.axis a).position ∧
      owed = !decide (if approach = .positive then (s.axis a).position < goal else goal < (s.axis a).position) ∧
      firstEnd = (if owed = false then goal else if approach = .positive then goal - (s.axis a).backlash
        else min (goal + (s.axis a).backlash) (s.axis a).limit) ∧
      y = { s.axis a with
        state := .moving, vel := (s.axis a).vstart, acc := 0
        plan := some { target := goal, clamped := decide ((s.axis a).limit < target), owed := owed }
        dirPin := decide ((s.axis a).position < firstEnd)
        leg := some { dir := if (s.axis a).position < firstEnd then .positive else .negative
                      left := if (s.axis a).position < firstEnd then firstEnd - (s.axis a).position
                        else (s.axis a).position - firstEnd } }) ∨
  (x.work a = .active ∧ (s.axis a).state = .approach ∧ (s.axis a).leg = none ∧
    ∃ p, (s.axis a).plan = some p ∧ p.target ≠ (s.axis a).position ∧
      y = { s.axis a with
        plan := some { p with owed := false }, vel := (s.axis a).vstart, acc := 0
        dirPin := decide ((s.axis a).position < p.target)
        leg := some { dir := if (s.axis a).position < p.target then .positive else .negative
                      left := if (s.axis a).position < p.target then p.target - (s.axis a).position
                        else (s.axis a).position - p.target } })

/-- The executing request `x` has a leg start of an idle or waiting axis to judge that no end-stop stops, and `y` is the
axis once the rail allows it: a homing begins in SEEK (R141), in a HOME BOTH that of H only once V's work has ended (R154);
or a move's leg is granted. -/
def State.BeginsLeg (s : State) (x : Executing) (a : AxisId) (y : Axis) : Prop :=
  (x.work a = .owed ∧ (s.axis a).state = .idle ∧ (∃ sel, x.req.job = .home sel) ∧
    (a = .h → x.vWork = .unused ∨ x.vWork = .finished) ∧
    ((s.axis a).lowEnable = false ∨ (s.axis a).lowLevel = (s.axis a).lowFalling) ∧
    y = { s.axis a with
      state := .seek, homed := false, position := 0, allowance := (s.axis a).limit + (s.axis a).limit / 8, dirPin := false
      vel := (s.axis a).vstart, acc := 0, leg := none, plan := none }) ∨
  ((s.axis a).lowEnable = false ∨ (s.axis a).lowLevel = (s.axis a).lowFalling) ∧
  ((s.axis a).highEnable = false ∨ (s.axis a).highLevel = (s.axis a).highFalling) ∧ s.GrantsLeg x a y

/-- The executing request `x` has a leg of a move to start that finds an end-stop active, and `z` is the axis stopped
abruptly before its first step, with DIR set for the leg (R135, R136, R144). -/
def State.MeetsEndstop (s : State) (x : Executing) (a : AxisId) (z : Axis) : Prop :=
  ((s.axis a).lowEnable = true ∧ (s.axis a).lowLevel ≠ (s.axis a).lowFalling ∨
    (s.axis a).highEnable = true ∧ (s.axis a).highLevel ≠ (s.axis a).highFalling) ∧
  ∃ y, s.GrantsLeg x a y ∧
    z = { y with
      state := .idle, vel := 0, acc := 0, allowance := 0, leg := none, plan := none, stopHoming := false, homed := false }

/-! ### The state controller (R86, R87, R116, R124, R126) -/

/-- The run-on elapsed runs exactly in COOLDOWN, up to 60,000 ms; the silence counter is below 4 exactly while it is
armed; the rail budget lies within 0..1000; the trip comparator is TRIPPED only while the part is; and, while RESET_N
is released, the code on its channel is above its threshold in RELEASED and below the threshold plus 64 in TRIPPED. An
ENGINE_RESET is pending in STANDBY or TRIPPED alone (R128). -/
abbrev State.CtlOk (s : State) : Prop :=
  s.ctl.runOn.isSome = decide (s.ctl.op = .cooldown) ∧ (∀ n ∈ s.ctl.runOn, n ≤ 60000) ∧
  s.ctl.silence ≤ 4 ∧ (s.ctl.armed = true ↔ s.ctl.silence < 4) ∧ s.ctl.budget ≤ 1000 ∧
  (s.temps.comparator.state = .tripped → s.ctl.op = .tripped) ∧ s.temps.comparator.threshold ≤ 4031 ∧
  (s.resetAsserted = false →
    (s.temps.comparator.state = .released → s.temps.comparator.threshold < s.temps.watchedCode) ∧
    (s.temps.comparator.state = .tripped → s.temps.watchedCode < s.temps.comparator.threshold + 64)) ∧
  (s.ctl.resetPending = true → s.ctl.op = .standby ∨ s.ctl.op = .tripped)

/-! ### The control channel (R167, R170 to R172, R180) -/

/-- The list under construction holds one entry for each packet taken, at most sixteen, each with at most eight data
bytes; the counts lie within their ranges; and no frame answer exceeds 199 bytes. -/
abbrev State.ChannelOk (s : State) : Prop :=
  s.chan.taken = s.chan.entries.length ∧ s.chan.taken ≤ 16 ∧ s.chan.ignored ≤ 255 ∧ s.chan.frameCount < 65536 ∧
  (∀ e ∈ s.chan.entries, e.reply.data.length ≤ 8) ∧
  (∀ a ∈ s.chan.lane, a.bytes.length ≤ 199) ∧ (∀ a ∈ s.chan.waiting, a.bytes.length ≤ 199) ∧
  (s.linked = true → s.chan.lane = none → s.chan.waiting = none)

end Sys2Proof.Machine
end

