-- ==== Sys2Proof/WellFormed.lean ====
section
/-! DEFINITION. Which commands can reach the part: the checks that an operand's type does not make already. -/

namespace Sys2Proof

/-- Whether a command is one that the part can meet. A WRITE_GRID carries as many points as its count says,
and its payload fits a packet (R168, R169, R182); the two parts of a thermistor table carry nine and eight
values (R182); a control line begins with the preamble (R179); a stretch that ends is shorter than 30 ms
(R77); two selected tach edges are no more than 1,000,000 µs apart while the first is held (R114). -/
def Instr.wf : Instr → Bool
  | .controlLine pixels => isControlLine (lineWords pixels)
  | .sbStretchLimit micros => decide (micros < 30000)
  | .tachEdge _ edge => decide (edge.micros ≤ Config.tachWindow)
  | .writeGrid _ _ _ count points => decide (points.length = count.toNat) && decide (count.toNat ≤ 9)
  | .writeThermistorTableFirst _ _ values => decide (values.length = 9)
  | .writeThermistorTableSecond _ _ values => decide (values.length = 8)
  | _ => true

end Sys2Proof
end

