-- ==== Sys2Proof/Certificates/Slice0/Obligations.lean ====
section
/-! DEFINITION. The statements about the model, from the numbered rules of the spec. Each is a proposition for the
provers; its title, tier, basis and cites stand in OBLIGATIONS.json. -/

open Sys2Proof Sys2Proof.Machine

/-! ### The machine -/

/-- A step takes the command at the front of the queue and carries it out with the queue's rest. -/
def Obligations.StepRunsFrontCommand : Prop :=
  ∀ (c : Instr) (rest : List Instr) (s : State), s.pending = c :: rest → step s = exec c (s.setPending rest)

/-- With no command waiting, a step passes one millisecond of REFCLK: the run-on elapsed counts up to 60,000 and
every running timer counts down. The model's choice (notes/assumptions/1.md). -/
def Obligations.IdleStepPassesOneMillisecond : Prop :=
  ∀ s : State, s.pending = [] →
    (s.resetAsserted = true → step s = .next s) ∧
    (s.resetAsserted = false → ∃ t, step s = .next t ∧
      t.ctl = { s.ctl with runOn := s.ctl.runOn.map fun n => min (n + 1) 60000 } ∧
      t.motion = { s.motion with railTimer := s.motion.railTimer.map fun n => n - 1 } ∧
      (∀ f : FanId, t.fan f = { s.fan f with
        kickTimer := (s.fan f).kickTimer.map fun n => n - 1, stallTimer := (s.fan f).stallTimer.map fun n => n - 1,
        pauseTimer := (s.fan f).pauseTimer.map fun n => n - 1, clearTimer := (s.fan f).clearTimer.map fun n => n - 1 }) ∧
      t = { s with ctl := t.ctl, motion := t.motion, fanDrv := { s.fanDrv with fans := t.fanDrv.fans } })

/-- Every command of the table completes in every state, and none touches the queue of commands that wait. -/
def Obligations.EveryCommandCompletesAndKeepsTheQueue : Prop :=
  ∀ (c : Instr) (s : State), ∃ t, exec c s = .next t ∧ t.pending = s.pending

/-- The machine right after reset satisfies every invariant that the steps keep. -/
def Obligations.ResetMeetsTheInvariants : Prop :=
  State.reset.LightOk ∧ State.reset.ZonesOk ∧ State.reset.FansOk ∧ State.reset.SourcesOk ∧ State.reset.GridsOk ∧
  State.reset.FramesOk ∧ State.reset.AxesOk ∧ State.reset.MotionOk ∧ State.reset.CtlOk ∧ State.reset.ChannelOk

/-! ### Resets -/

/-- RESET_N_RELEASED with pin TH0 at a comparator code above 600: every block takes its reset values, tables, thresholds,
gains and parameters among them, and the part starts in STANDBY. What no block owns stays: the queue, the lock of the link,
the pins' levels, what DIR and STEP put out (the model's reading, notes/assumptions/13.md). The fan drivers stand as handed the reset records'
masks and blind flags, no demand and STANDARD, which is the model's reading (notes/assumptions/18.md). How far a sensor-bus transaction in flight had come is a free value
(notes/assumptions/8.md). With TH0 at 600 or below the
comparator trips at once: the part comes up in TRIPPED with every fan kicking. -/
def Obligations.ResetReleaseGivesResetValues : Prop :=
  (∀ s : State, 600 < (s.temps.pinCode[0]).toNat →
    ∃ t, exec .resetNReleased s = .next t ∧
      t.pending = s.pending ∧ t.resetAsserted = false ∧ t.locked = s.locked ∧
      t.warp.frames = [] ∧ t.warp.previous = none ∧ t.warp.writePos = 0 ∧ (∀ k c, readPixel t.warp.store k c = ⟨0, 0, 0⟩) ∧
      t.warp.active = none ∧ t.warp.choice = none ∧ t.warp.vout = (if s.locked then .blanking else .nothing) ∧
      (∀ n : Fin 4, (t.slot n).state = .empty ∧ (t.slot n).clampCount = 0 ∧
        ∀ k : Fin 170, (t.slot n).points.get k = ⟨0, 0⟩ ∧ (t.slot n).written.get k = false) ∧
      t.stats =
        { accumulating := false, lumaSum := 0, covered := 0, frameNumber := 0, current := 0, apl := 0, coverage := 0
          valid := false, recordNumber := 0, feedForward := 0 } ∧
      t.light =
        { user := 4095, thermal := 1536, motion := 4095, motionHeld := false, safety := 0, target := 0
          governing := .safety, applied := 0, rampStep := 128, blankLevel := 0, pwmBuffer := 0, pwmLevel := 0
          lightEn := false } ∧
      (∀ n : Fin 8, t.temps.poll[n] = { enable := false, address := 0x08, register := 0, fraction := 0, pec := false }) ∧
      t.temps.flight = none ∧ t.temps.sweeping = false ∧ t.temps.sweepList = [] ∧ t.temps.recoveryDue = true ∧
      t.busReleased = true ∧ t.temps.wire.getLast? = some .release ∧ (s.temps.flight = none → t.temps.wire = [.release]) ∧
      t.temps.converting = none ∧ (∀ ch : Channel, t.temps.channelTable[ch.idx] = .a) ∧
      t.temps.tableA.toList =
        [2400, 1792, 1520, 1344, 1216, 1112, 1016, 928, 840, 752, 664, 576, 480, 368, 232, 16, -640] ∧
      t.temps.tableB = t.temps.tableA ∧ t.temps.staging = none ∧ t.temps.comparator = { channel := .c0, threshold := 600, state := .released } ∧
      t.temps.pinCode = s.temps.pinCode ∧
      (∀ k : Fin 12, t.source k =
        { state := .unread, lastGood := none, failures := 0, goods := 0, lastOutcome := .notRead
          zone := if k = 8 then some .light else if k = 9 then some .panel else if k = 10 then some .air else none }) ∧
      t.zoneCtl.ceiling = 4095 ∧ t.zoneCtl.blindCap = 1536 ∧ t.zoneCtl.lossCap = 2048 ∧ t.zoneCtl.mode = .standard ∧
      t.zone .light =
        { setpoint := 880, derate := 1120, trip := 1280, runOn := 720, guard := 800, kp := 384, ki := 16, kff := 700
          basis := .lightLevel, mask := 0b101, acc := 0, temp := none, blind := true, demand := .duty 0 } ∧
      t.zone .panel =
        { setpoint := 800, derate := 992, trip := 1152, runOn := 672, guard := 768, kp := 320, ki := 12, kff := 500
          basis := .dumpLoad, mask := 0b110, acc := 0, temp := none, blind := true, demand := .duty 0 } ∧
      t.zone .air =
        { setpoint := 640, derate := 800, trip := 960, runOn := 608, guard := 720, kp := 256, ki := 8, kff := 200
          basis := .lightLevel, mask := 0b100, acc := 0, temp := none, blind := true, demand := .duty 0 } ∧
      (∀ f : FanId, t.fan f =
        { minDuty := 200, mayStop := true, quiet := 560, standard := 800, high := 1023, current := 35, edges := 2
          edgeSel := .rising, state := .off, requested := 0, atCeiling := false, ceiling := 800, applied := 0, retry := 0
          speed := 0, edgeHeld := false, pwmBuffer := 0, pwmLevel := 0, kickTimer := none, stallTimer := none
          pauseTimer := none, clearTimer := none }) ∧
      t.fanDrv.handedMode = .standard ∧
      t.fanDrv.handed.toList =
        [⟨.duty 0, 0b101, true⟩, ⟨.duty 0, 0b110, true⟩, ⟨.duty 0, 0b100, true⟩] ∧
      t.ctl =
        { op := .standby, runOn := none, lastTrip := .noTrip, silence := 0, armed := true, orientation := .ceiling
          acoustic := .standard, budget := 150, resetPending := false } ∧
      (∀ a : AxisId, t.axis a =
        { limit := if a = .h then 38400 else 51200, vmax := 3200, vstart := 200, accel := 16, homeVel := 1600
          backlash := 240, current := 40, approach := .positive, lowEnable := true, lowFalling := false, highEnable := true
          highFalling := false, state := .off, position := 0, homed := false, vel := 0, acc := 0, allowance := 0, leg := none
          plan := none, stopHoming := false, lowLevel := (s.axis a).lowLevel, highLevel := (s.axis a).highLevel
          lowLatched := false, highLatched := false, dirPin := (s.axis a).dirPin, pulses := (s.axis a).pulses }) ∧
      t.motion.queue = [] ∧ t.motion.executing = none ∧ t.motion.history = [] ∧ t.motion.blankHold = false ∧
      t.motion.railTimer = none ∧ (∀ n : Fin 12, t.motion.presets[n] =
        { valid := false, hTarget := 0, vTarget := 0, slot := none, blank := false }) ∧
      t.chan =
        { taken := 0, ignored := 0, entries := [], frameCount := 0, flags := 0, enables := 0, lane := none, waiting := none } ∧
      t.freeCount = (if s.temps.flight.isSome then s.freeCount + 1 else s.freeCount)) ∧
  (∀ s : State, (s.temps.pinCode[0]).toNat ≤ 600 →
    ∃ t, exec .resetNReleased s = .next t ∧
      t.temps.comparator = { channel := .c0, threshold := 600, state := .tripped } ∧
      t.ctl.op = .tripped ∧ t.ctl.lastTrip = .comparator ∧ t.ctl.runOn = none ∧
      t.light.lightEn = false ∧ t.light.applied = 0 ∧
      (∀ f : FanId, (t.fan f).state = .kick ∧ (t.fan f).requested = 1023 ∧ (t.fan f).applied = 1023) ∧
      t.chan.flags = 0x100 ∧ t.busReleased = true ∧ (∀ a : AxisId, (t.axis a).dirPin = (s.axis a).dirPin) ∧
      t.motion.queue = [] ∧ t.motion.executing = none)

/-- RESET_N_ASSERTED: LIGHT_EN falls, every PWM output and the lanes carry nothing, the drivers are off with STEP, DIR and
CUR_SEL low, the sensor bus is released, ATTN is deasserted, and what is in progress is cut off. That the blocks' other values
stand until the release is the model's choice (notes/assumptions/13.md). What the two bus lines carried of a transaction or a
recovery in flight stands before the release; how far it had come, on which course, is a free value
(notes/assumptions/8.md). -/
def Obligations.ResetAssertionCutsEverythingOff : Prop :=
  ∀ s : State, s.resetAsserted = false →
    ∃ t, exec .resetNAsserted s = .next t ∧
      t.resetAsserted = true ∧ t.light.lightEn = false ∧ (∀ n, t.lightPwmHigh n = false) ∧
      (∀ f n, t.fanPwmHigh f n = false) ∧ (∀ a, t.drvEn a = false ∧ t.runSelected a = false) ∧
      (∀ a, (t.axis a).pulses = 0 ∧ (t.axis a).dirPin = false ∧ (t.axis a).position = (s.axis a).position) ∧
      t.attn = false ∧ t.warp.vout = .nothing ∧ t.warp.frames = [] ∧ t.chan.lane = none ∧ t.chan.waiting = none ∧
      t.chan.entries = [] ∧ t.stats.accumulating = false ∧ t.temps.flight = none ∧ t.temps.sweeping = false ∧
      t.busReleased = true ∧ t.temps.converting = none ∧ (s.temps.flight = none → t.temps.wire = [.release]) ∧
      (∀ fl ∈ s.temps.flight, ∃ (e : SbEnd) (n : Nat), t.busLevels =
        (driven (if fl.begun then fl.contents.signals e else recoverySignals)).take n ++ [{ clk := true, dat := true, micros := none }]) ∧
      t.ctl = { s.ctl with resetPending := false } ∧ t.grid = s.grid ∧ t.motion = s.motion ∧ t.zoneCtl = s.zoneCtl ∧
      t.locked = s.locked ∧ t.pending = s.pending

/-! ### Input lines, output frames and the mapping (chapter 1) -/

/-- An active line after a blanking line starts a frame: a record that waits is overtaken and goes, a new record is
appended, the line is stored with exactly 3840 pixels, the silence counter re-arms and the frame's counts begin afresh. An
output frame start of a waiting record that falls in this very line time comes first, so that the list never holds more
than two records, of two the older in output; the line then does all that it does after that output frame start. That order
is the model's reading (notes/assumptions/14.md). -/
def Obligations.ActiveLineAfterBlankingStartsFrame : Prop :=
  (∀ (s : State) (ps : List Pixel), s.linked = true → storeWf s.warp.store = true → s.warp.writePos < 320 →
    s.warp.previous = some .blanking →
    (∀ f ∈ s.warp.frames, f.output = .waiting → s.warp.lineTime + 1 ≠ f.start + 160) →
    (∀ x ∈ s.motion.executing, x.req.phase = .switching → ∀ f ∈ s.warp.frames, f.output = .output) →
    ∃ t, exec (.inputActiveLine ps) s = .next t ∧
      t.warp.frames = s.warp.frames.filter (fun f => decide (f.output = .output)) ++
        [{ base := s.warp.writePos, rows := 1, reception := .receiving, output := .waiting, start := s.warp.lineTime + 1
           nextLine := 0 }] ∧
      (∀ place column, place < 320 → column < 3840 → readPixel t.warp.store place column =
        if place = s.warp.writePos then ps.getD column ⟨0, 0, 0⟩ else readPixel s.warp.store place column) ∧
      t.chan.taken = 0 ∧ t.chan.ignored = 0 ∧ t.chan.entries = [] ∧
      t.chan.frameCount = (s.chan.frameCount + 1) % 65536 ∧ t.chan.flags = s.chan.flags ∧ t.chan.enables = s.chan.enables ∧
      t = { s with
        warp := { s.warp with
          frames := t.warp.frames, store := t.warp.store, writePos := (s.warp.writePos + 1) % 320,
          lineTime := s.warp.lineTime + 1, previous := some .active, vout := .blanking }
        ctl := { s.ctl with silence := 0, armed := true }
        chan := t.chan }) ∧
  (∀ (s u : State) (ps : List Pixel) (older : List FrameRec) (f : FrameRec), s.linked = true →
    s.warp.previous = some .blanking → s.warp.frames = older ++ [f] → (∀ g ∈ older, g.output = .output) →
    f.output = .waiting → s.warp.lineTime + 1 = f.start + 160 →
    exec .outputFrameStart { s with warp := { s.warp with lineTime := s.warp.lineTime + 1 } } = .next u →
    u.warp.frames = [{ f with output := .output, nextLine := 0 }] ∧
    exec (.inputActiveLine ps) s = exec (.inputActiveLine ps) { u with warp := { u.warp with lineTime := s.warp.lineTime } })

/-- An active line that starts no frame is the next row of a RECEIVING record, which row 2159 makes FULL, or an excess
line or a line of no frame, stored black. A plain blanking line is stored black and ends a RECEIVING record SHORT with its
rows received. -/
def Obligations.OtherInputLinesExtendOrEndTheFrame : Prop :=
  (∀ (s : State) (ps : List Pixel), s.linked = true → storeWf s.warp.store = true → s.warp.writePos < 320 →
    s.warp.previous ≠ some .blanking →
    ∃ t, exec (.inputActiveLine ps) s = .next t ∧
      t = { s with warp := { s.warp with
        frames := t.warp.frames, store := t.warp.store, writePos := (s.warp.writePos + 1) % 320,
        lineTime := s.warp.lineTime + 1, previous := some .active, vout := .blanking } } ∧
      (∀ (older : List FrameRec) (f : FrameRec), s.warp.frames = older ++ [f] → f.reception = .receiving →
        t.warp.frames = older ++ [{ f with rows := f.rows + 1, reception := if f.rows + 1 = 2160 then .full else .receiving }] ∧
        ∀ place column, place < 320 → column < 3840 → readPixel t.warp.store place column =
          if place = s.warp.writePos then ps.getD column ⟨0, 0, 0⟩ else readPixel s.warp.store place column) ∧
      ((∀ f ∈ s.warp.frames.getLast?, f.reception ≠ .receiving) →
        t.warp.frames = s.warp.frames ∧
        ∀ place column, place < 320 → column < 3840 → readPixel t.warp.store place column =
          if place = s.warp.writePos then ⟨0, 0, 0⟩ else readPixel s.warp.store place column)) ∧
  (∀ s : State, s.linked = true → storeWf s.warp.store = true → s.warp.writePos < 320 →
    ∃ t, exec .plainBlankingLine s = .next t ∧
      t = { s with warp := { s.warp with
        frames := t.warp.frames, store := t.warp.store, writePos := (s.warp.writePos + 1) % 320,
        lineTime := s.warp.lineTime + 1, previous := some .blanking, vout := .blanking } } ∧
      (∀ place column, place < 320 → column < 3840 → readPixel t.warp.store place column =
        if place = s.warp.writePos then ⟨0, 0, 0⟩ else readPixel s.warp.store place column) ∧
      (∀ (older : List FrameRec) (f : FrameRec), s.warp.frames = older ++ [f] → f.reception = .receiving →
        t.warp.frames = older ++ [{ f with reception := .short }]) ∧
      ((∀ f ∈ s.warp.frames.getLast?, f.reception ≠ .receiving) → t.warp.frames = s.warp.frames))

/-- A line survives in the store for 319 further line times, whatever lines they bring, and the 320th overwrites
it. -/
def Obligations.LineSurvivesThreeHundredNineteenLineTimes : Prop :=
  ∀ (w : Warp) (kind : LineKind) (l last : Line) (further : List (LineKind × Line)),
    storeWf w.store = true → w.writePos < 320 →
    (further.length ≤ 319 →
      readLine (further.foldl (fun w p => w.takeLine p.1 p.2) (w.takeLine kind l)).store w.writePos = l) ∧
    (further.length = 319 →
      readLine ((further.foldl (fun w p => w.takeLine p.1 p.2) (w.takeLine kind l)).takeLine kind last).store w.writePos = last)

/-- An output frame start, 160 line times after the input frame start of a waiting record: an older output frame
ends cut short, the record goes to OUTPUT, the grid is latched, the statistics begin afresh. -/
def Obligations.OutputFrameStartLatchesGrid : Prop :=
  ∀ (s : State) (older : List FrameRec) (f : FrameRec), s.linked = true → s.warp.frames = older ++ [f] →
    (∀ g ∈ older, g.output = .output) → f.output = .waiting → s.warp.lineTime = f.start + 160 →
    (∀ x ∈ s.motion.executing, x.req.phase ≠ .switching) →
    exec .outputFrameStart s = .next { s with
      warp := { s.warp with
        frames := [{ f with output := .output, nextLine := 0 }]
        active := match s.warp.choice with
          | none => s.warp.active
          | some c => c.slot
        choice := none }
      stats :=
        { accumulating := true, lumaSum := 0, covered := 0, frameNumber := (s.stats.frameNumber + 1) % 65536
          current := (s.stats.frameNumber + 1) % 65536
          apl := if older = [] then s.stats.apl else s.stats.lumaSum / 8294400
          coverage := if older = [] then s.stats.coverage else s.stats.covered
          valid := if older = [] then s.stats.valid else false
          recordNumber := if older = [] then s.stats.recordNumber else s.stats.current
          feedForward := s.stats.feedForward }
      chan := { s.chan with flags := if s.warp.choice.isSome then s.chan.flags ||| 0x002 else s.chan.flags } }

/-- Output line v is produced 160 + v line times after its frame's input frame start: its 3840 mapped pixels go to the
output lanes and to the statistics unit, and line 2159 ends the frame complete. In a line time in which the output frame
start of a newer frame is due, the older frame's line is not produced. -/
def Obligations.OutputLineIsMappedAndMeasured : Prop :=
  ∀ (s : State) (f : FrameRec) (rest : List FrameRec) (ps : List OutPixel), s.linked = true → s.warp.frames = f :: rest →
    f.output = .output → (∀ g ∈ rest, g.output = .waiting) → s.warp.lineTime = f.start + 160 + f.nextLine →
    ((∃ g ∈ rest, s.warp.lineTime = g.start + 160) → exec .outputLine s = .next s) ∧
    ((∀ g ∈ rest, s.warp.lineTime ≠ g.start + 160) → s.stats.accumulating = true →
    ps = (List.range 3840).map (fun u =>
      mapPixel s.activeGrid (fun r c => if r < f.rows then readPixel s.warp.store ((f.base + r) % 320) c else ⟨0, 0, 0⟩) u f.nextLine) →
    (f.nextLine < 2159 → exec .outputLine s = .next { s with
      warp := { s.warp with vout := .line ps, frames := { f with nextLine := f.nextLine + 1 } :: rest }
      stats := { s.stats with
        lumaSum := s.stats.lumaSum + (ps.map fun q => (77 * q.pixel.r.toNat + 150 * q.pixel.g.toNat + 29 * q.pixel.b.toNat + 128) / 256).sum
        covered := s.stats.covered + (ps.filter fun q => !q.border).length } }) ∧
    (f.nextLine = 2159 → ∃ apl, exec .outputLine s = .next { s with
      warp := { s.warp with vout := .line ps, frames := rest }
      stats := { s.stats with
        accumulating := false
        lumaSum := s.stats.lumaSum + (ps.map fun q => (77 * q.pixel.r.toNat + 150 * q.pixel.g.toNat + 29 * q.pixel.b.toNat + 128) / 256).sum
        covered := s.stats.covered + (ps.filter fun q => !q.border).length
        apl := apl
        coverage := s.stats.covered + (ps.filter fun q => !q.border).length
        valid := decide (f.reception = .full)
        recordNumber := s.stats.current
        feedForward := if f.reception = .full then apl else s.stats.feedForward } } ∧
      apl = (s.stats.lumaSum + (ps.map fun q => (77 * q.pixel.r.toNat + 150 * q.pixel.g.toNat + 29 * q.pixel.b.toNat + 128) / 256).sum) / 8294400))

/-- The interpolated source position is the weighted mean of the cell's four corners, rounded with an exact half upward,
never outside their range and exact at a corner pixel. A position outside the input frame gives a black border pixel; any
other gives the weighted mean of its four source pixels. -/
def Obligations.MappingInterpolatesAndSamples : Prop :=
  (∀ (pts : Vector Point 170) (c r fu fv : Nat), c ≤ 15 → r ≤ 8 → fu ≤ 239 → fv ≤ 239 →
    ∀ coord ∈ [(fun p : Point => p.x), (fun p => p.y)], ∀ p00 p10 p01 p11 mean : Int,
      p00 = coord (pointAt pts c r) → p10 = coord (pointAt pts (c + 1) r) → p01 = coord (pointAt pts c (r + 1)) →
      p11 = coord (pointAt pts (c + 1) (r + 1)) →
      mean = ((240 - fu : Int) * (240 - fv) * p00 + (fu : Int) * (240 - fv) * p10 + (240 - fu : Int) * fv * p01 +
        (fu : Int) * fv * p11 + 28800) / 57600 →
      coord (sourcePosition (some pts) (240 * c + fu) (240 * r + fv)) = mean ∧
      min (min p00 p10) (min p01 p11) ≤ mean ∧ mean ≤ max (max p00 p10) (max p01 p11) ∧ (fu = 0 → fv = 0 → mean = p00) ∧
      ((∀ p ∈ [p00, p10, p01, p11], -65536 ≤ p ∧ p ≤ 65535) → -65536 ≤ mean ∧ mean ≤ 65535)) ∧
  (∀ (grid : Option (Vector Point 170)) (src : Nat → Nat → Pixel) (u v : Nat) (X Y : Int),
    sourcePosition grid u v = ⟨X, Y⟩ →
    ((X < 0 ∨ Y < 0 ∨ 61424 < X ∨ 34544 < Y) → mapPixel grid src u v = ⟨⟨0, 0, 0⟩, true⟩) ∧
    (∀ xi ax yi ay : Nat, X = 16 * (xi : Int) + ax → Y = 16 * (yi : Int) + ay → ax ≤ 15 → ay ≤ 15 → X ≤ 61424 → Y ≤ 34544 →
      (mapPixel grid src u v).border = false ∧
      ∀ component ∈ [(fun p : Pixel => p.r), (fun p => p.g), (fun p => p.b)],
        ((component (mapPixel grid src u v).pixel).toNat =
          ((16 - ax) * (16 - ay) * (component (src yi xi)).toNat
            + ax * (16 - ay) * (component (src yi (if xi = 3839 then 3839 else xi + 1))).toNat
            + (16 - ax) * ay * (component (src (if yi = 2159 then 2159 else yi + 1) xi)).toNat
            + ax * ay * (component (src (if yi = 2159 then 2159 else yi + 1) (if xi = 3839 then 3839 else xi + 1))).toNat + 128) / 256)))

/-- The identity mapping, and any grid whose every point holds its own output position, give the input frame
unchanged, every pixel covered. -/
def Obligations.IdentityMappingGivesInputUnchanged : Prop :=
  ∀ (grid : Option (Vector Point 170)) (src : Nat → Nat → Pixel) (u v : Nat), u < 3840 → v < 2160 →
    (∀ pts ∈ grid, ∀ i j : Nat, i ≤ 16 → j ≤ 9 → pointAt pts i j = ⟨16 * (240 * i), 16 * (240 * j)⟩) →
    sourcePosition grid u v = ⟨16 * u, 16 * v⟩ ∧ mapPixel grid src u v = ⟨src v u, false⟩

/-- The displacement window suffices: under the identity mapping, or a grid whose every displacement lies within −2544
to +2559, output line v depends on no row of the frame but rows v − 159 to v + 160. -/
def Obligations.WindowBoundsRowsAddressed : Prop :=
  ∀ (grid : Option (Vector Point 170)) (src src' : Nat → Nat → Pixel) (u v : Nat), u < 3840 → v < 2160 →
    (∀ pts ∈ grid, ∀ i j : Nat, i ≤ 16 → j ≤ 9 →
      -2544 ≤ (pointAt pts i j).y - 3840 * j ∧ (pointAt pts i j).y - 3840 * j ≤ 2559) →
    (∀ row col : Nat, v ≤ row + 159 → row ≤ v + 160 → row < 2160 → col < 3840 → src row col = src' row col) →
    mapPixel grid src u v = mapPixel grid src' u v

/-! ### The lock of the link and the return lane (R14, R129, R172) -/

/-- The link loses lock: the output frame ends cut short, every record goes, the lanes carry nothing, the answer on the
lane is cut off and the waiting one kept; no line time passes. The link regains lock, or an answer has been sent in full:
the waiting answer goes out. The answer that holds the entry of a pending ENGINE_RESET brings the reset, sent or cut
off. -/
def Obligations.LinkLockAndReturnLane : Prop :=
  (∀ s : State, s.resetAsserted = false →
    (s.locked = true → (s.ctl.resetPending = false ∨ ∀ a ∈ s.chan.lane, a.holdsReset = false) → ∃ stats, exec .linkLockLost s = .next { s with
        locked := false
        warp := { s.warp with frames := [], previous := none, vout := .nothing }
        stats := stats
        chan := { s.chan with lane := none } } ∧
      ((∀ f ∈ s.warp.frames, f.output = .waiting) → stats = s.stats) ∧
      ((∃ f ∈ s.warp.frames, f.output = .output) → stats = { s.stats with
        apl := s.stats.lumaSum / 8294400, coverage := s.stats.covered, valid := false, recordNumber := s.stats.current
        accumulating := false })) ∧
    (s.locked = false → exec .linkLockRegained s = .next { s with
        locked := true
        warp := { s.warp with vout := .blanking }
        chan := { s.chan with lane := s.chan.waiting, waiting := none } })) ∧
  (∀ (s : State) (a : FrameAnswer), s.linked = true → s.chan.lane = some a →
    ((s.ctl.resetPending = false ∨ a.holdsReset = false) →
      exec .answerSent s = .next { s with chan := { s.chan with lane := s.chan.waiting, waiting := none } }) ∧
    (s.ctl.resetPending = true → a.holdsReset = true →
      exec .answerSent s = exec .resetNReleased s ∧ exec .linkLockLost s = exec .resetNReleased (s.setLocked false)))

/-! ### The control channel (chapters 9 and 10) -/

/-- The packet that carries a command reads back as that command, whatever words follow it on its line. -/
def Obligations.PacketReadsBackAsItsCommand : Prop :=
  ∀ (i : Instr) (tag : Byte) (code : Nat) (payload rest : List Byte), i.wf = true → packetOf i = some (tag, code, payload) →
    payload.length ≤ 48 ∧ readPacket (packetBytes tag code payload ++ rest) = .command tag i

/-- A control line that carries a command's packet, its component words taken R, G, B for pixel 0, then R, G, B for pixel 1
and so on, completes, in every state: it does what a blanking line does, and then what the command does; whatever words follow the
packet are not read. Where the control channel takes packets, the line is one packet more taken and none more ignored, and the
command's answer entry, with the packet's tag and at most eight data bytes, goes to the back of the list. That the command's own
row is its packet without the line (notes/assumptions/4.md), and that a line out of lock or while RESET_N is asserted changes nothing
(notes/assumptions/5.md, notes/assumptions/6.md), are the model's choices. -/
def Obligations.ControlLineCarriesItsCommand : Prop :=
  ∀ (i : Instr) (bytes : List Byte) (pixels : List Pixel) (after : List LaneWord) (s : State), i.wf = true →
    encode i = some bytes → pixels.flatMap (fun p => [p.r, p.g, p.b]) = controlWords bytes ++ after →
    ∃ t u, exec (.controlLine pixels) s = .next u ∧ exec .plainBlankingLine s = .next t ∧ exec i t = .next u ∧
      (s.takes → u.chan.taken = s.chan.taken + 1 ∧ u.chan.ignored = s.chan.ignored ∧
        ∃ e : Entry, u.chan.entries = s.chan.entries ++ [e] ∧ bytes[0]? = some e.tag ∧ e.reply.data.length ≤ 8)

/-- A control line's packet that fails a check is answered BAD_CHECK, UNKNOWN_COMMAND or BAD_LENGTH and reaches no
block; with sixteen packets taken the line is ignored; with an ENGINE_RESET pending it is discarded. -/
def Obligations.PacketsFailedIgnoredOrDiscarded : Prop :=
  ∀ (s t : State) (pixels : List Pixel) (words : List LaneWord) (bytes payload : List Byte) (tag : Byte) (code len : Nat),
    s.linked = true → words = pixels.flatMap (fun p => [p.r, p.g, p.b]) → words.take 6 = [0x2AA, 0x155, 0x2AA, 0x155, 0x2AA, 0x155] →
    bytes = (words.drop 6).map (fun w => w.setWidth 8) → tag = bytes.getD 0 0 → code = (bytes.getD 1 0).toNat →
    len = (bytes.getD 2 0).toNat → payload = (bytes.drop 3).take len →
    exec .plainBlankingLine s = .next t →
    (s.ctl.resetPending = true → exec (.controlLine pixels) s = .next t) ∧
    (s.ctl.resetPending = false → s.chan.taken = 16 → exec (.controlLine pixels) s = .next { t with chan := { t.chan with
      ignored := min (s.chan.ignored + 1) 255
      flags := if s.chan.ignored = 0 then s.chan.flags ||| 0x800 else s.chan.flags } }) ∧
    (s.ctl.resetPending = false → s.chan.taken < 16 →
      ((48 < len ∨ bytes.length < 5 + len ∨
          crc16 (bytes.take (3 + len)) ≠ bytes.getD (3 + len) 0 ++ bytes.getD (4 + len) 0) →
        exec (.controlLine pixels) s = .next (t.onlyAnswered tag .badCheck [])) ∧
      (len ≤ 48 → 5 + len ≤ bytes.length → crc16 (bytes.take (3 + len)) = bytes.getD (3 + len) 0 ++ bytes.getD (4 + len) 0 →
        (code ∉ [0x01, 0x02, 0x03, 0x04, 0x05, 0x06, 0x10, 0x11, 0x12, 0x13, 0x14, 0x20, 0x21, 0x22, 0x23, 0x24, 0x25, 0x26,
            0x27, 0x28, 0x29, 0x30, 0x31, 0x32, 0x33, 0x34, 0x35, 0x38, 0x39, 0x3A, 0x3B, 0x3C, 0x3D, 0x40, 0x41, 0x42, 0x43,
            0x44, 0x4F, 0x50, 0x51, 0x52, 0x53, 0x54, 0x60, 0x61, 0x62, 0x63, 0x64, 0x65, 0x66, 0x67, 0x68, 0x69, 0x70, 0x71,
            0x72, 0x73, 0x74] →
          exec (.controlLine pixels) s = .next (t.onlyAnswered tag .unknownCommand [])) ∧
        (∀ n, requiredLength code payload = some n → len ≠ n →
          exec (.controlLine pixels) s = .next (t.onlyAnswered tag .badLength []))))

/-- The frame answer formed at an input frame start: the 21-byte header, the entries in order of arrival, the CRC-16;
sent at once on a free lane, otherwise kept waiting, but never in place of the answer to a pending ENGINE_RESET. The header
reports the flags, the light, the statistics and the grid choice as the event leaves them, after an output frame start that
falls in its line time and the end of a recall that it ends (the model's reading of the order, notes/assumptions/14.md);
where there is neither they stand as before it. Which answer holds the reset's entry is the model's reading too
(notes/assumptions/31.md), and yes is sent as 1 (notes/assumptions/25.md). -/
def Obligations.FrameAnswerIsFormedAndSent : Prop :=
  ∀ (s : State) (ps : List Pixel), s.linked = true → s.warp.previous = some .blanking →
    ∃ (t : State) (body : List Byte) (a : FrameAnswer), exec (.inputActiveLine ps) s = .next t ∧
      body = be16 ((s.chan.frameCount + 1) % 65536) ++ byte s.ctl.op.code ++ be16 t.chan.flags.toNat ++ be16 t.light.applied
        ++ byte t.light.governing.code ++ be16 t.stats.apl ++ be32 t.stats.coverage ++ flagByte t.stats.valid
        ++ be16 t.stats.recordNumber
        ++ (match t.warp.active with
          | none => [0xFF]
          | some n => byte n.val)
        ++ (match t.warp.choice with
          | none => [0xFF]
          | some ⟨none, _⟩ => [0xFE]
          | some ⟨some n, _⟩ => byte n.val)
        ++ byte s.chan.taken ++ byte s.chan.ignored
        ++ s.chan.entries.flatMap (fun e => [e.tag] ++ byte e.reply.result.code ++ byte e.reply.data.length ++ e.reply.data) ∧
      a = { bytes := body ++ wordBytes (crc16 body), holdsReset := s.ctl.resetPending && !s.chan.entries.isEmpty } ∧
      ((∀ f ∈ s.warp.frames, f.output = .waiting → s.warp.lineTime + 1 ≠ f.start + 160) →
        (∀ x ∈ s.motion.executing, x.req.phase = .switching → ∀ f ∈ s.warp.frames, f.output = .output) →
        t.chan.flags = s.chan.flags ∧ t.light = s.light ∧ t.stats = s.stats ∧ t.warp.active = s.warp.active ∧
        t.warp.choice = s.warp.choice) ∧
      (s.chan.lane = none → t.chan.lane = some a ∧ t.chan.waiting = s.chan.waiting) ∧
      (∀ b, s.chan.lane = some b → t.chan.lane = some b ∧
        t.chan.waiting = match s.chan.waiting with
          | none => some a
          | some w => if w.holdsReset = true ∧ s.ctl.resetPending = true then some w else some a)

/-- ACK_EVENTS clears the flags its set names and answers those that were set; SET_EVENT_ENABLE replaces the enables;
either is refused a set that names anything else; and ATTN is asserted exactly while a flag is set and enabled
and RESET_N is released. A reset leaves it deasserted with every enable clear, the release of RESET_N and a pending
ENGINE_RESET alike. That SILENCE_EXPIRY expires an armed counter whatever its value, and so applies the pending reset, is the
model's choice (notes/assumptions/19.md); that RESET_N_RELEASED acts as the release even where RESET_N was not asserted is the
model's reading (notes/assumptions/5.md). -/
def Obligations.EventCommandsAndAttn : Prop :=
  (∀ (s : State) (tag : Byte) (events : BitVec 16), s.takes →
    (events.toNat < 4096 →
      exec (.ackEvents tag events) s = .next { s with chan :=
        { s.answered tag .ok (wordBytes ((s.chan.flags &&& events.setWidth 12).setWidth 16)) with
          flags := s.chan.flags &&& ~~~(events.setWidth 12) } } ∧
      exec (.setEventEnable tag events) s = .next { s with chan :=
        { s.answered tag .ok [] with enables := events.setWidth 12 } }) ∧
    (4096 ≤ events.toNat →
      exec (.ackEvents tag events) s = .next (s.onlyAnswered tag .refusedRange []) ∧
      exec (.setEventEnable tag events) s = .next (s.onlyAnswered tag .refusedRange []))) ∧
  (∀ s : State, s.attn = true ↔
    s.resetAsserted = false ∧ ∃ k : Nat, k < 12 ∧ s.chan.flags.getLsbD k = true ∧ s.chan.enables.getLsbD k = true) ∧
  (∀ (s t : State) (e : Instr),
    (e = .resetNReleased ∨ s.resetAsserted = false ∧ s.ctl.resetPending = true ∧
      (e = .silenceExpiry ∧ s.ctl.armed = true ∨
        (e = .answerSent ∨ e = .linkLockLost) ∧ s.locked = true ∧ ∃ a, s.chan.lane = some a ∧ a.holdsReset = true)) →
    exec e s = .next t → t.attn = false ∧ t.chan.enables = 0)

/-- The pages of READ_STATUS and of READ_LIGHT, byte by byte (yes is sent as 1, notes/assumptions/25.md). SET_INSTALL takes
all three fields or none; READ_STATE reports the state controller's record; ENGINE_RESET is taken in STANDBY alone, and
makes a reset pending. -/
def Obligations.StatusReportsAndStateSettings : Prop :=
  (∀ (s : State) (tag : Byte) (temp : ZoneId → List Byte), s.takes →
    (∀ z, temp z = match (s.zone z).temp with
      | none => [0x80, 0x00]
      | some t => wordBytes (BitVec.ofInt 16 t)) →
    exec (.readStatus tag 0) s = .next (s.onlyAnswered tag .ok (temp .light ++ temp .panel ++ temp .air ++
      [(if (s.zone .light).blind then 1 else 0) + (if (s.zone .panel).blind then 2 else 0) + (if (s.zone .air).blind then 4 else 0)]
      ++ byte s.zoneCtl.mode.code)) ∧
    exec (.readStatus tag 1) s = .next (s.onlyAnswered tag .ok (byte (s.fan .f0).state.code ++ byte (s.fan .f1).state.code
      ++ byte (s.fan .f2).state.code ++ byte s.axisH.state.code ++ byte s.axisV.state.code ++ be16 s.zoneCtl.ceiling ++ [0])) ∧
    exec (.readStatus tag 2) s = .next (s.onlyAnswered tag .ok
      (be16 s.light.user ++ be16 s.light.thermal ++ be16 s.light.motion ++ be16 s.light.safety)) ∧
    exec (.readLight tag 0) s = .next (s.onlyAnswered tag .ok
      (be16 s.light.user ++ be16 s.light.thermal ++ be16 s.light.motion ++ be16 s.light.safety)) ∧
    exec (.readLight tag 1) s = .next (s.onlyAnswered tag .ok (be16 s.light.target ++ byte s.light.governing.code
      ++ be16 s.light.applied ++ [if s.light.motionHeld then 1 else 0] ++ be16 s.light.rampStep)) ∧
    exec (.readLight tag 2) s = .next (s.onlyAnswered tag .ok (be16 s.light.blankLevel ++ be16 s.stats.feedForward
      ++ be16 (s.light.applied * (1023 - s.stats.feedForward) / 1023) ++ [0, 0]))) ∧
  (∀ (s : State) (tag orientation acoustic : Byte) (budget : BitVec 16), s.takes →
    ((2 ≤ orientation.toNat ∨ 3 ≤ acoustic.toNat ∨ 1000 < budget.toNat) →
      exec (.setInstall tag orientation acoustic budget) s = .next (s.onlyAnswered tag .refusedRange [])) ∧
    (∀ (o : Orientation) (a : Acoustic), orientation.toNat = o.code → acoustic.toNat = a.code → budget.toNat ≤ 1000 →
      exec (.setInstall tag orientation acoustic budget) s = .next { s with
        ctl := { s.ctl with orientation := o, acoustic := a, budget := budget.toNat }, chan := s.answered tag .ok [] }) ∧
    exec (.readState tag) s = .next (s.onlyAnswered tag .ok
      ([BitVec.ofNat 8 s.ctl.op.code] ++
        (match s.ctl.runOn with
        | none => [0xFF, 0xFF]
        | some n => be16 n) ++
        [match s.ctl.lastTrip with
          | .noTrip => 0
          | .comparator => 1
          | .fanLoss => 2
          | .zone z => BitVec.ofNat 8 (16 + z.code),
          BitVec.ofNat 8 (s.ctl.silence + if s.ctl.armed then 128 else 0),
          BitVec.ofNat 8 (128 * s.ctl.orientation.code + s.ctl.acoustic.code)] ++ be16 s.ctl.budget)) ∧
    (s.ctl.op = .standby → exec (.engineReset tag) s = .next { s with
      ctl := { s.ctl with resetPending := true }, chan := s.answered tag .ok [] }) ∧
    (s.ctl.op ≠ .standby → exec (.engineReset tag) s = .next (s.onlyAnswered tag .refusedState [])))

/-- A flag that is set stays set through every step but ACK_EVENTS, a control line that may carry one, and the steps
that apply a reset. That it stands through RESET_N_ASSERTED and until the release is the model's choice
(notes/assumptions/13.md), and that no event acts on a block while RESET_N is asserted its reading of R130
(notes/assumptions/5.md). -/
def Obligations.SetFlagStaysSet : Prop :=
  ∀ (s t : State) (c : Instr) (e : EventFlag), s.ctl.resetPending = false → exec c s = .next t →
    (∀ tag events, c ≠ .ackEvents tag events) → (∀ words, c ≠ .controlLine words) → c ≠ .resetNReleased →
    s.chan.flag e = true → t.chan.flag e = true

/-! ### Grid slots (chapter 2) -/

/-- WRITE_GRID stores its points whole or not at all: the slot becomes LOADING, each named point and flag is written,
every other keeps its value; the range checks come before the protection check. -/
def Obligations.WriteGridStoresAllOrNothing : Prop :=
  ∀ (s : State) (tag slot first count : Byte) (points : List RawPoint), s.takes →
    (points.length ≠ count.toNat →
      exec (.writeGrid tag slot first count points) s = .next (s.onlyAnswered tag .badLength [])) ∧
    (points.length = count.toNat →
      ((4 ≤ slot.toNat ∨ count.toNat = 0 ∨ 8 < count.toNat ∨ 170 < first.toNat + count.toNat ∨
          ∃ q ∈ points, q.x.toInt < -65536 ∨ 65535 < q.x.toInt ∨ q.y.toInt < -65536 ∨ 65535 < q.y.toInt) →
        exec (.writeGrid tag slot first count points) s = .next (s.onlyAnswered tag .refusedRange [])) ∧
      (∀ n : Fin 4, slot.toNat = n.val → 1 ≤ count.toNat → count.toNat ≤ 8 → first.toNat + count.toNat ≤ 170 →
        (∀ q ∈ points, -65536 ≤ q.x.toInt ∧ q.x.toInt ≤ 65535 ∧ -65536 ≤ q.y.toInt ∧ q.y.toInt ≤ 65535) →
        ((s.warp.active = some n ∨ ∃ c ∈ s.warp.choice, c.slot = some n) →
          exec (.writeGrid tag slot first count points) s = .next (s.onlyAnswered tag .refusedProtected [])) ∧
        (s.warp.active ≠ some n → (∀ c ∈ s.warp.choice, c.slot ≠ some n) →
          ∃ (x : Slot) (data : List Byte),
            exec (.writeGrid tag slot first count points) s =
              .next { s with grid := s.grid.set n x, chan := s.answered tag .ok data } ∧
            x.reports data ∧ x.state = .loading ∧ x.clampCount = 0 ∧
            ∀ k : Fin 170,
              (∀ q, first.toNat ≤ k.val → points[k.val - first.toNat]? = some q →
                x.points.get k = ⟨q.x.toInt, q.y.toInt⟩ ∧ x.written.get k = true) ∧
              (k.val < first.toNat ∨ first.toNat + count.toNat ≤ k.val →
                x.points.get k = (s.slot n).points.get k ∧ x.written.get k = (s.slot n).written.get k))))

/-- COMMIT_GRID takes a LOADING slot whose every flag is set to VALID, with each Y brought into the displacement
window; the clamp count is the number of points it changed. -/
def Obligations.CommitGridClampsIntoWindow : Prop :=
  ∀ (s : State) (tag slot : Byte), s.takes →
    (4 ≤ slot.toNat → exec (.commitGrid tag slot) s = .next (s.onlyAnswered tag .refusedRange [])) ∧
    (∀ n : Fin 4, slot.toNat = n.val →
      ((s.slot n).state ≠ .loading → exec (.commitGrid tag slot) s = .next (s.onlyAnswered tag .refusedState [])) ∧
      ((s.slot n).state = .loading → (∃ k : Fin 170, (s.slot n).written.get k = false) →
        ∃ data, (s.slot n).reports data ∧
          exec (.commitGrid tag slot) s = .next (s.onlyAnswered tag .refusedIncomplete data)) ∧
      ((s.slot n).state = .loading → (∀ k : Fin 170, (s.slot n).written.get k = true) →
        ∃ x : Slot,
          exec (.commitGrid tag slot) s = .next { s with
            grid := s.grid.set n x
            chan := s.answered tag (if x.clampCount = 0 then .ok else .okClamped) [BitVec.ofNat 8 x.clampCount] } ∧
          x.state = .valid ∧ x.written = (s.slot n).written ∧
          x.clampCount = (List.finRange 170).countP (fun k => (x.points.get k).y ≠ ((s.slot n).points.get k).y) ∧
          ∀ (k : Fin 170) (j : Int), j = (k.val / 17 : Nat) →
            (x.points.get k).x = ((s.slot n).points.get k).x ∧
            (x.points.get k).y =
              (if ((s.slot n).points.get k).y - 3840 * j < -2544 then 3840 * j - 2544
              else if 2559 < ((s.slot n).points.get k).y - 3840 * j then 3840 * j + 2559
              else ((s.slot n).points.get k).y)))

/-- ERASE_GRID empties an unprotected slot and leaves its points; SELECT_GRID places a pending choice of a VALID slot or
of identity, replacing any earlier one. READ_GRID returns a point, its written flag and its slot's state; GRID_INFO a
slot's state, progress and clamp count and whether each pointer names it; neither changes anything. Yes is sent as 1 (the
model's reading, notes/assumptions/25.md). -/
def Obligations.GridSlotCommands : Prop :=
  (∀ (s : State) (tag slot : Byte), s.takes →
    (4 ≤ slot.toNat → exec (.eraseGrid tag slot) s = .next (s.onlyAnswered tag .refusedRange []) ∧
      (slot ≠ 0xFF → exec (.selectGrid tag slot) s = .next (s.onlyAnswered tag .refusedRange []))) ∧
    (∀ n : Fin 4, slot.toNat = n.val →
      ((s.warp.active = some n ∨ ∃ c ∈ s.warp.choice, c.slot = some n) →
        exec (.eraseGrid tag slot) s = .next (s.onlyAnswered tag .refusedProtected [])) ∧
      (s.warp.active ≠ some n → (∀ c ∈ s.warp.choice, c.slot ≠ some n) →
        exec (.eraseGrid tag slot) s = .next { s with
          grid := s.grid.set n
            { points := (s.slot n).points, written := Vector.replicate 170 false, state := .empty, clampCount := 0 }
          chan := s.answered tag .ok [] }) ∧
      ((s.slot n).state = .valid → exec (.selectGrid tag slot) s = .next { s with
        warp := { s.warp with choice := some { slot := some n, origin := .select } }
        chan := s.answered tag .ok [] }) ∧
      ((s.slot n).state ≠ .valid → exec (.selectGrid tag slot) s = .next (s.onlyAnswered tag .refusedState []))) ∧
    (slot = 0xFF → exec (.selectGrid tag slot) s = .next { s with
      warp := { s.warp with choice := some { slot := none, origin := .select } }
      chan := s.answered tag .ok [] })) ∧
  (∀ (s : State) (tag slot index : Byte), s.takes →
    ((4 ≤ slot.toNat ∨ 170 ≤ index.toNat) →
      exec (.readGrid tag slot index) s = .next (s.onlyAnswered tag .refusedRange [])) ∧
    (4 ≤ slot.toNat → exec (.gridInfo tag slot) s = .next (s.onlyAnswered tag .refusedRange [])) ∧
    (∀ n : Fin 4, slot.toNat = n.val →
      (∀ (k : Fin 170) (point : BitVec 40), index.toNat = k.val →
        point = BitVec.ofInt 20 ((s.slot n).points.get k).x ++ BitVec.ofInt 20 ((s.slot n).points.get k).y →
        exec (.readGrid tag slot index) s = .next (s.onlyAnswered tag .ok
          [point.extractLsb' 32 8, point.extractLsb' 24 8, point.extractLsb' 16 8, point.extractLsb' 8 8, point.extractLsb' 0 8,
            if (s.slot n).written.get k then 1 else 0, BitVec.ofNat 8 (s.slot n).state.code])) ∧
      ∃ progress, (s.slot n).reports progress ∧
        exec (.gridInfo tag slot) s = .next (s.onlyAnswered tag .ok ([BitVec.ofNat 8 (s.slot n).state.code] ++ progress ++
          [BitVec.ofNat 8 (s.slot n).clampCount, if s.warp.active = some n then 1 else 0,
            if s.warp.choice.any (fun c => decide (c.slot = some n)) then 1 else 0]))))

/-! ### The light drive (chapter 3) -/

/-- SET_LIGHT writes the USER limiter and SET_LIGHT_RAMP the ramp step and the blank level, each refused beyond its
range; the target and the governing limiter are formed anew. A ramp tick moves the applied level toward the target by at
most the ramp step; at a period boundary a PWM output takes its buffer, and it is high for that many counts of the
period. -/
def Obligations.LightCommandsAndTicks : Prop :=
  (∀ (s : State) (tag : Byte) (level rampStep blankLevel : BitVec 16), s.takes →
    s.light.applied ≤ s.light.safety → s.light.applied ≤ s.light.motion →
    (level.toNat ≤ 4095 → exec (.setLight tag level) s = .next { s with
      light := { s.light with
        user := level.toNat
        target := min (min s.light.safety s.light.motion) (min s.light.thermal level.toNat)
        governing :=
          if s.light.safety ≤ s.light.motion ∧ s.light.safety ≤ s.light.thermal ∧ s.light.safety ≤ level.toNat then .safety
          else if s.light.motion ≤ s.light.thermal ∧ s.light.motion ≤ level.toNat then .motion
          else if s.light.thermal ≤ level.toNat then .thermal else .user }
      chan := s.answered tag .ok [] }) ∧
    (4095 < level.toNat → exec (.setLight tag level) s = .next (s.onlyAnswered tag .refusedRange [])) ∧
    (1 ≤ rampStep.toNat → rampStep.toNat ≤ 4095 → blankLevel.toNat ≤ 4095 →
      exec (.setLightRamp tag rampStep blankLevel) s = .next { s with
        light := { s.light with rampStep := rampStep.toNat, blankLevel := blankLevel.toNat }
        chan := s.answered tag .ok [] }) ∧
    ((rampStep.toNat = 0 ∨ 4095 < rampStep.toNat ∨ 4095 < blankLevel.toNat) →
      exec (.setLightRamp tag rampStep blankLevel) s = .next (s.onlyAnswered tag .refusedRange []))) ∧
  (∀ (s : State) (f : FanId) (applied : Nat), s.resetAsserted = false →
    applied = (if s.light.applied < s.light.target then min (s.light.applied + s.light.rampStep) s.light.target
      else if s.light.target < s.light.applied then max (s.light.applied - s.light.rampStep) s.light.target
      else s.light.applied) →
    exec .rampTick s = .next { s with light := { s.light with applied := applied, pwmBuffer := applied } } ∧
    (∃ t, exec .lightPwmPeriodBoundary s = .next t ∧ t = { s with light := { s.light with pwmLevel := s.light.pwmBuffer } } ∧
      ∀ n, t.lightPwmHigh n = decide (n < s.light.pwmBuffer)) ∧
    (∃ t, exec (.fanPwmPeriodBoundary f) s = .next t ∧ t.fan f = { s.fan f with pwmLevel := (s.fan f).pwmBuffer } ∧
      (∀ g, g ≠ f → t.fan g = s.fan g) ∧ t = { s with fanDrv := { s.fanDrv with fans := t.fanDrv.fans } } ∧
      ∀ n, t.fanPwmHigh f n = decide (n < (s.fan f).pwmBuffer)))

/-- The light comes on only in a step that the state controller judges fit: from STANDBY or COOLDOWN, with no zone
blind and F0 not FAILED, and from COOLDOWN with every zone below its derate threshold. -/
def Obligations.LightComesOnOnlyWhenAllowed : Prop :=
  ∀ s t : State, step s = .next t → s.ctl.op ≠ .lit → t.ctl.op = .lit →
    (s.ctl.op = .standby ∨ s.ctl.op = .cooldown) ∧ (∀ z : ZoneId, (s.zone z).blind = false) ∧
    (s.fan .f0).state ≠ .failed ∧
    (s.ctl.op = .cooldown → ∀ (z : ZoneId) (temp : Int), (s.zone z).temp = some temp → temp < (s.zone z).derate)

/-! ### Temperature sources (chapter 4) -/

/-- A read applied to a source record: three failed reads in a row fail it, with SENSOR_FAIL; five good reads in a row
bring a FAILED record back; the last good value and the last outcome follow. -/
def Obligations.ReadsMoveSourceHealth : Prop :=
  ∀ (s : State) (n : Fin 12) (o : ReadOutcome) (temp : Int) (x : Source), x = s.source n →
    (x.state = .failed → s.applyReading n (.bad o) = s.setSource n { x with lastOutcome := o, goods := 0 }) ∧
    (x.state ≠ .failed → x.failures < 2 →
      s.applyReading n (.bad o) = s.setSource n { x with lastOutcome := o, failures := x.failures + 1 }) ∧
    (x.state ≠ .failed → x.failures = 2 →
      s.applyReading n (.bad o) =
        { s.setSource n { x with lastOutcome := o, failures := 3, state := .failed, goods := 0 } with
          chan := { s.chan with flags := s.chan.flags ||| 0x020 } }) ∧
    (x.state ≠ .failed →
      s.applyReading n (.good temp) =
        s.setSource n { x with lastOutcome := .done, lastGood := some temp, state := .ok, failures := 0 }) ∧
    (x.state = .failed → x.goods < 4 →
      s.applyReading n (.good temp) =
        s.setSource n { x with lastOutcome := .done, lastGood := some temp, goods := x.goods + 1 }) ∧
    (x.state = .failed → x.goods = 4 →
      s.applyReading n (.good temp) =
        s.setSource n { x with lastOutcome := .done, lastGood := some temp, state := .ok, failures := 0, goods := 0 })

/-- A thermistor conversion completes: the code is judged SHORTED, OPEN or DONE with the interpolated temperature of
the channel's table, applied to the channel's record unless a change of table discards it, and the scan goes on. The
comparator's own reading of the pin is another and stays as it is. That a conversion of another channel than the scan's is
applied too is the model's choice (notes/assumptions/27.md). -/
def Obligations.ThermistorConversionIsJudgedAndApplied : Prop :=
  ∀ (s : State) (ch : Channel) (code : BitVec 12) (r : Reading) (tab : Vector Int 17) (k f : Nat),
    s.resetAsserted = false →
    tab = (if s.temps.channelTable[ch.idx] = .a then s.temps.tableA else s.temps.tableB) →
    code.toNat = 256 * k + f → f < 256 →
    (code.toNat < 16 → r = .bad .shorted) → (4079 < code.toNat → r = .bad .openCircuit) →
    (16 ≤ code.toNat → code.toNat ≤ 4079 →
      r = .good (tab.getD k 0 + ((tab.getD (k + 1) 0 - tab.getD k 0) * f + 128) / 256)) →
    (¬(s.temps.converting = some ch ∧ s.temps.discardConversion = true) →
      ∃ u, u = s.applyReading ch.source r ∧
        exec (.thermistorConversionDone ch code) s = .next { u with temps := { u.temps with
          converting := if s.temps.converting = some ch then nextChannel ch else s.temps.converting
          discardConversion := if s.temps.converting = some ch then false else s.temps.discardConversion } }) ∧
    (s.temps.converting = some ch → s.temps.discardConversion = true →
      exec (.thermistorConversionDone ch code) s = .next { s with temps := { s.temps with
        converting := nextChannel ch, discardConversion := false } }) ∧
    (tableOk tab.toList → ∀ temp, r = .good temp →
      tab.getD (k + 1) 0 ≤ temp ∧ temp ≤ tab.getD k 0 ∧ -640 ≤ temp ∧ temp ≤ 2400)

/-- A sensor-bus transaction that ran to its stop: a declined byte, a PEC mismatch, a value out of range or a good read
goes to its entry's record unless a WRITE_POLL has discarded it, and the sweep takes its next entry or ends. A stretch sum
above 15 ms, made of stretches shorter than 30 ms, a stretch of 30 ms and a bus error each end the transaction with their outcome and make recovery due, as an
abandoned recovery does with TIMEOUT; a recovery that completes, nine pulses and a stop, begins the waiting transaction. What
the controller made on the two lines is the start, each byte with its acknowledge and the stop, or a release of both; both
are released where no entry is in flight. The bytes are the command's operands; how far a cut-off transaction or recovery had come, on which course, is a free value,
but that it waits for SB_CLK in a timeout or a stretch, before the start or in a bit (notes/assumptions/8.md); a discard during the recovery,
and that the waiting entry is off the list and in flight, are the model's choices (notes/assumptions/16.md,
notes/assumptions/32.md). -/
def Obligations.SensorBusTransactionsEnd : Prop :=
  (∀ (s u : State) (fl : Flight) (e : SbEnd) (r : Reading) (next : Temps) (write index read : Byte) (wire : List SbSignal),
    s.resetAsserted = false → s.temps.flight = some fl → fl.begun = true →
    write = BitVec.ofNat 8 (2 * fl.contents.address) → index = BitVec.ofNat 8 fl.contents.register →
    read = BitVec.ofNat 8 (2 * fl.contents.address + 1) →
    (e = .nackAddr false → wire = [.start, .sent write false, .stop]) →
    (e = .nackData → wire = [.start, .sent write true, .sent index false, .stop]) →
    (e = .nackAddr true → wire = [.start, .sent write true, .sent index true, .repeatedStart, .sent read false, .stop]) →
    (∀ hi lo pec, e = .data hi lo pec → wire = [.start, .sent write true, .sent index true, .repeatedStart, .sent read true,
      .received hi true] ++ (if fl.contents.pec then [.received lo true, .received pec false, .stop] else [.received lo false, .stop])) →
    (∀ atRead, e = .nackAddr atRead → r = .bad .nackAddr) → (e = .nackData → r = .bad .nackData) →
    (∀ hi lo pec (temp : Int), e = .data hi lo pec → temp = (hi ++ lo : BitVec 16).toInt * 16 / 2 ^ fl.contents.fraction →
      (fl.contents.pec = true → crc8 [write, index, read, hi, lo] ≠ pec → r = .bad .pecMismatch) ∧
      ((fl.contents.pec = true → crc8 [write, index, read, hi, lo] = pec) →
        (-640 ≤ temp → temp ≤ 2400 → r = .good temp) ∧ (temp < -640 ∨ 2400 < temp → r = .bad .range))) →
    (fl.discarded = true → u = s) → (fl.discarded = false → u = s.applyReading (pollSource fl.entry) r) →
    (s.temps.sweepList = [] → next = { u.temps with sweeping := false, flight := none, wire := wire }) →
    (∀ n rest, s.temps.sweepList = n :: rest → next = { u.temps with
      sweepList := rest, wire := wire
      flight := some { entry := n, begun := !s.temps.recoveryDue, contents := s.temps.poll[n], discarded := false, stretchSum := 0 } }) →
    exec (.sbTransactionEnd e) s = .next { u with temps := next } ∧
    (({ u with temps := next } : State).busReleased = true ↔ s.temps.sweepList = []) ∧
    (({ u with temps := next } : State).busLevels.getLast? = some { clk := true, dat := true, micros := none })) ∧
  (∀ (s : State) (fl : Flight), s.resetAsserted = false → s.temps.flight = some fl →
    (∀ (c : Instr) (o : ReadOutcome) (u : State) (next : Temps), ((fl.begun = true ∧ c = .sbClockTimeout ∧ o = .timeout) ∨ (fl.begun = true ∧ c = .sbBusError ∧ o = .busError) ∨
        (fl.begun = true ∧ (∃ micros, micros < 30000 ∧ 15000 < fl.stretchSum + micros ∧ c = .sbStretchLimit micros) ∧ o = .stretch) ∨
        (fl.begun = false ∧ c = .sbRecoveryAbandoned ∧ o = .timeout)) →
      (fl.discarded = true → u = s) → (fl.discarded = false → u = s.applyReading (pollSource fl.entry) (.bad o)) →
      (s.temps.sweepList = [] → next = { u.temps with sweeping := false, flight := none, recoveryDue := true }) →
      (∀ n rest, s.temps.sweepList = n :: rest → next = { u.temps with
        sweepList := rest, recoveryDue := true
        flight := some { entry := n, begun := false, contents := s.temps.poll[n], discarded := false, stretchSum := 0 } }) →
      ∃ (e : SbEnd) (n : Nat) (wire : List SbSignal) (levels : List SbLevel),
        exec c s = .next { u with temps := { next with wire := wire }, freeCount := s.freeCount + 1 } ∧
        wire.getLast? = some .release ∧
        levels = driven (if fl.begun then fl.contents.signals e else recoverySignals) ∧
        driven wire = levels.take n ++ [{ clk := true, dat := true, micros := none }] ∧
        (n ≠ 0 → ∃ l, levels[n - 1]? = some l ∧ l.clk = true) ∧
        (c ≠ .sbBusError → n = 0 ∧ fl.begun = true ∨ 2 ≤ n ∧ ∃ l, levels[n - 2]? = some l ∧ l.clk = false)) ∧
    (∀ micros, micros < 30000 → fl.begun = true → fl.stretchSum + micros ≤ 15000 →
      exec (.sbStretchLimit micros) s = .next { s with temps := { s.temps with
        flight := some { fl with stretchSum := fl.stretchSum + micros } } }) ∧
    (fl.begun = false → exec .sbRecoveryDone s = .next { s with temps := { s.temps with
      recoveryDue := false
      wire := [.pulse, .pulse, .pulse, .pulse, .pulse, .pulse, .pulse, .pulse, .pulse, .stop]
      flight := some { fl with begun := true, contents := s.temps.poll[fl.entry], stretchSum := 0 } } }))

/-- The trip comparator watches its own channel's pin: RELEASED with a code at or below its threshold it becomes TRIPPED and
trips the part, unless that is TRIPPED already; TRIPPED with a code at or above the threshold plus 64 it releases; in between
it keeps its state, as it does when another pin moves. SET_TRIP_COMPARATOR is refused in TRIPPED and
beyond its ranges; taken, it judges the code afresh as from RELEASED. READ_TRIP_COMPARATOR reports the settings, the state
and the comparator's own code of the channel. That both events carry a pin and its new code is the model's choice
(notes/assumptions/7.md). -/
def Obligations.TripComparatorEventsAndCommands : Prop :=
  (∀ (s : State) (ch : Channel) (code : BitVec 12) (c : Instr), s.resetAsserted = false →
    c = .comparatorTrip ⟨ch, code⟩ ∨ c = .comparatorRelease ⟨ch, code⟩ →
    (ch ≠ s.temps.comparator.channel → s.CtlOk → exec c s = .next { s with temps := { s.temps with
      pinCode := s.temps.pinCode.set ch.idx code } }) ∧
    (ch = s.temps.comparator.channel →
    (s.temps.comparator.state = .released → code.toNat ≤ s.temps.comparator.threshold → s.ctl.op ≠ .tripped →
      ∃ t, exec c s = .next t ∧
        t.temps = { s.temps with
          pinCode := s.temps.pinCode.set ch.idx code
          comparator := { s.temps.comparator with state := .tripped } } ∧
        t.ctl = { s.ctl with op := .tripped, runOn := none, lastTrip := .comparator } ∧
        t.light.safety = 0 ∧ t.light.lightEn = false ∧ t.light.applied = 0 ∧
        (∀ f : FanId, (s.fan f).DrivenFullTo (t.fan f)) ∧
        t.motion.queue = [] ∧ t.motion.executing = none ∧ t.motion.blankHold = false ∧ t.chan.flag .trip = true ∧
        t.grid = s.grid ∧ t.stats = s.stats ∧ t.zoneCtl = s.zoneCtl ∧ t.warp.active = s.warp.active ∧
        t.motion.presets = s.motion.presets ∧ t.chan.entries = s.chan.entries) ∧
    (s.temps.comparator.state = .released → code.toNat ≤ s.temps.comparator.threshold → s.ctl.op = .tripped →
      exec c s = .next { s with temps := { s.temps with
        pinCode := s.temps.pinCode.set ch.idx code, comparator := { s.temps.comparator with state := .tripped } } }) ∧
    ((s.temps.comparator.state = .tripped ∧ s.temps.comparator.threshold + 64 ≤ code.toNat) →
      exec c s = .next { s with temps := { s.temps with
        pinCode := s.temps.pinCode.set ch.idx code
        comparator := { s.temps.comparator with state := .released } } }) ∧
    ((s.temps.comparator.state = .released ∧ s.temps.comparator.threshold < code.toNat) ∨
        (s.temps.comparator.state = .tripped ∧ code.toNat < s.temps.comparator.threshold + 64) →
      exec c s = .next { s with temps := { s.temps with pinCode := s.temps.pinCode.set ch.idx code } }))) ∧
  (∀ (s : State) (tag channel : Byte) (threshold : BitVec 16), s.takes →
    (s.ctl.op = .tripped →
      exec (.setTripComparator tag channel threshold) s = .next (s.onlyAnswered tag .refusedState [])) ∧
    (s.ctl.op ≠ .tripped → (4 ≤ channel.toNat ∨ 4031 < threshold.toNat) →
      exec (.setTripComparator tag channel threshold) s = .next (s.onlyAnswered tag .refusedRange [])) ∧
    (∀ ch : Channel, s.ctl.op ≠ .tripped → channel.toNat = ch.code → threshold.toNat ≤ 4031 →
      (threshold.toNat < (s.temps.pinCode[ch.idx]).toNat →
        exec (.setTripComparator tag channel threshold) s = .next { s with
          temps := { s.temps with comparator := { channel := ch, threshold := threshold.toNat, state := .released } }
          chan := s.answered tag .ok [] }) ∧
      ((s.temps.pinCode[ch.idx]).toNat ≤ threshold.toNat →
        ∃ t, exec (.setTripComparator tag channel threshold) s = .next t ∧
          t.temps = { s.temps with comparator := { channel := ch, threshold := threshold.toNat, state := .tripped } } ∧
          t.ctl = { s.ctl with op := .tripped, runOn := none, lastTrip := .comparator } ∧
          (∀ f : FanId, (s.fan f).DrivenFullTo (t.fan f)) ∧
          t.chan.flag .trip = true ∧ t.chan.entries = s.chan.entries ++ [{ tag := tag, reply := { result := .ok, data := [] } }])) ∧
    exec (.readTripComparator tag) s = .next (s.onlyAnswered tag .ok (byte s.temps.comparator.channel.code ++
      be16 s.temps.comparator.threshold ++ byte s.temps.comparator.state.code ++
      be16 (s.temps.pinCode[s.temps.comparator.channel.idx]).toNat)))

/-- WRITE_POLL takes its five fields, returns the source's record to UNREAD, takes the entry off the sweep list and
discards a read in flight; READ_POLL reads an entry back. ASSIGN_SOURCE moves a source to a zone or to none and keeps the
rest of its record; READ_SOURCE reports the record, with the table of a thermistor channel. That the table byte of a poll entry's source
is open (notes/assumptions/10.md), that an entry still waiting for a recovery is discarded too (notes/assumptions/16.md) and
that yes is sent as 1 (notes/assumptions/25.md) are the model's choices. -/
def Obligations.PollAndSourceCommands : Prop :=
  (∀ (s : State) (tag entry enable address register fraction pec : Byte), s.takes →
    ((8 ≤ entry.toNat ∨ address.toNat < 0x08 ∨ 0x77 < address.toNat ∨ 8 < fraction.toNat) →
      exec (.writePoll tag entry enable address register fraction pec) s = .next (s.onlyAnswered tag .refusedRange [])) ∧
    (8 ≤ entry.toNat → exec (.readPoll tag entry) s = .next (s.onlyAnswered tag .refusedRange [])) ∧
    (∀ n : Fin 8, entry.toNat = n.val →
      (0x08 ≤ address.toNat → address.toNat ≤ 0x77 → fraction.toNat ≤ 8 →
        exec (.writePoll tag entry enable address register fraction pec) s = .next { s with
          temps := { s.temps with
            poll := s.temps.poll.set n
              { enable := decide (enable ≠ 0), address := address.toNat, register := register.toNat
                fraction := fraction.toNat, pec := decide (pec ≠ 0) }
            sources := s.temps.sources.set (pollSource n)
              { state := .unread, lastGood := none, failures := 0, goods := 0, lastOutcome := .notRead
                zone := (s.source (pollSource n)).zone }
            sweepList := s.temps.sweepList.filter fun m => decide (m ≠ n)
            flight := s.temps.flight.map fun fl => if fl.entry = n then { fl with discarded := true } else fl }
          chan := s.answered tag .ok [] }) ∧
      exec (.readPoll tag entry) s = .next (s.onlyAnswered tag .ok
        [if (s.temps.poll[n]).enable then 1 else 0, BitVec.ofNat 8 (s.temps.poll[n]).address,
          BitVec.ofNat 8 (s.temps.poll[n]).register, BitVec.ofNat 8 (s.temps.poll[n]).fraction,
          if (s.temps.poll[n]).pec then 1 else 0]))) ∧
  (∀ (s : State) (tag source zone : Byte), s.takes →
    ((12 ≤ source.toNat ∨ (3 ≤ zone.toNat ∧ zone ≠ 0xFF)) →
      exec (.assignSource tag source zone) s = .next (s.onlyAnswered tag .refusedRange [])) ∧
    (12 ≤ source.toNat → exec (.readSource tag source) s = .next (s.onlyAnswered tag .refusedRange [])) ∧
    (∀ (n : Fin 12) (record : List Byte), source.toNat = n.val →
      (∀ z : Option ZoneId,
        (zone = 0xFF ∧ z = none ∨ zone = 0 ∧ z = some .light ∨ zone = 1 ∧ z = some .panel ∨ zone = 2 ∧ z = some .air) →
        exec (.assignSource tag source zone) s = .next { s with
          temps := { s.temps with sources := s.temps.sources.set n { s.source n with zone := z } }
          chan := s.answered tag .ok [] }) ∧
      (record = [BitVec.ofNat 8 (s.source n).state.code, BitVec.ofNat 8 (s.source n).lastOutcome.code,
          BitVec.ofNat 8 (s.source n).failures, BitVec.ofNat 8 (s.source n).goods] ++
          (match (s.source n).lastGood with
          | none => [0x80, 0x00]
          | some temp => wordBytes (BitVec.ofInt 16 temp)) ++
          (match (s.source n).zone with
          | none => [0xFF]
          | some z => [BitVec.ofNat 8 z.code]) →
        (∀ ch : Channel, n = ch.source → exec (.readSource tag source) s = .next (s.onlyAnswered tag .ok
          (record ++ [if s.temps.channelTable[ch.idx] = .a then 0 else 1]))) ∧
        (n.val < 8 → ∃ table, exec (.readSource tag source) s = .next
          { s.onlyAnswered tag .ok (record ++ [table]) with freeCount := s.freeCount + 1 }))))

/-- WRITE_CHANNEL puts a channel on the other table, returning its record to UNREAD and discarding a conversion in
progress; READ_THERMISTOR_TABLE reads an entry of the table in use. WRITE_THERMISTOR_TABLE loads a table in two parts: a
good first part is staged, a good second part after a first part of the same letter installs all seventeen values;
REFUSED_RANGE empties the staging record, REFUSED_STATE keeps it. The clauses on lists of the wrong length are the model's
choice (notes/assumptions/24.md). -/
def Obligations.ThermistorTableCommands : Prop :=
  (∀ (s : State) (tag channel table entry : Byte), s.takes →
    ((4 ≤ channel.toNat ∨ 2 ≤ table.toNat) →
      exec (.writeChannel tag channel table) s = .next (s.onlyAnswered tag .refusedRange [])) ∧
    ((2 ≤ table.toNat ∨ 17 ≤ entry.toNat) →
      exec (.readThermistorTable tag table entry) s = .next (s.onlyAnswered tag .refusedRange [])) ∧
    (∀ letter : TableId, table.toNat = letter.code →
      (∀ ch : Channel, channel.toNat = ch.code →
        (s.temps.channelTable[ch.idx] = letter →
          exec (.writeChannel tag channel table) s = .next (s.onlyAnswered tag .ok [])) ∧
        (s.temps.channelTable[ch.idx] ≠ letter →
          exec (.writeChannel tag channel table) s = .next { s with
            temps := { s.temps with
              channelTable := s.temps.channelTable.set ch.idx letter
              discardConversion := s.temps.discardConversion || decide (s.temps.converting = some ch)
              sources := s.temps.sources.set ch.source
                { state := .unread, lastGood := none, failures := 0, goods := 0, lastOutcome := .notRead
                  zone := (s.source ch.source).zone } }
            chan := s.answered tag .ok [] })) ∧
      (∀ k : Fin 17, entry.toNat = k.val →
        exec (.readThermistorTable tag table entry) s = .next (s.onlyAnswered tag .ok
          (wordBytes (BitVec.ofInt 16 (if letter = .a then s.temps.tableA[k] else s.temps.tableB[k]))))))) ∧
  (∀ (s : State) (tag table : Byte) (values : List (BitVec 16)) (temps : List Int), s.takes →
    temps = values.map (fun v => v.toInt) →
    (values.length ≠ 9 →
      exec (.writeThermistorTableFirst tag table values) s = .next (s.onlyAnswered tag .badLength [])) ∧
    (values.length ≠ 8 →
      exec (.writeThermistorTableSecond tag table values) s = .next (s.onlyAnswered tag .badLength [])) ∧
    (values.length = 9 →
      ((2 ≤ table.toNat ∨ ¬tableOk temps) →
        exec (.writeThermistorTableFirst tag table values) s = .next { s with
          temps := { s.temps with staging := none }, chan := s.answered tag .refusedRange [] }) ∧
      (∀ letter : TableId, table.toNat = letter.code → tableOk temps →
        exec (.writeThermistorTableFirst tag table values) s = .next { s with
          temps := { s.temps with staging := some { table := letter, values := temps } }, chan := s.answered tag .ok [] })) ∧
    (values.length = 8 →
      (2 ≤ table.toNat → exec (.writeThermistorTableSecond tag table values) s = .next { s with
        temps := { s.temps with staging := none }, chan := s.answered tag .refusedRange [] }) ∧
      (∀ letter : TableId, table.toNat = letter.code →
        ((∀ st ∈ s.temps.staging, st.table ≠ letter) →
          exec (.writeThermistorTableSecond tag table values) s = .next (s.onlyAnswered tag .refusedState [])) ∧
        (∀ st, s.temps.staging = some st → st.table = letter → st.values.length = 9 →
          (¬tableOk (st.values.drop 8 ++ temps) →
            (∀ t ∈ st.values, plausible t = true) →
            exec (.writeThermistorTableSecond tag table values) s = .next { s with
              temps := { s.temps with staging := none }, chan := s.answered tag .refusedRange [] }) ∧
          (tableOk (st.values ++ temps) → ∃ tab : Vector Int 17, tab.toList = st.values ++ temps ∧
            exec (.writeThermistorTableSecond tag table values) s = .next { s with
              temps := (match letter with
                | .a => { s.temps with tableA := tab, staging := none }
                | .b => { s.temps with tableB := tab, staging := none })
              chan := s.answered tag .ok [] })))))

/-! ### Zones and fans at a control tick (chapter 5) -/

/-- A control tick forms each zone's temperature as the largest last good value of its OK sources and its demand from it:
regulated in LIT, COOLDOWN and TRIPPED, 1023 where the zone is blind, guard cooling in STANDBY. That the zones are formed
before the other blocks' work at the tick is the model's choice (notes/assumptions/11.md). -/
def Obligations.ControlTickFormsZoneDemands : Prop :=
  ∀ (s : State) (z : ZoneId) (x : Zone) (temp : Option Int) (B : Nat) (A : Int), s.resetAsserted = false → x = s.zone z →
    (temp = none ∧ (∀ (n : Fin 12) (v : Int),
        ¬((s.source n).zone = some z ∧ (s.source n).state = .ok ∧ (s.source n).lastGood = some v)) ∨
      ∃ T, temp = some T ∧
        (∃ n : Fin 12, (s.source n).zone = some z ∧ (s.source n).state = .ok ∧ (s.source n).lastGood = some T) ∧
        ∀ (n : Fin 12) (v : Int), (s.source n).zone = some z → (s.source n).state = .ok → (s.source n).lastGood = some v → v ≤ T) →
    B = (match x.basis with
      | .lightLevel => s.light.applied
      | .dumpLoad => s.light.applied * (1023 - s.stats.feedForward) / 1023
      | .noLoad => 0) →
    (∀ T, temp = some T → A =
      if 0 < T - x.setpoint ∧ ∀ f ∈ FanId.all, inMask x.mask f = true → (s.fan f).atCeiling = true then (x.acc : Int)
      else max 0 (min (x.acc + x.ki * (T - x.setpoint)) 261888)) →
    ∃ t, exec .controlTick s = .next t ∧ t.zoneCtl.mode = s.ctl.acoustic ∧
      (t.zone z).temp = temp ∧ (t.zone z).blind = temp.isNone ∧
      (x.blind = false → temp = none → t.chan.flag .zoneBlind = true) ∧
      (s.ctl.op = .standby → (t.zone z).acc = x.acc ∧ (t.zone z).demand =
        match temp with
        | none => .guard
        | some T => if x.guard < T then .guard else .duty 0) ∧
      (s.ctl.op ≠ .standby → temp = none → (t.zone z).demand = .duty 1023 ∧
        (t.ctl.op ≠ .standby → (t.zone z).acc = x.acc)) ∧
      (∀ T, s.ctl.op ≠ .standby → temp = some T →
        (t.zone z).demand = .duty (max 0 (min ((x.kff * B / 4096 : Nat) + (x.kp * (T - x.setpoint) + 128) / 256 + A / 256) 1023)).toNat ∧
        (t.ctl.op ≠ .standby → ((t.zone z).acc : Int) = A)) ∧
      (t.zone z).setpoint = x.setpoint ∧ (t.zone z).derate = x.derate ∧ (t.zone z).trip = x.trip ∧
      (t.zone z).runOn = x.runOn ∧ (t.zone z).guard = x.guard ∧ (t.zone z).mask = x.mask ∧
      (t.zone z).kp = x.kp ∧ (t.zone z).ki = x.ki ∧ (t.zone z).kff = x.kff ∧ (t.zone z).basis = x.basis

/-- A control tick lowers the derate ceiling by 64 while a seen zone stands at its derate threshold with its fans all at
their ceilings, and raises it by 64 while every zone is 32 below; it forms THERMAL afresh; and a seen zone at its trip
threshold trips the part, the first such zone giving the cause. The order of the
blocks within the tick is the model's choice (notes/assumptions/11.md). -/
def Obligations.ControlTickDeratesAndTrips : Prop :=
  ∀ (s t : State) (derates recovers : Prop), s.resetAsserted = false → exec .controlTick s = .next t →
    (derates ↔ ∃ (z : ZoneId) (T : Int), (t.zone z).temp = some T ∧ (s.zone z).derate ≤ T ∧
      ∀ f : FanId, inMask (s.zone z).mask f = true → (s.fan f).atCeiling = true) →
    (recovers ↔ ∀ z : ZoneId, ∃ T, (t.zone z).temp = some T ∧ T < (s.zone z).derate - 32) →
    (derates → t.zoneCtl.ceiling = max (s.zoneCtl.ceiling - 64) 1024 ∧
      (s.zoneCtl.ceiling = 4095 → t.chan.flag .derate = true)) ∧
    (¬derates → recovers → t.zoneCtl.ceiling = min (s.zoneCtl.ceiling + 64) 4095) ∧
    (¬derates → ¬recovers → t.zoneCtl.ceiling = s.zoneCtl.ceiling) ∧
    t.light.thermal = t.thermalCeiling ∧
    (s.ctl.op ≠ .tripped → ∀ z : ZoneId, (∃ T, (t.zone z).temp = some T ∧ (s.zone z).trip ≤ T) →
      (∀ y : ZoneId, y.code < z.code → ∀ T, (t.zone y).temp = some T → T < (s.zone y).trip) →
      t.ctl.op = .tripped ∧ t.ctl.lastTrip = .zone z ∧ t.chan.flag .trip = true ∧ t.light.lightEn = false ∧
      t.light.applied = 0) ∧
    (s.ctl.op = .tripped → t.ctl.op = .tripped ∧ t.ctl.lastTrip = s.ctl.lastTrip)

/-- A control tick forms each fan's requested duty, ceiling in force and at-ceiling flag from the demands of the zones
that it serves, and drives every fan at full in TRIPPED: OFF and PAUSE go to KICK at 1023, KICK goes on, RUNNING takes 1023,
FAILED stays. The order of the blocks within the tick is the model's choice
(notes/assumptions/11.md). -/
def Obligations.ControlTickDrivesFans : Prop :=
  ∀ (s t : State) (f : FanId) (x : Fan) (largest ceiling : Nat), s.resetAsserted = false → exec .controlTick s = .next t →
    x = s.fan f →
    (t.ctl.op = .tripped → x.DrivenFullTo (t.fan f)) ∧
    (s.ctl.op ≠ .tripped → t.ctl.op ≠ .tripped →
      largest = ((ZoneId.all.filter fun z => inMask (s.zone z).mask f).map fun z =>
        match (t.zone z).demand with
        | .duty d => d
        | .guard => x.minDuty).foldl max 0 →
      ceiling =
        (if (s.fan .f1).state = .failed ∨ (s.fan .f2).state = .failed ∨
            ∃ z ∈ ZoneId.all, inMask (s.zone z).mask f = true ∧ (t.zone z).blind = true then 1023
        else match s.ctl.acoustic with
          | .quiet => x.quiet
          | .standard => x.standard
          | .highAltitude => x.high) →
      x.FormedFrom (t.fan f) largest ceiling)

/-- RUN_ON_ELAPSED_LIMIT takes a running run-on elapsed to 60,000 ms at once (the model's choice, notes/assumptions/1.md). A
control tick starts a thermistor scan with C0 and, unless one is in progress, a sensor sweep of the enabled entries
in ascending order; and in COOLDOWN it ends a run-on whose elapsed has reached its limit, every zone seen and cooled, the
lens at rest and no request left. It judges again each leg start of the executing request that waits for the rail, by the
fan duties that it has formed: an allowed one starts in that tick; one that finds an end-stop active ends the request ENDSTOP, the axis stopped abruptly; one not allowed
stays held while another axis of the request is in motion, and otherwise waits in WAIT_RAIL; of two, the pair is
judged first and V alone second. The clause on one allowed or held start is for another axis whose work is not owed, the
ENDSTOP clause for one without work left, and the clause on two starts for two that both begin a leg: other starts judged while
the other axis's work is owed, and an approach leg of distance 0, are left out here. That the owed mark of an approach leg goes
at its grant is the model's reading (notes/assumptions/15.md). The order of the blocks within the tick, and that the scan restarts
at C0 even in mid-scan, are the model's choices (notes/assumptions/11.md, notes/assumptions/27.md). -/
def Obligations.ControlTickStartsSweepAndEndsRunOn : Prop :=
  ∀ (s : State) (ready : Prop) (entries : List (Fin 8)), s.resetAsserted = false →
    entries = (List.finRange 8).filter (fun n => (s.temps.poll[n]).enable) →
    exec .runOnElapsedLimit s = .next { s with ctl := { s.ctl with runOn := s.ctl.runOn.map fun _ => 60000 } } ∧
    ∃ t, exec .controlTick s = .next t ∧
      t.temps.converting = some .c0 ∧ t.temps.discardConversion = false ∧
      (s.temps.sweeping = true → t.temps.flight = s.temps.flight ∧ t.temps.sweepList = s.temps.sweepList) ∧
      (s.temps.sweeping = false → entries = [] → t.temps.sweeping = false ∧ t.temps.flight = none) ∧
      (∀ n rest, s.temps.sweeping = false → entries = n :: rest →
        t.temps.sweeping = true ∧ t.temps.sweepList = rest ∧ t.temps.flight = some
          { entry := n, begun := !s.temps.recoveryDue, contents := s.temps.poll[n], discarded := false, stretchSum := 0 }) ∧
      ((ready ↔ (∃ n ∈ s.ctl.runOn, 60000 ≤ n) ∧ (∀ z : ZoneId, ∃ T, (t.zone z).temp = some T ∧ T ≤ (s.zone z).runOn) ∧
          s.axisH.inMotion = false ∧ s.axisV.inMotion = false ∧ s.motion.queue = [] ∧ s.motion.executing = none) →
        s.ctl.op = .cooldown → (∀ (z : ZoneId) (T : Int), (t.zone z).temp = some T → T < (s.zone z).trip) →
        (ready → t.ctl = { s.ctl with op := .standby, runOn := none } ∧ t.chan.flag .cooldownDone = true ∧
          (∀ z : ZoneId, (t.zone z).acc = 0) ∧ t.axisH.state = .off ∧ t.axisV.state = .off ∧
          t.axisH.position = s.axisH.position ∧ t.axisV.position = s.axisV.position) ∧
        (¬ready → t.ctl = s.ctl)) ∧
      (∀ (x : Executing) (draw : Nat), s.motion.executing = some x → s.ctl.op = .lit ∨ s.ctl.op = .cooldown →
        x.req.stopReq = false → x.req.phase ≠ .switching →
        (∀ (z : ZoneId) (T : Int), (t.zone z).temp = some T → T < (s.zone z).trip) →
        draw = (t.fan .f0).applied * (t.fan .f0).current / 1023 + (t.fan .f1).applied * (t.fan .f1).current / 1023
          + (t.fan .f2).applied * (t.fan .f2).current / 1023 →
        (∀ (a : AxisId) (y : Axis) (moving : Nat), s.BeginsLeg x a y → x.work (otherAxis a) ≠ .owed →
          (x.work (otherAxis a) = .active → (s.axis (otherAxis a)).state = .approach → (s.axis (otherAxis a)).leg ≠ none) →
          moving = (if (s.axis (otherAxis a)).inMotion then (s.axis (otherAxis a)).current else 0) →
          (draw + moving + (s.axis a).current ≤ s.ctl.budget →
            t.axis a = y ∧ t.axis (otherAxis a) = s.axis (otherAxis a) ∧
            t.motion = { s.motion with executing := some ((x.setWork a .active).setPhase .running), railTimer := none }) ∧
          (s.ctl.budget < draw + moving + (s.axis a).current → t.axisH = s.axisH ∧ t.axisV = s.axisV ∧
            t.motion = (if x.work (otherAxis a) = .active ∧ (s.axis (otherAxis a)).inMotion = true then
                { s.motion with executing := some (x.setPhase .running), railTimer := none }
              else if x.req.phase = .waitRail then s.motion
              else { s.motion with executing := some (x.setPhase .waitRail), railTimer := some 10000 }))) ∧
        (∀ (a : AxisId) (z : Axis) (moving : Nat), s.MeetsEndstop x a z →
          x.work (otherAxis a) = .unused ∨ x.work (otherAxis a) = .finished →
          moving = (if (s.axis (otherAxis a)).inMotion then (s.axis (otherAxis a)).current else 0) →
          s.motion.queue = [] → draw + moving + (s.axis a).current ≤ s.ctl.budget →
          t.axis a = z ∧ t.axis (otherAxis a) = s.axis (otherAxis a) ∧ t.chan.flag .endstop = true ∧
          t.chan.flag .motionDone = true ∧ t.motion = { s.motion with
            executing := none, railTimer := none, blankHold := false
            history := (⟨x.req.tag, x.req.job.kind, .endstop, s.axisH.position, s.axisV.position⟩ :: s.motion.history).take 8 }) ∧
        (∀ (yH yV : Axis), s.BeginsLeg x .h yH → s.BeginsLeg x .v yV →
          (draw + (s.axisH.current + s.axisV.current) ≤ s.ctl.budget → t.axisH = yH ∧ t.axisV = yV ∧
            t.motion = { s.motion with
              executing := some (((x.setWork .h .active).setWork .v .active).setPhase .running), railTimer := none }) ∧
          (s.ctl.budget < draw + (s.axisH.current + s.axisV.current) →
            (draw + s.axisV.current ≤ s.ctl.budget → t.axisH = s.axisH ∧ t.axisV = yV ∧
              t.motion = { s.motion with
                executing := some { (x.setWork .v .active).setPhase .running with
                  inSequence := x.inSequence || decide (x.hWork = .owed) }
                railTimer := none }) ∧
            (s.ctl.budget < draw + s.axisV.current → t.axisH = s.axisH ∧ t.axisV = s.axisV ∧
              t.motion = (if x.req.phase = .waitRail then s.motion
                else { s.motion with executing := some (x.setPhase .waitRail), railTimer := some 10000 })))))

/-- WRITE_ZONE takes a whole set of parameters or none; READ_ZONE reports the record page by page; SET_THERMAL_LIMITS takes
two caps and forms THERMAL afresh at once. Yes is sent as 1 (the model's reading, notes/assumptions/25.md). -/
def Obligations.ZoneCommands : Prop :=
  ∀ (s : State) (tag zone : Byte) (sp de tr ro gu kp : BitVec 16) (ki : Byte) (kff : BitVec 16) (basis mask : Byte)
    (blindCap lossCap : BitVec 16), s.takes →
    ((3 ≤ zone.toNat ∨ (∃ v ∈ [sp, de, tr, ro, gu], v.toInt < -640 ∨ 2400 < v.toInt) ∨ de.toInt ≤ sp.toInt ∨
        tr.toInt ≤ de.toInt ∨ 4095 < kp.toNat ∨ 4095 < kff.toNat ∨ 3 ≤ basis.toNat ∨ 8 ≤ mask.toNat) →
      exec (.writeZone tag zone sp de tr ro gu kp ki kff basis mask) s = .next (s.onlyAnswered tag .refusedRange [])) ∧
    (3 ≤ zone.toNat → ∀ page, exec (.readZone tag zone page) s = .next (s.onlyAnswered tag .refusedRange [])) ∧
    (∀ z : ZoneId, zone.toNat = z.code →
      (∀ b : LoadBasis, basis.toNat = b.code → (∀ v ∈ [sp, de, tr, ro, gu], -640 ≤ v.toInt ∧ v.toInt ≤ 2400) →
        sp.toInt < de.toInt → de.toInt < tr.toInt → kp.toNat ≤ 4095 → kff.toNat ≤ 4095 → mask.toNat < 8 →
        exec (.writeZone tag zone sp de tr ro gu kp ki kff basis mask) s = .next { s.setZone z { s.zone z with
          setpoint := sp.toInt, derate := de.toInt, trip := tr.toInt, runOn := ro.toInt, guard := gu.toInt, kp := kp.toNat
          ki := ki.toNat, kff := kff.toNat, basis := b, mask := mask.setWidth 3 } with chan := s.answered tag .ok [] }) ∧
      exec (.readZone tag zone 0) s = .next (s.onlyAnswered tag .ok (beSigned16 (s.zone z).setpoint ++
        beSigned16 (s.zone z).derate ++ beSigned16 (s.zone z).trip ++ beSigned16 (s.zone z).runOn)) ∧
      exec (.readZone tag zone 1) s = .next (s.onlyAnswered tag .ok (beSigned16 (s.zone z).guard ++ be16 (s.zone z).kp ++
        be16 (s.zone z).kff ++ byte (s.zone z).ki ++ byte (s.zone z).basis.code)) ∧
      exec (.readZone tag zone 2) s = .next (s.onlyAnswered tag .ok (byte (s.zone z).mask.toNat ++ flagByte (s.zone z).blind ++
        be24 (s.zone z).acc ++ tempBytes (s.zone z).temp ++ [0])) ∧
      exec (.readZone tag zone 3) s = .next (s.onlyAnswered tag .ok ((match (s.zone z).demand with
          | .duty d => be16 d
          | .guard => [0xFF, 0xFF]) ++ be16 ((s.zone z).acc / 256) ++ [0, 0, 0, 0]))) ∧
    ((4095 < blindCap.toNat ∨ 4095 < lossCap.toNat) →
      exec (.setThermalLimits tag blindCap lossCap) s = .next (s.onlyAnswered tag .refusedRange [])) ∧
    (blindCap.toNat ≤ 4095 → lossCap.toNat ≤ 4095 → s.light.applied ≤ s.light.safety → s.light.applied ≤ s.light.motion →
      ∃ light, exec (.setThermalLimits tag blindCap lossCap) s = .next { s with
          zoneCtl := { s.zoneCtl with blindCap := blindCap.toNat, lossCap := lossCap.toNat }
          light := light, chan := s.answered tag .ok [] } ∧
        (∀ c, c = (if ∃ z ∈ ZoneId.all, (s.zone z).blind = true then min s.zoneCtl.ceiling blindCap.toNat else s.zoneCtl.ceiling) →
          light.thermal = if (s.fan .f1).state = .failed ∨ (s.fan .f2).state = .failed then min c lossCap.toNat else c) ∧
        light.target = min (min s.light.safety s.light.motion) (min light.thermal s.light.user) ∧
        light.applied = s.light.applied ∧ light.safety = s.light.safety ∧ light.motion = s.light.motion ∧
        light.user = s.light.user)

/-- The fans' timers: the kick ends in RUNNING or OFF, the pause in KICK or OFF, ten seconds of running clear the retry
count; a stall sets FAN_FAULT and leads to PAUSE, to KICK in TRIPPED, and with three retries behind it to FAILED, which
trips the part from LIT on F0 and brings the loss cap on F1 and F2. That an expiry acts when it comes, whatever its timer shows,
is the model's choice (notes/assumptions/1.md). -/
def Obligations.FanTimersAndStalls : Prop :=
  ∀ (s : State) (f : FanId) (x off kick : Fan), s.resetAsserted = false → x = s.fan f →
    off = { x with
      state := .off, applied := 0, pwmBuffer := 0, kickTimer := none, stallTimer := none, pauseTimer := none, clearTimer := none } →
    kick = { x with
      state := .kick, applied := 1023, pwmBuffer := 1023, kickTimer := some 400, stallTimer := some 1000, pauseTimer := none
      clearTimer := none } →
    (x.state = .kick → x.requested = 0 → exec (.kickTimerExpiry f) s = .next (s.setFan f off)) ∧
    (x.state = .kick → x.requested ≠ 0 → exec (.kickTimerExpiry f) s = .next (s.setFan f { x with
      state := .running, applied := x.requested, pwmBuffer := x.requested, kickTimer := none, clearTimer := some 10000 })) ∧
    (x.state = .pause → x.requested = 0 → exec (.pauseTimerExpiry f) s = .next (s.setFan f off)) ∧
    (x.state = .pause → x.requested ≠ 0 → exec (.pauseTimerExpiry f) s = .next (s.setFan f kick)) ∧
    (x.state = .running → exec (.retryClearTimerExpiry f) s = .next (s.setFan f { x with retry := 0, clearTimer := none })) ∧
    (x.state = .kick ∨ x.state = .running →
      (x.retry < 3 → s.ctl.op ≠ .tripped → exec (.stallTimerExpiry f) s = .next { s.setFan f { x with
          state := .pause, applied := 0, pwmBuffer := 0, retry := x.retry + 1, kickTimer := none, stallTimer := none
          pauseTimer := some 2000, clearTimer := none } with chan := { s.chan with flags := s.chan.flags ||| 0x040 } }) ∧
      (x.retry < 3 → s.ctl.op = .tripped → exec (.stallTimerExpiry f) s = .next { s.setFan f { kick with
          retry := x.retry + 1 } with chan := { s.chan with flags := s.chan.flags ||| 0x040 } }) ∧
      (x.retry = 3 → ∃ t, exec (.stallTimerExpiry f) s = .next t ∧
        (t.fan f).state = .failed ∧ (t.fan f).applied = 0 ∧ (t.fan f).atCeiling = true ∧ (t.fan f).retry = 3 ∧
        (t.fan f).kickTimer = none ∧ (t.fan f).stallTimer = none ∧ (t.fan f).pauseTimer = none ∧ (t.fan f).clearTimer = none ∧
        t.chan.flag .fanFault = true ∧
        (f = .f0 → s.ctl.op = .lit → t.ctl = { s.ctl with op := .tripped, runOn := none, lastTrip := .fanLoss } ∧
          t.chan.flag .trip = true ∧ t.light.lightEn = false) ∧
        (f = .f0 → s.ctl.op ≠ .lit → t.ctl = s.ctl ∧ t.light = s.light) ∧
        (f ≠ .f0 → t.ctl = s.ctl ∧ t.light.thermal = t.thermalCeiling ∧ t.light.thermal ≤ s.zoneCtl.lossCap ∧
          t.light.target = min (min s.light.safety s.light.motion) (min t.light.thermal s.light.user))))

/-- A selected tach edge measures the speed from the selected edge before it, where that is within a second, and restarts a
running stall timer; an edge that is not selected changes nothing; a second without a selected edge discards the held edge
and the speed; WRITE_FAN, CLEAR_FAN and READ_FAN act on one fan's record. That the speed over an interval of 0 µs is open,
bounded and drawn (notes/assumptions/9.md), that a taken WRITE_FAN starts the measurement afresh (notes/assumptions/23.md)
and that yes is sent as 1 (notes/assumptions/25.md) are the model's choices. -/
def Obligations.TachometerAndFanCommands : Prop :=
  ∀ (s : State) (f : FanId) (x : Fan) (tag fan : Byte) (minDuty : BitVec 16) (mayStop : Byte) (quiet standard high : BitVec 16)
    (current edges edgeSel : Byte), x = s.fan f →
    (∀ (rise : Bool) (micros : Nat) (selected : Prop), s.resetAsserted = false →
      (selected ↔ x.edgeSel = .rising ∧ rise = true ∨ x.edgeSel = .falling ∧ rise = false ∨ x.edgeSel = .both) →
      (¬selected → exec (.tachEdge f ⟨rise, micros⟩) s = .next s) ∧
      (selected → x.edgeHeld = true → 1000000 < micros → 1 ≤ x.edges →
        exec (.tachEdge f ⟨rise, micros⟩) s = .next (s.setFan f { x with
          speed := 0, edgeHeld := true, stallTimer := x.stallTimer.map fun _ => 1000 })) ∧
      (selected → x.edgeHeld = false → exec (.tachEdge f ⟨rise, micros⟩) s = .next (s.setFan f { x with
        edgeHeld := true, stallTimer := x.stallTimer.map fun _ => 1000 })) ∧
      (selected → x.edgeHeld = true → 1 ≤ micros → micros ≤ 1000000 → 1 ≤ x.edges → exec (.tachEdge f ⟨rise, micros⟩) s = .next (s.setFan f { x with
        speed := 60000000 / (micros * x.edges), edgeHeld := true, stallTimer := x.stallTimer.map fun _ => 1000 })) ∧
      (selected → x.edgeHeld = true → micros = 0 → ∃ speed, speed ≤ 60000000 ∧ exec (.tachEdge f ⟨rise, micros⟩) s = .next { s.setFan f { x with
        speed := speed, edgeHeld := true, stallTimer := x.stallTimer.map fun _ => 1000 } with freeCount := s.freeCount + 1 }) ∧
      exec (.tachTimeout f) s = .next (s.setFan f { x with edgeHeld := false, speed := 0 })) ∧
    (s.takes → 3 ≤ fan.toNat →
      exec (.writeFan tag fan minDuty mayStop quiet standard high current edges edgeSel) s = .next (s.onlyAnswered tag .refusedRange []) ∧
      exec (.clearFan tag fan) s = .next (s.onlyAnswered tag .refusedRange []) ∧
      ∀ page, exec (.readFan tag fan page) s = .next (s.onlyAnswered tag .refusedRange [])) ∧
    (s.takes → fan.toNat = f.idx.val →
      (((∃ d ∈ [minDuty, quiet, standard, high], d.toNat = 0 ∨ 1023 < d.toNat) ∨
          (∃ d ∈ [quiet, standard, high], d.toNat < minDuty.toNat) ∨ edges.toNat = 0 ∨ 8 < edges.toNat ∨ 3 ≤ edgeSel.toNat) →
        exec (.writeFan tag fan minDuty mayStop quiet standard high current edges edgeSel) s = .next (s.onlyAnswered tag .refusedRange [])) ∧
      (∀ e : TachSelect, edgeSel.toNat = e.code → (∀ d ∈ [minDuty, quiet, standard, high], 1 ≤ d.toNat ∧ d.toNat ≤ 1023) →
        (∀ d ∈ [quiet, standard, high], minDuty.toNat ≤ d.toNat) → 1 ≤ edges.toNat → edges.toNat ≤ 8 →
        exec (.writeFan tag fan minDuty mayStop quiet standard high current edges edgeSel) s = .next { s.setFan f { x with
          minDuty := minDuty.toNat, mayStop := decide (mayStop ≠ 0), quiet := quiet.toNat, standard := standard.toNat
          high := high.toNat, current := current.toNat, edges := edges.toNat, edgeSel := e, edgeHeld := false
          speed := 0 } with chan := s.answered tag .ok [] }) ∧
      (x.state ≠ .failed → exec (.clearFan tag fan) s = .next (s.onlyAnswered tag .ok [])) ∧
      (x.state = .failed → ∃ light, exec (.clearFan tag fan) s = .next { s.setFan f
          (if s.ctl.op = .tripped then { x with
            state := .kick, retry := 0, requested := 1023, atCeiling := true, ceiling := 1023, applied := 1023, pwmBuffer := 1023
            kickTimer := some 400, stallTimer := some 1000, pauseTimer := none, clearTimer := none }
          else { x with state := .off, retry := 0, atCeiling := false }) with light := light, chan := s.answered tag .ok [] } ∧
        (s.LightOk → f = .f0 ∨ (f = .f1 ∧ (s.fan .f2).state = .failed) ∨ (f = .f2 ∧ (s.fan .f1).state = .failed) →
          light = s.light) ∧
        ((f = .f1 → (s.fan .f2).state ≠ .failed) → (f = .f2 → (s.fan .f1).state ≠ .failed) → f ≠ .f0 →
          s.light.applied ≤ s.light.safety → s.light.applied ≤ s.light.motion →
          light = { s.light with thermal := light.thermal, target := light.target, governing := light.governing } ∧
          light.thermal = (if ∃ z ∈ ZoneId.all, (s.zone z).blind = true then min s.zoneCtl.ceiling s.zoneCtl.blindCap else s.zoneCtl.ceiling) ∧
          light.target = min (min s.light.safety s.light.motion) (min light.thermal s.light.user))) ∧
      exec (.readFan tag fan 0) s = .next (s.onlyAnswered tag .ok (be16 x.minDuty ++ be16 x.quiet ++ be16 x.standard ++ be16 x.high)) ∧
      exec (.readFan tag fan 1) s = .next (s.onlyAnswered tag .ok (flagByte x.mayStop ++ byte x.current ++ byte x.edges ++
        byte x.edgeSel.code ++ [if f = .f0 then 0 else 1] ++ byte x.state.code ++ byte x.retry ++ flagByte x.atCeiling)) ∧
      exec (.readFan tag fan 2) s = .next (s.onlyAnswered tag .ok (be16 x.requested ++ be16 x.applied ++ be16 x.ceiling ++ [0, 0])) ∧
      exec (.readFan tag fan 3) s = .next (s.onlyAnswered tag .ok (be32 x.speed ++ [0, 0, 0, 0])))

/-! ### Operating states (chapter 6) -/

/-- LIGHT_ON is judged on blind zones, F0 and, in COOLDOWN, hot zones, and names the first condition that fails; taken, it
raises SAFETY and energises the axes. -/
def Obligations.LightOnIsJudged : Prop :=
  ∀ (s : State) (tag : Byte), s.takes →
    (s.ctl.op = .lit → exec (.lightOn tag) s = .next (s.onlyAnswered tag .ok [])) ∧
    (s.ctl.op = .tripped → exec (.lightOn tag) s = .next (s.onlyAnswered tag .refusedState [])) ∧
    (s.ctl.op = .standby ∨ s.ctl.op = .cooldown →
      (∀ z : ZoneId, (s.zone z).blind = true → (∀ y : ZoneId, y.code < z.code → (s.zone y).blind = false) →
        exec (.lightOn tag) s = .next (s.onlyAnswered tag .refusedHot [0, BitVec.ofNat 8 z.code])) ∧
      ((∀ z : ZoneId, (s.zone z).blind = false) →
        ((s.fan .f0).state = .failed → exec (.lightOn tag) s = .next (s.onlyAnswered tag .refusedHot [1, 0xFF])) ∧
        ((s.fan .f0).state ≠ .failed →
          (∀ z : ZoneId, s.ctl.op = .cooldown → (∃ T, (s.zone z).temp = some T ∧ (s.zone z).derate ≤ T) →
            (∀ y : ZoneId, y.code < z.code → ∀ T, (s.zone y).temp = some T → T < (s.zone y).derate) →
            exec (.lightOn tag) s = .next (s.onlyAnswered tag .refusedHot [2, BitVec.ofNat 8 z.code])) ∧
          ((s.ctl.op = .cooldown → ∀ (z : ZoneId) (T : Int), (s.zone z).temp = some T → T < (s.zone z).derate) →
            s.motion.queue = [] → s.light.applied ≤ s.light.motion → s.light.applied ≤ 4095 →
            ∃ light, exec (.lightOn tag) s = .next { s with
                ctl := { s.ctl with op := .lit, runOn := none }
                light := light
                axisH := if s.axisH.state = .off then { s.axisH with state := .idle } else s.axisH
                axisV := if s.axisV.state = .off then { s.axisV with state := .idle } else s.axisV
                chan := s.answered tag .ok [] } ∧
              light = { s.light with
                safety := 4095, lightEn := true, target := light.target, governing := light.governing } ∧
              light.target = min (min 4095 s.light.motion) (min s.light.thermal s.light.user)))))

/-- LIGHT_OFF takes a LIT part to COOLDOWN with the light out at once and the run-on started, and changes no other state;
CLEAR_TRIP takes a TRIPPED part there once the comparator is released, every zone is below its trip threshold by 32 and
F0 has not failed, and names the first condition that fails. The fans are then formed from what the last control tick
handed, with its masks and blind flags (the model's reading, notes/assumptions/18.md). -/
def Obligations.LightOffAndClearTrip : Prop :=
  ∀ (s : State) (tag : Byte), s.takes →
    (s.ctl.op ≠ .lit → exec (.lightOff tag) s = .next (s.onlyAnswered tag .ok [])) ∧
    (s.ctl.op = .lit → ∃ t, exec (.lightOff tag) s = .next t ∧
      t.ctl = { s.ctl with op := .cooldown, runOn := some 0 } ∧ t.light.safety = 0 ∧ t.light.lightEn = false ∧
      t.light.applied = 0 ∧ t.motion.blankHold = false ∧ t.zoneCtl = s.zoneCtl ∧ t.fanDrv = s.fanDrv ∧
      t.chan.entries = s.chan.entries ++ [{ tag := tag, reply := { result := .ok, data := [] } }]) ∧
    (s.ctl.op ≠ .tripped → exec (.clearTrip tag) s = .next (s.onlyAnswered tag .ok [])) ∧
    (s.ctl.op = .tripped →
      (s.temps.comparator.state = .tripped → exec (.clearTrip tag) s = .next (s.onlyAnswered tag .refusedHot [3, 0xFF])) ∧
      (s.temps.comparator.state = .released →
        (∀ z : ZoneId, (∃ T, (s.zone z).temp = some T ∧ (s.zone z).trip - 32 ≤ T) →
          (∀ y : ZoneId, y.code < z.code → ∀ T, (s.zone y).temp = some T → T < (s.zone y).trip - 32) →
          exec (.clearTrip tag) s = .next (s.onlyAnswered tag .refusedHot [2, BitVec.ofNat 8 z.code])) ∧
        ((∀ (z : ZoneId) (T : Int), (s.zone z).temp = some T → T < (s.zone z).trip - 32) →
          ((s.fan .f0).state = .failed → exec (.clearTrip tag) s = .next (s.onlyAnswered tag .refusedHot [1, 0xFF])) ∧
          ((s.fan .f0).state ≠ .failed → ∃ t, exec (.clearTrip tag) s = .next t ∧
            t.ctl = { s.ctl with op := .cooldown, runOn := some 0 } ∧ t.light.lightEn = false ∧
            t.axisH.state ≠ .off ∧ t.axisV.state ≠ .off ∧
            t.chan.entries = s.chan.entries ++ [{ tag := tag, reply := { result := .ok, data := [] } }] ∧
            ∀ (f : FanId) (ceiling : Nat),
              ceiling = (if (s.fan .f1).state = .failed ∨ (s.fan .f2).state = .failed ∨
                  ∃ h ∈ s.fanDrv.handed.toList, inMask h.mask f = true ∧ h.blind = true then 1023
                else (s.fan f).modeCeiling s.fanDrv.handedMode) →
              (s.fan f).FormedFrom (t.fan f)
                (((s.fanDrv.handed.toList.filter fun h => inMask h.mask f).map fun h =>
                  match h.demand with
                  | .duty d => d
                  | .guard => (s.fan f).minDuty).foldl max 0) ceiling))))

/-- The silence counter: an armed one rises at each silence tick and expires at 4, which disarms it, sets LINK_LOST and
takes a LIT part to COOLDOWN, a recall in SWITCHING or none; a pending ENGINE_RESET, which is pending in STANDBY or TRIPPED alone
(EveryStepKeepsQueueStateAndChannel), is applied by the expiry. That the
fourth tick brings the expiry in the same step, and that SILENCE_EXPIRY expires an armed counter whatever its value, are the
model's choices (notes/assumptions/19.md). -/
def Obligations.SilenceCounterExpires : Prop :=
  ∀ (s : State) (c : Instr), s.resetAsserted = false →
    (s.ctl.armed = false → exec .silenceTick s = .next s ∧ exec .silenceExpiry s = .next s) ∧
    (s.ctl.armed = true → s.ctl.silence < 3 →
      exec .silenceTick s = .next { s with ctl := { s.ctl with silence := s.ctl.silence + 1 } }) ∧
    (s.ctl.armed = true → (c = .silenceTick ∧ s.ctl.silence = 3 ∨ c = .silenceExpiry) →
      (s.ctl.resetPending = true → s.ctl.op = .standby ∨ s.ctl.op = .tripped → exec c s = exec .resetNReleased s) ∧
      (s.ctl.resetPending = false →
        (s.ctl.op ≠ .lit → (∀ x ∈ s.motion.executing, x.req.phase ≠ .switching) → exec c s = .next { s with
          ctl := { s.ctl with silence := 4, armed := false }
          chan := { s.chan with flags := s.chan.flags ||| 0x001 } }) ∧
        (s.ctl.op = .lit → ∃ t, exec c s = .next t ∧
          t.ctl = { s.ctl with silence := 4, armed := false, op := .cooldown, runOn := some 0 } ∧
          t.light.safety = 0 ∧ t.light.lightEn = false ∧ t.light.applied = 0 ∧ t.motion.blankHold = false ∧
          t.chan.flag .linkLost = true ∧ t.zoneCtl = s.zoneCtl ∧ t.fanDrv = s.fanDrv ∧ t.grid = s.grid)))

/-! ### Lens axes (chapter 7) -/

/-- WRITE_AXIS takes all its fields or none, from an axis in OFF or IDLE alone, and clears the homed flag where the travel
limit falls below the position; READ_AXIS reports the record page by page and clears the latched flags with page 0. That a taken
WRITE_AXIS latches no flag and leaves V's approach as the record has it (notes/assumptions/21.md), that the count and the
target of an absent leg and plan are open (notes/assumptions/10.md) with their direction, clamped and owed bits 0
(notes/assumptions/36.md), and that yes is sent as 1 (notes/assumptions/25.md) are the model's choices. -/
def Obligations.AxisCommands : Prop :=
  ∀ (s : State) (tag axis : Byte) (limit vmax vstart : BitVec 16) (accel : Byte) (homeVel backlash : BitVec 16)
    (current approach endstops : Byte), s.takes →
    (2 ≤ axis.toNat → exec (.writeAxis tag axis limit vmax vstart accel homeVel backlash current approach endstops) s =
        .next (s.onlyAnswered tag .refusedRange []) ∧
      ∀ page, exec (.readAxis tag axis page) s = .next (s.onlyAnswered tag .refusedRange [])) ∧
    ((limit.toNat = 0 ∨ vmax.toNat < 200 ∨ 8000 < vmax.toNat ∨ vstart.toNat < 50 ∨ 1000 < vstart.toNat ∨
        vmax.toNat < vstart.toNat ∨ accel.toNat = 0 ∨ homeVel.toNat < 200 ∨ 8000 < homeVel.toNat ∨
        homeVel.toNat < vstart.toNat ∨ 2000 < backlash.toNat ∨ 2 ≤ approach.toNat) →
      exec (.writeAxis tag axis limit vmax vstart accel homeVel backlash current approach endstops) s =
        .next (s.onlyAnswered tag .refusedRange [])) ∧
    (∀ (a : AxisId) (x : Axis) (dir : Dir), x = s.axis a → axis.toNat = (if a = .h then 0 else 1) →
      dir = (if a = .h then x.approach else if s.ctl.orientation = .desk then .positive else .negative) →
      (∀ d : Dir, approach.toNat = d.code → 1 ≤ limit.toNat → 200 ≤ vmax.toNat → vmax.toNat ≤ 8000 → 50 ≤ vstart.toNat →
        vstart.toNat ≤ 1000 → vstart.toNat ≤ vmax.toNat → 1 ≤ accel.toNat → 200 ≤ homeVel.toNat → homeVel.toNat ≤ 8000 →
        vstart.toNat ≤ homeVel.toNat → backlash.toNat ≤ 2000 → endstops.toNat ≤ 15 →
        (x.state ≠ .off → x.state ≠ .idle →
          exec (.writeAxis tag axis limit vmax vstart accel homeVel backlash current approach endstops) s =
            .next (s.onlyAnswered tag .refusedBusy [])) ∧
        (x.state = .off ∨ x.state = .idle →
          exec (.writeAxis tag axis limit vmax vstart accel homeVel backlash current approach endstops) s =
            .next { s.setAxis a { x with
              limit := limit.toNat, vmax := vmax.toNat, vstart := vstart.toNat, accel := accel.toNat
              homeVel := homeVel.toNat, backlash := backlash.toNat, current := current.toNat
              approach := if a = .h then d else x.approach
              lowEnable := endstops.getLsbD 0, lowFalling := endstops.getLsbD 1
              highEnable := endstops.getLsbD 2, highFalling := endstops.getLsbD 3
              homed := x.homed && decide (x.position ≤ limit.toNat) } with chan := s.answered tag .ok [] })) ∧
      exec (.readAxis tag axis 0) s = .next { s.setAxis a { x with lowLatched := false, highLatched := false } with
        chan := s.answered tag .ok
          ([(if x.lowEnable = true ∧ x.lowLevel ≠ x.lowFalling then 1 else 0)
              + (if x.highEnable = true ∧ x.highLevel ≠ x.highFalling then 2 else 0)
              + (if x.lowLatched = true then 4 else 0) + (if x.highLatched = true then 8 else 0),
            BitVec.ofNat 8 x.state.code, if x.homed then 1 else 0, BitVec.ofNat 8 dir.code]
            ++ be16 x.position ++ be16 x.vel) } ∧
      exec (.readAxis tag axis 1) s = .next (s.onlyAnswered tag .ok
        (be16 x.limit ++ be16 x.vmax ++ be16 x.vstart ++ be16 x.homeVel)) ∧
      exec (.readAxis tag axis 2) s = .next (s.onlyAnswered tag .ok
        (be16 x.backlash ++ [BitVec.ofNat 8 x.accel, BitVec.ofNat 8 x.current, BitVec.ofNat 8 dir.code,
          (if x.lowEnable then 1 else 0) + (if x.lowFalling then 2 else 0) + (if x.highEnable then 4 else 0)
            + (if x.highFalling then 8 else 0)] ++ be16 x.acc)) ∧
      (∀ (l : Leg) (p : Plan), x.state ≠ .seek → x.state ≠ .release → x.leg = some l → x.plan = some p →
        exec (.readAxis tag axis 3) s = .next (s.onlyAnswered tag .ok
          ([if l.dir = .negative then 3 else 1] ++ be16 (min l.left 65535) ++
            [1 + (if p.clamped then 2 else 0) + (if p.owed then 4 else 0)] ++ be16 p.target ++ [0, 0]))) ∧
      (∀ l : Leg, x.state ≠ .seek → x.state ≠ .release → x.leg = some l → x.plan = none → ∃ u v : Byte,
        exec (.readAxis tag axis 3) s = .next { s.onlyAnswered tag .ok
          ([if l.dir = .negative then 3 else 1] ++ be16 (min l.left 65535) ++ [0, u, v, 0, 0]) with
          freeCount := s.freeCount + 1 }) ∧
      (x.state = .seek ∨ x.state = .release → x.plan = none → ∃ u v : Byte,
        exec (.readAxis tag axis 3) s = .next { s.onlyAnswered tag .ok
          ([0] ++ be16 (min x.allowance 65535) ++ [0, u, v, 0, 0]) with freeCount := s.freeCount + 1 }) ∧
      (x.state = .off ∨ x.state = .idle → x.leg = none → x.plan = none → ∃ u v u' v' : Byte,
        exec (.readAxis tag axis 3) s = .next { s.onlyAnswered tag .ok
          [0, u, v, 0, u', v', 0, 0] with freeCount := s.freeCount + 1 }) ∧
      (∀ p : Plan, x.state = .approach → x.leg = none → x.plan = some p → ∃ u v : Byte,
        exec (.readAxis tag axis 3) s = .next { s.onlyAnswered tag .ok
          ([0, u, v, 1 + (if p.clamped then 2 else 0) + (if p.owed then 4 else 0)] ++ be16 p.target ++ [0, 0]) with
          freeCount := s.freeCount + 1 }))

/-- A profile tick of one axis: a running leg brakes or accelerates, steps no further than its end and ends there; SEEK
and RELEASE step within their allowance and leave the position; STOPPING decelerates to a stand. That the plan keeps its mark
of an owed approach leg on entering APPROACH (notes/assumptions/15.md), and that a RELEASE whose allowance is 0 from its start,
as a travel limit below 8 gives it, fails at the tick (notes/assumptions/33.md), are the model's choices. -/
def Obligations.AxisProfileTick : Prop :=
  ∀ (x : Axis) (v steps : Nat), steps = min ((x.acc + v) / 1000) (match x.leg with
      | some l => l.left
      | none => x.allowance) →
    (∀ l : Leg, x.state = .moving ∨ x.state = .approach → x.leg = some l →
      v = (if 2000 * (x.accel : Int) * l.left ≤ (x.vel : Int) ^ 2 - (x.vstart : Int) ^ 2 then max (x.vel - x.accel) x.vstart
        else min (x.vel + x.accel) x.vmax) →
      (steps < l.left → x.tick = ({ x with
        vel := v, acc := x.acc + v - 1000 * steps, leg := some { l with left := l.left - steps }, pulses := steps
        position := if l.dir = .positive then x.position + steps else x.position - steps }, .quiet)) ∧
      (steps = l.left → (x.state = .approach ∨ ∀ p ∈ x.plan, p.owed = false) → x.tick = ({ x with
        state := .idle, vel := 0, acc := 0, allowance := 0, leg := none, plan := none, stopHoming := false, pulses := steps
        position := if l.dir = .positive then x.position + steps else x.position - steps },
        .outcome (.done (x.plan.any fun p => p.clamped)))) ∧
      (∀ p, steps = l.left → x.state = .moving → x.plan = some p → p.owed = true → x.tick = ({ x with
        state := .approach, vel := 0, acc := 0, leg := none, pulses := steps
        position := if l.dir = .positive then x.position + steps else x.position - steps }, .asks))) ∧
    (x.leg = none → (x.state = .seek ∧ v = min (x.vel + x.accel) x.homeVel ∨ x.state = .release ∧ v = x.vel) →
      (steps < x.allowance → x.tick = ({ x with
        vel := v, acc := x.acc + v - 1000 * steps, allowance := x.allowance - steps, pulses := steps }, .quiet)) ∧
      (steps = x.allowance → x.tick = ({ x with
        state := .idle, vel := 0, acc := 0, allowance := 0, plan := none, homed := false, position := 0
        stopHoming := false, pulses := steps }, .outcome .homeFail))) ∧
    (∀ l : Leg, x.state = .stopping → x.leg = some l →
      v = (if x.vel < x.vstart then x.vel else max (x.vel - x.accel) x.vstart) →
      (x.vstart < v → steps < l.left → x.tick = ({ x with
        vel := v, acc := x.acc + v - 1000 * steps, leg := some { l with left := l.left - steps }, pulses := steps
        position := if x.stopHoming then x.position
          else if l.dir = .positive then x.position + steps else x.position - steps }, .quiet)) ∧
      (v ≤ x.vstart ∨ steps = l.left → x.tick = ({ x with
        state := .idle, vel := 0, acc := 0, allowance := 0, leg := none, plan := none, stopHoming := false, pulses := steps
        position := if x.stopHoming then x.position
          else if l.dir = .positive then x.position + steps else x.position - steps }, .outcome .stopped))) ∧
    (x.inMotion = false → x.tick = ({ x with pulses := 0 }, .quiet))

/-- PROFILE_TICK takes both axes one profile tick on. What the tick ends on one axis with no work left on the other ends the
request, which goes to the front of the history with MOTION_DONE and lets go of its blank hold: COMPLETED or
COMPLETED_CLAMPED, STOPPED under a stop request, HOME_FAIL, or GRID_HELD for a recall whose slot is not VALID. A recall whose
slot is VALID places its choice and goes to SWITCHING, or ends at once while silence armed is no. An approach leg that is
asked for is granted where the rail carries it, stopped at an active end-stop, and ended at once where its distance is 0;
otherwise the request waits for the rail. Where one axis ends DONE, the leg start of the other that is owed or held is judged
again, and ends the request ENDSTOP where it finds an end-stop active. That a leg of distance 0 with an active end-stop ends ENDSTOP, and that the owed mark goes at the grant, is the
model's reading (notes/assumptions/15.md). That both axes are ticked before either hands over is the model's choice
(notes/assumptions/12.md), as is DIR for a leg of distance 0 (notes/assumptions/34.md). -/
def Obligations.ProfileTickMovesAxesAndEndsRequests : Prop :=
  ∀ (s : State) (h v : Axis), s.resetAsserted = false → h = s.axisH.tick.1 → v = s.axisV.tick.1 →
    (s.axisH.tick.2 = .quiet → s.axisV.tick.2 = .quiet → exec .profileTick s = .next { s with axisH := h, axisV := v }) ∧
    (∀ (a : AxisId) (x : Executing) (completion : Bool → MotionResult) (hist : MotionResult → List HistEntry),
      (s.axis (otherAxis a)).tick.2 = .quiet → s.motion.executing = some x → x.work a = .active →
      x.work (otherAxis a) = .unused ∨ x.work (otherAxis a) = .finished → x.req.phase ≠ .switching → s.motion.queue = [] →
      completion = (fun clamped => if x.req.clamped || clamped then .completedClamped else .completed) →
      hist = (fun result => (⟨x.req.tag, x.req.job.kind, result, h.position, v.position⟩ :: s.motion.history).take 8) →
      (∀ (result : MotionResult) (bits : BitVec 12),
        ((∃ clamped, (s.axis a).tick.2 = .outcome (.done clamped) ∧ x.req.stopReq = false ∧
            (∀ index copy, x.req.job = .recall index copy → copy.slot = none) ∧ result = completion clamped ∧ bits = 0x004) ∨
          (∃ clamped index copy n, (s.axis a).tick.2 = .outcome (.done clamped) ∧ x.req.stopReq = false ∧
            x.req.job = .recall index copy ∧ copy.slot = some n ∧ (s.slot n).state ≠ .valid ∧ result = .gridHeld ∧
            bits = 0x004) ∨
          ((s.axis a).tick.2 = .outcome .stopped ∧ x.req.stopReq = true ∧ result = .stopped ∧ bits = 0x004) ∨
          ((s.axis a).tick.2 = .outcome .homeFail ∧ result = .homeFail ∧ bits = 0x014)) →
        ∃ light, exec .profileTick s = .next { s with
          axisH := h, axisV := v, light := light
          motion := { s.motion with executing := none, railTimer := none, blankHold := false, history := hist result }
          chan := { s.chan with flags := s.chan.flags ||| bits } } ∧
          (s.motion.blankHold = false → light = s.light) ∧
          (s.motion.blankHold = true → s.light.motionHeld = true → light.motion = 4095 ∧ light.motionHeld = false)) ∧
      (∀ (clamped : Bool) (index : Nat) (copy : Preset) (n : Fin 4) (y : Executing),
        (s.axis a).tick.2 = .outcome (.done clamped) → x.req.stopReq = false → x.req.job = .recall index copy →
        copy.slot = some n → (s.slot n).state = .valid →
        y = { x.setWork a .finished with req := { x.req with clamped := x.req.clamped || clamped, phase := .switching } } →
        (s.ctl.armed = true → exec .profileTick s = .next { s with
          axisH := h, axisV := v
          warp := { s.warp with choice := some { slot := some n, origin := .recall x.req.tag } }
          motion := { s.motion with executing := some y } }) ∧
        (s.ctl.armed = false → s.motion.blankHold = false → exec .profileTick s = .next { s with
          axisH := h, axisV := v
          warp := { s.warp with choice := some { slot := some n, origin := .recall x.req.tag } }
          motion := { s.motion with executing := none, railTimer := none, history := hist (completion clamped) }
          chan := { s.chan with flags := s.chan.flags ||| 0x004 } })) ∧
      (∀ (p : Plan) (draw : Nat) (w z : Axis) (low high : Prop), (s.axis a).tick.2 = .asks → x.req.stopReq = false →
        (s.axis (otherAxis a)).state = .idle → w = (if a = .h then h else v) → w.plan = some p →
        (low ↔ w.lowEnable = true ∧ w.lowLevel ≠ w.lowFalling) → (high ↔ w.highEnable = true ∧ w.highLevel ≠ w.highFalling) →
        draw = (s.fan .f0).applied * (s.fan .f0).current / 1023 + (s.fan .f1).applied * (s.fan .f1).current / 1023
          + (s.fan .f2).applied * (s.fan .f2).current / 1023 →
        (s.ctl.budget < draw + w.current → x.req.phase = .running → exec .profileTick s = .next { s with
          axisH := h, axisV := v
          motion := { s.motion with executing := some (x.setPhase .waitRail), railTimer := some 10000 } }) ∧
        (draw + w.current ≤ s.ctl.budget → ¬low → ¬high → p.target ≠ w.position →
          z = { w with
            plan := some { p with owed := false }, vel := w.vstart, acc := 0, dirPin := decide (w.position < p.target)
            leg := some { dir := if w.position < p.target then .positive else .negative
                          left := if w.position < p.target then p.target - w.position else w.position - p.target } } →
          exec .profileTick s = .next { ({ s with axisH := h, axisV := v } : State).setAxis a z with
            motion := { s.motion with executing := some (x.setPhase .running), railTimer := none } }) ∧
        (∀ (result : MotionResult) (bits : BitVec 12), draw + w.current ≤ s.ctl.budget → s.motion.blankHold = false →
          (¬low ∧ ¬high ∧ p.target = w.position ∧ (∀ index copy, x.req.job ≠ .recall index copy) ∧
              result = completion p.clamped ∧ bits = 0x004 ∨
            (low ∨ high) ∧ result = .endstop ∧ bits = 0x00C) →
          exec .profileTick s = .next { ({ s with axisH := h, axisV := v } : State).setAxis a { w with
              dirPin := if p.target = w.position then w.dirPin else decide (w.position < p.target)
              state := .idle, vel := 0, acc := 0, allowance := 0, leg := none, plan := none, stopHoming := false
              homed := w.homed && decide (result ≠ .endstop) } with
            motion := { s.motion with executing := none, railTimer := none, history := hist result }
            chan := { s.chan with flags := s.chan.flags ||| bits } }))) ∧
    (∀ (a : AxisId) (x x' : Executing) (clamped : Bool) (u : State) (y : Axis) (draw : Nat),
      (s.axis a).tick.2 = .outcome (.done clamped) → (s.axis (otherAxis a)).tick.2 = .quiet →
      s.motion.executing = some x → x.work a = .active → x.req.stopReq = false → x.req.phase = .running →
      x' = { x.setWork a .finished with req := { x.req with clamped := x.req.clamped || clamped } } →
      u = { s with axisH := h, axisV := v } →
      draw = (s.fan .f0).applied * (s.fan .f0).current / 1023 + (s.fan .f1).applied * (s.fan .f1).current / 1023
        + (s.fan .f2).applied * (s.fan .f2).current / 1023 →
      (draw + (s.axis (otherAxis a)).current ≤ s.ctl.budget → u.MeetsEndstop x' (otherAxis a) y → s.motion.queue = [] →
        s.motion.blankHold = false → exec .profileTick s = .next { u.setAxis (otherAxis a) y with
          motion := { s.motion with
            executing := none, railTimer := none
            history := (⟨x.req.tag, x.req.job.kind, .endstop, h.position, v.position⟩ :: s.motion.history).take 8 }
          chan := { s.chan with flags := s.chan.flags ||| 0x00C } }) ∧
      (u.BeginsLeg x' (otherAxis a) y → draw + (s.axis (otherAxis a)).current ≤ s.ctl.budget →
        exec .profileTick s = .next { u.setAxis (otherAxis a) y with
        motion := { s.motion with executing := some (x'.setWork (otherAxis a) .active), railTimer := none } }) ∧
      (u.BeginsLeg x' (otherAxis a) y → s.ctl.budget < draw + (s.axis (otherAxis a)).current →
        exec .profileTick s = .next { u with
        motion := { s.motion with executing := some (x'.setPhase .waitRail), railTimer := some 10000 } }))

/-- A selected edge of an enabled end-stop input latches its flag: it ends SEEK, fails a homing, and stops a moving axis
abruptly and unhomed; a disabled input does nothing; the low end-stop falling inactive in RELEASE is the home point. The
outcome ends the executing request that handed the axis its work, HOME_FAIL, ENDSTOP (with a stop request to its other axis)
or COMPLETED, which goes to the front of the history with MOTION_DONE; the home point of V in HOME BOTH begins the homing of
H. With no request executing the outcome is set aside. That RELEASE begins with allowance 0 and its home point still open for a
travel limit below 8 (notes/assumptions/33.md), and that the allowance reads 0 outside a homing (notes/assumptions/15.md), are
the model's choices. -/
def Obligations.EndstopEvents : Prop :=
  ∀ (s : State) (e : EndStop) (a : AxisId) (low : Bool) (x y rest : Axis), s.resetAsserted = false → s.motion.queue = [] →
    a = (if e = .hl ∨ e = .hh then .h else .v) → low = decide (e = .hl ∨ e = .vl) →
    (x = { s.axis a with
        lowLevel := if low then !(s.axis a).lowFalling else (s.axis a).lowLevel
        highLevel := if low then (s.axis a).highLevel else !(s.axis a).highFalling } →
      y = { x with lowLatched := x.lowLatched || low, highLatched := x.highLatched || !low } →
      rest = { y with
        state := .idle, vel := 0, acc := 0, allowance := 0, leg := none, plan := none, stopHoming := false, homed := false } →
      ((if low then x.lowEnable else x.highEnable) = false → exec (.endstopEdge e) s = .next (s.setAxis a x)) ∧
      ((if low then x.lowEnable else x.highEnable) = true →
        (x.state = .off ∨ x.state = .idle ∨ (x.state = .approach ∧ x.leg = none) ∨ (x.state = .release ∧ low = true) →
          exec (.endstopEdge e) s = .next (s.setAxis a y)) ∧
        (x.state = .seek → low = true → exec (.endstopEdge e) s = .next (s.setAxis a { y with
          state := .release, vel := x.homeVel / 4, acc := 0, allowance := x.limit / 8, dirPin := true })) ∧
        (∀ (z w : Axis) (bits : BitVec 12) (result : MotionResult),
          ((x.state = .seek ∨ x.state = .release) ∧ low = false ∧ z = { rest with position := 0 } ∧ bits = 0x010 ∧
              result = .homeFail ∧ w = s.axis (otherAxis a) ∨
            (x.state = .moving ∨ x.state = .stopping ∨ (x.state = .approach ∧ x.leg ≠ none)) ∧ z = rest ∧ bits = 0x008 ∧
              result = .endstop ∧
              ((∀ r ∈ s.motion.executing, r.work (otherAxis a) ≠ .active) ∧ w = s.axis (otherAxis a) ∨
                (∃ r ∈ s.motion.executing, r.work (otherAxis a) = .active) ∧ (s.axis (otherAxis a)).state = .moving ∧
                  w = { s.axis (otherAxis a) with state := .stopping, stopHoming := false })) →
          (s.motion.executing = none →
            exec (.endstopEdge e) s = .next { s.setAxis a z with chan := { s.chan with flags := s.chan.flags ||| bits } }) ∧
          (∀ r : Executing, s.motion.executing = some r → r.work a = .active → s.motion.blankHold = false →
            exec (.endstopEdge e) s = .next { (s.setAxis a z).setAxis (otherAxis a) w with
              motion := { s.motion with
                executing := none, railTimer := none
                history := (⟨r.req.tag, r.req.job.kind, result, if a = .h then z.position else s.axisH.position,
                  if a = .h then s.axisV.position else z.position⟩ :: s.motion.history).take 8 }
              chan := { s.chan with flags := s.chan.flags ||| bits ||| 0x004 } })))) ∧
    (y = { s.axis a with
        lowLevel := if low then (s.axis a).lowFalling else (s.axis a).lowLevel
        highLevel := if low then (s.axis a).highLevel else (s.axis a).highFalling } →
      (y.state ≠ .release ∨ y.lowEnable = false ∨ low = false → exec (.endstopInactive e) s = .next (s.setAxis a y)) ∧
      (y.state = .release → y.lowEnable = true → low = true →
        x = { y with
          state := .idle, vel := 0, acc := 0, allowance := 0, leg := none, plan := none, stopHoming := false, homed := true
          position := 0 } →
        (s.motion.executing = none → exec (.endstopInactive e) s = .next (s.setAxis a x)) ∧
        (∀ (r : Executing) (sel : HomeSel), s.motion.executing = some r → r.req.job = .home sel → r.work a = .active →
          r.req.phase = .running → r.req.stopReq = false → s.motion.blankHold = false →
          (r.work (otherAxis a) = .unused ∨ r.work (otherAxis a) = .finished →
            exec (.endstopInactive e) s = .next { s.setAxis a x with
              motion := { s.motion with
                executing := none, railTimer := none
                history := (⟨r.req.tag, .home, if r.req.clamped then .completedClamped else .completed,
                  if a = .h then 0 else s.axisH.position, if a = .h then s.axisV.position else 0⟩ :: s.motion.history).take 8 }
              chan := { s.chan with flags := s.chan.flags ||| 0x004 } }) ∧
          (a = .v → r.hWork = .owed → s.axisH.inMotion = false →
            (s.fan .f0).applied * (s.fan .f0).current / 1023 + (s.fan .f1).applied * (s.fan .f1).current / 1023
              + (s.fan .f2).applied * (s.fan .f2).current / 1023 + s.axisH.current ≤ s.ctl.budget →
            (s.axisH.lowEnable = false ∨ s.axisH.lowLevel = s.axisH.lowFalling) →
            exec (.endstopInactive e) s = .next { s with
              axisV := x
              axisH := { s.axisH with
                state := .seek, homed := false, position := 0, allowance := s.axisH.limit + s.axisH.limit / 8
                dirPin := false, vel := s.axisH.vstart, acc := 0, leg := none, plan := none }
              motion := { s.motion with
                executing := some { r with hWork := .active, vWork := .finished }, railTimer := none } }))))

/-! ### Motion requests and presets (chapter 8) -/

/-- A motion request is refused beyond its ranges, in STANDBY and TRIPPED, for an invalid preset and when the queue holds
eight; otherwise, while the queue may not start its head, it joins the back of the queue, a recall with a copy of its
preset. The head starts in the event that first lets it: the end of the executing request, an axis coming to rest in IDLE,
or the entry to LIT or COOLDOWN. It then does what its command does when an empty queue takes it, the answers apart, and the records
behind it wait while it executes. -/
def Obligations.MotionRequestsAreQueuedOrRefused : Prop :=
  (∀ (s : State) (tag b : Byte) (target : BitVec 16) (delta : BitVec 24), s.takes →
    (2 ≤ b.toNat → exec (.moveAxis tag b target) s = .next (s.onlyAnswered tag .refusedRange []) ∧
      exec (.stepAxis tag b delta) s = .next (s.onlyAnswered tag .refusedRange [])) ∧
    ((delta.toInt < -65535 ∨ 65535 < delta.toInt) →
      exec (.stepAxis tag b delta) s = .next (s.onlyAnswered tag .refusedRange [])) ∧
    (3 ≤ b.toNat → exec (.home tag b) s = .next (s.onlyAnswered tag .refusedRange [])) ∧
    (12 ≤ b.toNat → exec (.recallPreset tag b) s = .next (s.onlyAnswered tag .refusedRange [])) ∧
    (∀ (c : Instr) (job : Job),
      ((∃ a : AxisId, b.toNat = (if a = .h then 0 else 1) ∧ c = .moveAxis tag b target ∧ job = .moveAxis a target.toNat) ∨
        (∃ a : AxisId, b.toNat = (if a = .h then 0 else 1) ∧ -65535 ≤ delta.toInt ∧ delta.toInt ≤ 65535 ∧
          c = .stepAxis tag b delta ∧ job = .stepAxis a delta.toInt) ∨
        (c = .home tag b ∧ (b = 0 ∧ job = .home .h ∨ b = 1 ∧ job = .home .v ∨ b = 2 ∧ job = .home .both)) ∨
        (∃ n : Fin 12, b.toNat = n.val ∧ (s.motion.presets[n]).valid = true ∧ c = .recallPreset tag b ∧
          job = .recall n.val s.motion.presets[n])) →
      (s.ctl.op = .standby ∨ s.ctl.op = .tripped → exec c s = .next (s.onlyAnswered tag .refusedState [])) ∧
      (s.ctl.op = .lit ∨ s.ctl.op = .cooldown →
        (s.motion.queue.length = 8 → exec c s = .next (s.onlyAnswered tag .refusedFull [])) ∧
        (s.motion.queue.length < 8 →
          (s.motion.executing ≠ none ∨ s.axisH.state ≠ .idle ∨ s.axisV.state ≠ .idle) →
          exec c s = .next { s with
            motion := { s.motion with queue := s.motion.queue ++
              [{ tag := tag, job := job, phase := .queued, clamped := false, stopReq := false }] }
            chan := s.answered tag .queued [BitVec.ofNat 8 (s.motion.queue.length + 1)] }))) ∧
    (∀ n : Fin 12, b.toNat = n.val → (s.motion.presets[n]).valid = false →
      exec (.recallPreset tag b) s = .next (s.onlyAnswered tag .refusedState []))) ∧
  (∀ (s u v : State) (e c : Instr) (tag : Byte) (job : Job) (rest : List Request), s.resetAsserted = false → s.takes →
    (e = .railWaitTimeout ∨ e = .profileTick ∨ (∃ i, e = .endstopEdge i) ∨ (∃ i, e = .endstopInactive i) ∨
      e = .outputFrameStart ∨ (∃ other, e = .lightOn other ∨ e = .lightOff other ∨ e = .clearTrip other)) →
    s.motion.queue = { tag := tag, job := job, phase := .queued, clamped := false, stopReq := false } :: rest →
    (s.motion.executing ≠ none ∨ s.axisH.state ≠ .idle ∨ s.axisV.state ≠ .idle) →
    exec e { s with motion := { s.motion with queue := [] } } = .next u →
    u.motion.executing = none → u.axisH.state = .idle → u.axisV.state = .idle → u.ctl.op = .lit ∨ u.ctl.op = .cooldown →
    u.Requests c tag job →
    exec c { u with chan := { u.chan with taken := s.chan.taken, entries := s.chan.entries } } = .next v →
    v.motion.executing ≠ none ∨ rest = [] →
    exec e s = .next { v with
      motion := { v.motion with queue := rest }
      chan := { v.chan with taken := u.chan.taken, entries := u.chan.entries } })

/-- A MOVE_AXIS or a STEP_AXIS that may start at once, the step's target formed from the position and brought into
0..65,535, which marks it clamped: NOT_HOMED on an unhomed axis, COMPLETED without a leg at its target, WAIT_RAIL
where the rail does not carry it; otherwise the first leg starts, and an end-stop already active ends it ENDSTOP. -/
def Obligations.MoveAndStepAxisStartAtOnce : Prop :=
  ∀ (s : State) (tag b : Byte) (carried : BitVec 16) (delta : BitVec 24) (c : Instr) (job : Job) (target : Nat) (outside : Bool)
    (a : AxisId) (x y : Axis) (approach : Dir) (owed : Bool)
    (goal firstEnd draw : Nat) (result : MotionResult) (phase : Phase) (work : Work) (e : Executing),
    s.takes → s.ctl.op = .lit ∨ s.ctl.op = .cooldown → s.motion.queue = [] → s.motion.executing = none →
    s.motion.blankHold = false → s.axisH.state = .idle → s.axisV.state = .idle →
    b.toNat = (if a = .h then 0 else 1) → x = s.axis a →
    (c = .moveAxis tag b carried ∧ job = .moveAxis a carried.toNat ∧ target = carried.toNat ∧ outside = false ∨
      c = .stepAxis tag b delta ∧ -65535 ≤ delta.toInt ∧ delta.toInt ≤ 65535 ∧ job = .stepAxis a delta.toInt ∧
        (target : Int) = max 0 (min (x.position + delta.toInt) 65535) ∧
        outside = decide (x.position + delta.toInt < 0 ∨ 65535 < x.position + delta.toInt)) →
    goal = min target x.limit →
    draw = (s.fan .f0).applied * (s.fan .f0).current / 1023 + (s.fan .f1).applied * (s.fan .f1).current / 1023
      + (s.fan .f2).applied * (s.fan .f2).current / 1023 →
    (x.homed = false ∨ goal = x.position →
      result = (if x.homed = false then .notHomed else if outside = true ∨ x.limit < target then .completedClamped else .completed) →
      exec c s = .next { s with
        motion := { s.motion with
          railTimer := none
          history := (⟨tag, job.kind, result, s.axisH.position, s.axisV.position⟩ :: s.motion.history).take 8 }
        chan := { s.answered tag .queued [1] with flags := s.chan.flags ||| 0x004 } }) ∧
    (x.homed = true → goal ≠ x.position →
      e = { req := { tag := tag, job := job, phase := phase, clamped := outside, stopReq := false }
            hWork := if a = .h then work else .unused, vWork := if a = .v then work else .unused
            hTarget := target, vTarget := target, inSequence := false } →
      (s.ctl.budget < draw + x.current → phase = .waitRail → work = .owed →
        exec c s = .next { s with
          motion := { s.motion with executing := some e, railTimer := some 10000 }
          chan := s.answered tag .queued [1] }) ∧
      (draw + x.current ≤ s.ctl.budget → phase = .running → work = .active →
        approach = (if a = .h then x.approach else if s.ctl.orientation = .desk then .positive else .negative) →
        owed = !decide (if approach = .positive then x.position < goal else goal < x.position) →
        firstEnd = (if owed = false then goal else if approach = .positive then goal - x.backlash
          else min (goal + x.backlash) x.limit) →
        y = { x with
          state := .moving, vel := x.vstart, acc := 0
          plan := some { target := goal, clamped := decide (x.limit < target), owed := owed }
          dirPin := decide (x.position < firstEnd)
          leg := some { dir := if x.position < firstEnd then .positive else .negative
                        left := if x.position < firstEnd then firstEnd - x.position else x.position - firstEnd } } →
        ((x.lowEnable = false ∨ x.lowLevel = x.lowFalling) → (x.highEnable = false ∨ x.highLevel = x.highFalling) →
          exec c s = .next { s.setAxis a y with
            motion := { s.motion with executing := some e, railTimer := none }
            chan := s.answered tag .queued [1] }) ∧
        ((x.lowEnable = true ∧ x.lowLevel ≠ x.lowFalling ∨ x.highEnable = true ∧ x.highLevel ≠ x.highFalling) →
          exec c s = .next { s.setAxis a { y with
              state := .idle, vel := 0, acc := 0, allowance := 0, leg := none, plan := none, stopHoming := false
              homed := false } with
            motion := { s.motion with
              railTimer := none
              history := (⟨tag, job.kind, .endstop, s.axisH.position, s.axisV.position⟩ :: s.motion.history).take 8 }
            chan := { s.answered tag .queued [1] with flags := s.chan.flags ||| 0x00C } })))

/-- A HOME that may start at once, of one axis or of both with V first: its axis enters SEEK unhomed at position 0 with its
allowance, or RELEASE where the low end-stop is active already; where the rail does not carry it the request waits with its
axes as they were. That RELEASE stands with allowance 0 for a travel limit below 8 is the model's choice
(notes/assumptions/33.md). -/
def Obligations.HomeStartsAtOnce : Prop :=
  ∀ (s : State) (tag b : Byte) (sel : HomeSel) (a : AxisId) (x y : Axis) (draw : Nat) (phase : Phase) (work : Work) (e : Executing),
    s.takes → s.ctl.op = .lit ∨ s.ctl.op = .cooldown → s.motion.queue = [] → s.motion.executing = none →
    s.axisH.state = .idle → s.axisV.state = .idle →
    (b = 0 ∧ sel = .h ∧ a = .h ∨ b = 1 ∧ sel = .v ∧ a = .v ∨ b = 2 ∧ sel = .both ∧ a = .v) → x = s.axis a →
    draw = (s.fan .f0).applied * (s.fan .f0).current / 1023 + (s.fan .f1).applied * (s.fan .f1).current / 1023
      + (s.fan .f2).applied * (s.fan .f2).current / 1023 →
    e = { req := { tag := tag, job := .home sel, phase := phase, clamped := false, stopReq := false }
          hWork := match sel with
            | .h => work
            | .v => .unused
            | .both => .owed
          vWork := match sel with
            | .h => .unused
            | .v => work
            | .both => work
          hTarget := 0, vTarget := 0, inSequence := false } →
    (s.ctl.budget < draw + x.current → phase = .waitRail → work = .owed →
      exec (.home tag b) s = .next { s with
        motion := { s.motion with executing := some e, railTimer := some 10000 }
        chan := s.answered tag .queued [1] }) ∧
    (draw + x.current ≤ s.ctl.budget → phase = .running → work = .active →
      (x.lowEnable = false ∨ x.lowLevel = x.lowFalling → y = { x with
        state := .seek, homed := false, position := 0, allowance := x.limit + x.limit / 8, dirPin := false, vel := x.vstart
        acc := 0, leg := none, plan := none }) →
      (x.lowEnable = true → x.lowLevel ≠ x.lowFalling → y = { x with
        state := .release, homed := false, position := 0, allowance := x.limit / 8, dirPin := true, vel := x.homeVel / 4
        acc := 0, leg := none, plan := none }) →
      exec (.home tag b) s = .next { s.setAxis a y with
        motion := { s.motion with executing := some e, railTimer := none }
        chan := s.answered tag .queued [1] })

/-- A RECALL_PRESET that may start at once: NOT_HOMED where an axis is unhomed; otherwise it takes the blank hold its copy
asks for in LIT, with MOTION at the blank level. Two axes that both need a leg start together where the rail carries the
pair, V first and H after it where it carries V alone, and wait where it does not; with both axes at their targets already
the recall goes to its grid step, or ends where it names no slot. An axis that needs no leg has its work finished at once, and
the other is judged alone. A first leg that finds an end-stop active ends the recall ENDSTOP at once, lets go of its blank hold
and sends the other axis a stop request. That with both started together both are handed their moves before either's outcome is
taken, so that V is found started where H ends ENDSTOP, is the model's reading (notes/assumptions/15.md). With both axes at
their targets the clauses are for no slot named and no blank asked for, and for a VALID slot with silence armed yes; a blank
asked for with no slot named, a slot not VALID and silence armed no are left out there. -/
def Obligations.RecallPresetStartsAtOnce : Prop :=
  ∀ (s : State) (tag b : Byte) (n : Fin 12) (p : Preset) (y : AxisId → Axis) (approach : AxisId → Dir)
    (goal firstEnd : AxisId → Nat) (owed : AxisId → Bool) (active : AxisId → Prop) (abrupt : AxisId → Axis) (draw : Nat)
    (phase : Phase) (hWork vWork : Work) (inSequence : Bool) (e : Executing),
    s.takes → s.ctl.op = .lit ∨ s.ctl.op = .cooldown → s.motion.queue = [] → s.motion.executing = none →
    s.motion.blankHold = false → s.axisH.state = .idle → s.axisV.state = .idle →
    b.toNat = n.val → p = s.motion.presets[n] → p.valid = true →
    draw = (s.fan .f0).applied * (s.fan .f0).current / 1023 + (s.fan .f1).applied * (s.fan .f1).current / 1023
      + (s.fan .f2).applied * (s.fan .f2).current / 1023 →
    goal .h = min p.hTarget s.axisH.limit → goal .v = min p.vTarget s.axisV.limit →
    (s.axisH.homed = false ∨ s.axisV.homed = false → exec (.recallPreset tag b) s = .next { s with
      motion := { s.motion with
        railTimer := none
        history := (⟨tag, .recallPreset, .notHomed, s.axisH.position, s.axisV.position⟩ :: s.motion.history).take 8 }
      chan := { s.answered tag .queued [1] with flags := s.chan.flags ||| 0x004 } }) ∧
    (s.axisH.homed = true → s.axisV.homed = true →
      approach .h = s.axisH.approach → approach .v = (if s.ctl.orientation = .desk then .positive else .negative) →
      (∀ a : AxisId,
        owed a = !decide (if approach a = .positive then (s.axis a).position < goal a else goal a < (s.axis a).position) ∧
        firstEnd a = (if owed a = false then goal a else if approach a = .positive then goal a - (s.axis a).backlash
          else min (goal a + (s.axis a).backlash) (s.axis a).limit) ∧
        y a = { s.axis a with
          state := .moving, vel := (s.axis a).vstart, acc := 0
          plan := some { target := goal a, clamped := decide ((s.axis a).limit < if a = .h then p.hTarget else p.vTarget)
                         owed := owed a }
          dirPin := decide ((s.axis a).position < firstEnd a)
          leg := some { dir := if (s.axis a).position < firstEnd a then .positive else .negative
                        left := if (s.axis a).position < firstEnd a then firstEnd a - (s.axis a).position
                          else (s.axis a).position - firstEnd a } } ∧
        (active a ↔ (s.axis a).lowEnable = true ∧ (s.axis a).lowLevel ≠ (s.axis a).lowFalling ∨
          (s.axis a).highEnable = true ∧ (s.axis a).highLevel ≠ (s.axis a).highFalling) ∧
        abrupt a = { y a with
          state := .idle, vel := 0, acc := 0, allowance := 0, leg := none, plan := none, stopHoming := false, homed := false }) →
      ∃ light light' : Light,
      (p.blank = false ∨ s.ctl.op ≠ .lit → light = s.light ∧ light' = s.light) ∧
      (p.blank = true → s.ctl.op = .lit → s.light.applied ≤ s.light.safety →
        light.motion = s.light.blankLevel ∧ light.motionHeld = true ∧
        light.target = min (min s.light.safety s.light.blankLevel) (min s.light.thermal s.light.user) ∧
        light.applied = (if s.light.blankLevel < s.light.applied then light.target else s.light.applied) ∧
        (s.light.safety ≤ 4095 → light'.motion = 4095 ∧ light'.motionHeld = false ∧ light'.applied = light.applied ∧
          light'.target = min (min s.light.safety 4095) (min s.light.thermal s.light.user))) ∧
      (goal .h ≠ s.axisH.position → goal .v ≠ s.axisV.position →
        e = { req := { tag := tag, job := .recall n.val p, phase := phase, clamped := false, stopReq := false }
              hWork := hWork, vWork := vWork, hTarget := p.hTarget, vTarget := p.vTarget, inSequence := inSequence } →
        (draw + (s.axisH.current + s.axisV.current) ≤ s.ctl.budget → ¬active .h → ¬active .v → phase = .running →
          hWork = .active → vWork = .active → inSequence = false → exec (.recallPreset tag b) s = .next { s with
            axisH := y .h, axisV := y .v, light := light
            motion := { s.motion with
              executing := some e, railTimer := none, blankHold := p.blank && decide (s.ctl.op = .lit) }
            chan := s.answered tag .queued [1] }) ∧
        (s.ctl.budget < draw + (s.axisH.current + s.axisV.current) → draw + s.axisV.current ≤ s.ctl.budget →
          ¬active .v → phase = .running → hWork = .owed → vWork = .active → inSequence = true →
          exec (.recallPreset tag b) s = .next { s with
            axisV := y .v, light := light
            motion := { s.motion with
              executing := some e, railTimer := none, blankHold := p.blank && decide (s.ctl.op = .lit) }
            chan := s.answered tag .queued [1] }) ∧
        (s.ctl.budget < draw + s.axisV.current → phase = .waitRail → hWork = .owed → vWork = .owed → inSequence = false →
          exec (.recallPreset tag b) s = .next { s with
            light := light
            motion := { s.motion with
              executing := some e, railTimer := some 10000, blankHold := p.blank && decide (s.ctl.op = .lit) }
            chan := s.answered tag .queued [1] })) ∧
      (∀ a : AxisId, goal a ≠ (s.axis a).position → goal (otherAxis a) = (s.axis (otherAxis a)).position →
        e = { req := { tag := tag, job := .recall n.val p, phase := phase, stopReq := false
                       clamped := decide ((s.axis (otherAxis a)).limit < if a = .h then p.vTarget else p.hTarget) }
              hWork := if a = .h then hWork else .finished, vWork := if a = .v then vWork else .finished
              hTarget := p.hTarget, vTarget := p.vTarget, inSequence := false } → hWork = vWork →
        (s.ctl.budget < draw + (s.axis a).current → phase = .waitRail → hWork = .owed →
          exec (.recallPreset tag b) s = .next { s with
            light := light
            motion := { s.motion with
              executing := some e, railTimer := some 10000, blankHold := p.blank && decide (s.ctl.op = .lit) }
            chan := s.answered tag .queued [1] }) ∧
        (draw + (s.axis a).current ≤ s.ctl.budget → ¬active a → phase = .running → hWork = .active →
          exec (.recallPreset tag b) s = .next { s.setAxis a (y a) with
            light := light
            motion := { s.motion with
              executing := some e, railTimer := none, blankHold := p.blank && decide (s.ctl.op = .lit) }
            chan := s.answered tag .queued [1] })) ∧
      (∀ (a : AxisId) (other : Axis), goal a ≠ (s.axis a).position → active a →
        (goal (otherAxis a) = (s.axis (otherAxis a)).position ∧ draw + (s.axis a).current ≤ s.ctl.budget ∧
            other = s.axis (otherAxis a) ∨
          goal (otherAxis a) ≠ (s.axis (otherAxis a)).position ∧
            (draw + (s.axisH.current + s.axisV.current) ≤ s.ctl.budget ∧
                (¬active (otherAxis a) ∧ other = { y (otherAxis a) with state := .stopping, stopHoming := false } ∨
                  active (otherAxis a) ∧ other = abrupt (otherAxis a)) ∨
              a = .v ∧ s.ctl.budget < draw + (s.axisH.current + s.axisV.current) ∧ draw + s.axisV.current ≤ s.ctl.budget ∧
                other = s.axisH)) →
        exec (.recallPreset tag b) s = .next { (s.setAxis a (abrupt a)).setAxis (otherAxis a) other with
          light := light'
          motion := { s.motion with
            railTimer := none
            history := (⟨tag, .recallPreset, .endstop, s.axisH.position, s.axisV.position⟩ :: s.motion.history).take 8 }
          chan := { s.answered tag .queued [1] with flags := s.chan.flags ||| 0x00C } }) ∧
      (goal .h = s.axisH.position → goal .v = s.axisV.position →
        (p.slot = none → p.blank = false → exec (.recallPreset tag b) s = .next { s with
          motion := { s.motion with
            railTimer := none
            history := (⟨tag, .recallPreset, if s.axisH.limit < p.hTarget ∨ s.axisV.limit < p.vTarget then .completedClamped
              else .completed, s.axisH.position, s.axisV.position⟩ :: s.motion.history).take 8 }
          chan := { s.answered tag .queued [1] with flags := s.chan.flags ||| 0x004 } }) ∧
        (∀ m : Fin 4, p.slot = some m → (s.slot m).state = .valid → s.ctl.armed = true →
          exec (.recallPreset tag b) s = .next { s with
            light := light
            warp := { s.warp with choice := some { slot := some m, origin := .recall tag } }
            motion := { s.motion with
              executing := some
                { req := { tag := tag, job := .recall n.val p, phase := .switching, stopReq := false
                           clamped := decide (s.axisH.limit < p.hTarget ∨ s.axisV.limit < p.vTarget) }
                  hWork := .finished, vWork := .finished, hTarget := p.hTarget, vTarget := p.vTarget, inSequence := false }
              blankHold := p.blank && decide (s.ctl.op = .lit) }
            chan := s.answered tag .queued [1] })))

/-- STOP_MOTION ends the executing request where none of its axes is in motion, then flushes the queue, and answers how many
requests that ended: a recall in SWITCHING ends with its own choice withdrawn; an axis that waits in APPROACH rests; a moving
axis is brought to a stop, its request waiting for it. That the flush precedes any start is the model's reading
(notes/assumptions/17.md). The rail wait timer's expiry ends a request in WAIT_RAIL, its waiting axis resting at its overshoot
point, here with nothing queued behind it (MotionRequestsAreQueuedOrRefused says what the next record then does). That it acts when it
comes, whatever the timer shows, is the model's choice (notes/assumptions/1.md). A recall in SWITCHING ends COMPLETED at an output frame
start, at an input frame start that overtakes a frame or brings an older frame's output frame start, and at a silence expiry, in LIT
as elsewhere, its choice latched or still pending. That it ends at an output frame start with or without a pending choice (notes/assumptions/28.md), that
SILENCE_EXPIRY expires an armed counter whatever its value (notes/assumptions/19.md) and that an output frame start that
falls in the line time of an input frame start comes before it (notes/assumptions/14.md) are the model's choices. -/
def Obligations.MotionRequestsEndEarlyOrAtTheLatch : Prop :=
  (∀ (s : State) (tag : Byte), s.takes →
    (s.motion.executing = none → exec (.stopMotion tag) s = .next { s with
      motion := { s.motion with
        queue := []
        history := (s.motion.queue.foldl (fun history r => (⟨r.tag, r.job.kind, .flushed, s.axisH.position, s.axisV.position⟩ :: history).take 8) s.motion.history) }
      chan := { s.answered tag .ok [BitVec.ofNat 8 s.motion.queue.length] with
        flags := if s.motion.queue = [] then s.chan.flags else s.chan.flags ||| 0x004 } }) ∧
    (∀ (x : Executing) (y : AxisId → Axis) (n : Nat) (flushed : List HistEntry → List HistEntry) (after : Bool → Work → Work),
      s.motion.executing = some x → n = s.motion.queue.length →
      flushed = (fun history => s.motion.queue.foldl
        (fun h r => (⟨r.tag, r.job.kind, .flushed, s.axisH.position, s.axisV.position⟩ :: h).take 8) history) →
      (∀ a : AxisId, (x.req.phase = .switching ∨ x.work a ≠ .active → y a = s.axis a) ∧
        (x.req.phase ≠ .switching → x.work a = .active → (s.axis a).StopRequestedTo (y a))) →
      (x.req.phase = .switching ∨ x.req.stopReq = false ∧ (∀ a : AxisId, x.work a = .active → (s.axis a).inMotion = false) →
        ∃ light, exec (.stopMotion tag) s = .next { s with
          axisH := y .h, axisV := y .v, light := light
          warp := { s.warp with choice :=
            if x.req.phase = .switching ∧ s.warp.choice.any (fun c => decide (c.origin = .recall x.req.tag)) = true then none
            else s.warp.choice }
          motion := { s.motion with
            queue := [], executing := none, railTimer := none, blankHold := false
            history := flushed
              ((⟨x.req.tag, x.req.job.kind, .stopped, s.axisH.position, s.axisV.position⟩ :: s.motion.history).take 8) }
          chan := { s.answered tag .ok [BitVec.ofNat 8 (n + 1)] with flags := s.chan.flags ||| 0x004 } } ∧
        (s.motion.blankHold = false → light = s.light) ∧
        (s.motion.blankHold = true → s.light.motionHeld = true → light.motion = 4095 ∧ light.motionHeld = false)) ∧
      (x.req.phase ≠ .switching → x.req.stopReq = false → (∃ a : AxisId, x.work a = .active ∧ (s.axis a).inMotion = true) →
        after = (fun waits work => if work = .active ∧ waits = true then .finished else work) →
        exec (.stopMotion tag) s = .next { s with
          axisH := y .h, axisV := y .v
          motion := { s.motion with
            queue := [], history := flushed s.motion.history
            executing := some { x with
              req := { x.req with stopReq := true }, hWork := after s.axisH.waits x.hWork, vWork := after s.axisV.waits x.vWork } }
          chan := { s.answered tag .ok [BitVec.ofNat 8 n] with
            flags := if n = 0 then s.chan.flags else s.chan.flags ||| 0x004 } }) ∧
      (x.req.phase ≠ .switching → x.req.stopReq = true → exec (.stopMotion tag) s = .next { s with
          motion := { s.motion with queue := [], history := flushed s.motion.history }
          chan := { s.answered tag .ok [BitVec.ofNat 8 n] with
            flags := if n = 0 then s.chan.flags else s.chan.flags ||| 0x004 } }))) ∧
  (∀ (s : State) (x : Executing) (ps : List Pixel), s.resetAsserted = false → s.motion.executing = some x → s.motion.queue = [] →
    (∀ y : AxisId → Axis, x.req.phase = .waitRail →
      (∀ a : AxisId, (x.work a ≠ .active → y a = s.axis a) ∧ (x.work a = .active → (s.axis a).StopRequestedTo (y a))) →
      ∃ light, exec .railWaitTimeout s = .next { s with
        axisH := y .h, axisV := y .v, light := light
        motion := { s.motion with
          executing := none, railTimer := none, blankHold := false
          history := (⟨x.req.tag, x.req.job.kind, .railTimeout, s.axisH.position, s.axisV.position⟩ :: s.motion.history).take 8 }
        chan := { s.chan with flags := s.chan.flags ||| 0x004 } } ∧
      (s.motion.blankHold = false → light = s.light) ∧
      (s.motion.blankHold = true → s.light.motionHeld = true → light.motion = 4095 ∧ light.motionHeld = false)) ∧
    (∀ (c : Instr) (latches : Bool), x.req.phase = .switching →
      (c = .silenceExpiry ∧ s.ctl.armed = true ∧ s.ctl.resetPending = false ∧ latches = false ∨
        s.locked = true ∧ c = .inputActiveLine ps ∧ s.warp.previous = some .blanking ∧
          (∃ f ∈ s.warp.frames, f.output = .waiting) ∧
          (∀ f ∈ s.warp.frames, f.output = .waiting → s.warp.lineTime + 1 ≠ f.start + 160) ∧ latches = false ∨
        s.locked = true ∧ (∃ (older : List FrameRec) (f : FrameRec), s.warp.frames = older ++ [f] ∧ (∀ g ∈ older, g.output = .output) ∧
          f.output = .waiting ∧ latches = true ∧
          (c = .outputFrameStart ∧ s.warp.lineTime = f.start + 160 ∨
            c = .inputActiveLine ps ∧ s.warp.previous = some .blanking ∧ s.warp.lineTime + 1 = f.start + 160))) →
      ∃ t, exec c s = .next t ∧ t.chan.flag .motionDone = true ∧
        t.motion = { s.motion with
          executing := none, railTimer := none, blankHold := false
          history := (⟨x.req.tag, x.req.job.kind, if x.req.clamped then .completedClamped else .completed, s.axisH.position, s.axisV.position⟩ :: s.motion.history).take 8 } ∧
        (c = .silenceExpiry → s.ctl.op = .lit → t.ctl.op = .cooldown ∧ t.light.lightEn = false) ∧
        (latches = false → t.warp.choice = s.warp.choice ∧ t.warp.active = s.warp.active) ∧
        (latches = true → t.warp.choice = none ∧ t.warp.active = match s.warp.choice with
          | none => s.warp.active
          | some k => k.slot) ∧
        (s.motion.blankHold = true → s.light.motionHeld = true → t.light.motion = 4095 ∧ t.light.motionHeld = false)))

/-- The entry to TRIPPED, by the comparator's event or its settings, by a zone's temperature at a control tick, or by the loss of
F0 in LIT, ends the executing request and then each queued one
ABORTED_TRIP, withdraws the own choice of a recall in SWITCHING, and sends a stop request to each axis of the executing
request that moves, homes or waits for its approach leg. That a control tick that trips neither begins a held or waiting start
nor ends a run-on rests on the order of the blocks within the tick, the model's choice (notes/assumptions/11.md). That the
comparator's event carries its pin's new code (notes/assumptions/7.md), and that a stall timer's expiry acts whatever the timer shows
(notes/assumptions/1.md), are the model's choices too. -/
def Obligations.TripAbortsMotionRequests : Prop :=
  ∀ (s : State) (c : Instr) (ended : HistEntry → List HistEntry → List HistEntry) (aborted : Request → HistEntry),
    s.resetAsserted = false → s.ctl.op ≠ .tripped →
    ((∃ code : BitVec 12, c = .comparatorTrip ⟨s.temps.comparator.channel, code⟩ ∧ s.temps.comparator.state = .released ∧
        code.toNat ≤ s.temps.comparator.threshold) ∨
      (∃ (tag channel : Byte) (threshold : BitVec 16) (ch : Channel), s.takes ∧ c = .setTripComparator tag channel threshold ∧
        channel.toNat = ch.code ∧ threshold.toNat ≤ 4031 ∧ (s.temps.pinCode[ch.idx]).toNat ≤ threshold.toNat) ∨
      (∃ (z : ZoneId) (n : Fin 12) (T : Int), c = .controlTick ∧ (s.source n).zone = some z ∧ (s.source n).state = .ok ∧
        (s.source n).lastGood = some T ∧ (s.zone z).trip ≤ T) ∨
      c = .stallTimerExpiry .f0 ∧ s.ctl.op = .lit ∧ ((s.fan .f0).state = .running ∨ (s.fan .f0).state = .kick) ∧
        (s.fan .f0).retry = 3) →
    ended = (fun entry history => (entry :: history).take 8) →
    aborted = (fun r => ⟨r.tag, r.job.kind, .abortedTrip, s.axisH.position, s.axisV.position⟩) →
    ∃ t, exec c s = .next t ∧ t.ctl.op = .tripped ∧ t.chan.flag .trip = true ∧ t.light.lightEn = false ∧
      t.motion.queue = [] ∧ t.motion.executing = none ∧ t.motion.blankHold = false ∧ t.motion.presets = s.motion.presets ∧
      (s.motion.executing = none → t.axisH = s.axisH ∧ t.axisV = s.axisV ∧ t.warp = s.warp ∧
        t.motion.history = s.motion.queue.foldl (fun history r => ended (aborted r) history) s.motion.history) ∧
      (∀ x : Executing, s.motion.executing = some x →
        t.chan.flag .motionDone = true ∧ t.motion.railTimer = none ∧
        t.motion.history =
          s.motion.queue.foldl (fun history r => ended (aborted r) history) (ended (aborted x.req) s.motion.history) ∧
        t.warp = { s.warp with choice :=
          if x.req.phase = .switching ∧ s.warp.choice.any (fun k => decide (k.origin = .recall x.req.tag)) = true then none
          else s.warp.choice } ∧
        ∀ a : AxisId,
          (x.work a ≠ .active → t.axis a = s.axis a) ∧ (x.work a = .active → (s.axis a).StopRequestedTo (t.axis a)))

/-- STORE_PRESET stores the targets carried, clamped to the travel limits, or the positions of two homed and idle axes;
ERASE_PRESET and READ_PRESET act on one preset; READ_MOTION reports a history entry, the queue and the executing
request. Yes is sent as 1 (the model's reading, notes/assumptions/25.md). -/
def Obligations.PresetAndReadMotionCommands : Prop :=
  ∀ (s : State) (tag b mode slot blank : Byte) (h v : BitVec 16), s.takes →
    ((12 ≤ b.toNat ∨ 2 ≤ mode.toNat ∨ (4 ≤ slot.toNat ∧ slot ≠ 0xFF)) →
      exec (.storePreset tag b mode h v slot blank) s = .next (s.onlyAnswered tag .refusedRange [])) ∧
    (12 ≤ b.toNat → exec (.erasePreset tag b) s = .next (s.onlyAnswered tag .refusedRange []) ∧
      exec (.readPreset tag b) s = .next (s.onlyAnswered tag .refusedRange [])) ∧
    (8 ≤ b.toNat → ∀ page, exec (.readMotion tag b page) s = .next (s.onlyAnswered tag .refusedRange [])) ∧
    (∀ n : Fin 12, b.toNat = n.val →
      (∀ g : Option (Fin 4), (g = none ∧ slot = 0xFF ∨ ∃ m, g = some m ∧ slot.toNat = m.val) →
        (mode = 0 → exec (.storePreset tag b mode h v slot blank) s = .next { s with
          motion := { s.motion with presets := (s.motion.presets.set n
            ⟨true, min h.toNat s.axisH.limit, min v.toNat s.axisV.limit, g, decide (blank ≠ 0)⟩) }
          chan := s.answered tag (if s.axisH.limit < h.toNat ∨ s.axisV.limit < v.toNat then .okClamped else .ok) [] }) ∧
        (mode = 1 → s.axisH.homed = true → s.axisV.homed = true → s.axisH.state = .idle → s.axisV.state = .idle →
          exec (.storePreset tag b mode h v slot blank) s = .next { s with
            motion := { s.motion with presets := (s.motion.presets.set n
              ⟨true, s.axisH.position, s.axisV.position, g, decide (blank ≠ 0)⟩) }
            chan := s.answered tag .ok [] }) ∧
        (mode = 1 → (s.axisH.homed = false ∨ s.axisV.homed = false ∨ s.axisH.state ≠ .idle ∨ s.axisV.state ≠ .idle) →
          exec (.storePreset tag b mode h v slot blank) s = .next (s.onlyAnswered tag .refusedState []))) ∧
      exec (.erasePreset tag b) s = .next { s with
        motion := { s.motion with presets := s.motion.presets.set n { s.motion.presets[n] with valid := false } }
        chan := s.answered tag .ok [] } ∧
      exec (.readPreset tag b) s = .next (s.onlyAnswered tag .ok
        ([if (s.motion.presets[n]).valid then 1 else 0] ++ be16 (s.motion.presets[n]).hTarget ++
          be16 (s.motion.presets[n]).vTarget ++
          [match (s.motion.presets[n]).slot with
            | none => 0xFF
            | some m => BitVec.ofNat 8 m.val, if (s.motion.presets[n]).blank then 1 else 0]))) ∧
    (b.toNat < 8 →
      (s.motion.history[b.toNat]? = none →
        exec (.readMotion tag b 0) s = .next (s.onlyAnswered tag .ok [0, 0, 0, 0, 0, 0, 0, 0])) ∧
      (∀ e, s.motion.history[b.toNat]? = some e → exec (.readMotion tag b 0) s = .next (s.onlyAnswered tag .ok
        ([1, e.tag, BitVec.ofNat 8 e.kind.code, BitVec.ofNat 8 e.result.code] ++ be16 e.hPos ++ be16 e.vPos))) ∧
      (s.motion.executing = none → exec (.readMotion tag b 1) s = .next (s.onlyAnswered tag .ok
        [BitVec.ofNat 8 s.motion.queue.length, 0, 0, 0, 0, 0, 0, 0])) ∧
      (∀ x, s.motion.executing = some x → exec (.readMotion tag b 1) s = .next (s.onlyAnswered tag .ok
        [BitVec.ofNat 8 s.motion.queue.length, 1, x.req.tag, BitVec.ofNat 8 x.req.job.kind.code,
          BitVec.ofNat 8 x.req.phase.code, 0, 0, 0])))

/-! ### Invariants that every step keeps -/

/-- Every step keeps the light drive's invariant. -/
def Obligations.EveryStepKeepsLight : Prop :=
  ∀ s t : State, s.LightOk → step s = .next t → t.LightOk

/-- Every step keeps the frame records and the line store, the grid slots and the pointers in their form. -/
def Obligations.EveryStepKeepsFramesAndGrids : Prop :=
  ∀ s t : State, step s = .next t → (s.FramesOk → t.FramesOk) ∧ (s.GridsOk → t.GridsOk)

/-- Every step keeps the source records, the thermistor tables and the zone temperatures in their ranges. -/
def Obligations.EveryStepKeepsSources : Prop :=
  ∀ s t : State, s.SourcesOk → step s = .next t → t.SourcesOk

/-- Every step keeps the zones' and the fans' invariants. -/
def Obligations.EveryStepKeepsZonesAndFans : Prop :=
  ∀ s t : State, step s = .next t → (s.ZonesOk → t.ZonesOk) ∧ (s.FansOk → t.FansOk)

/-- Every step keeps the axes within their travel. -/
def Obligations.EveryStepKeepsAxes : Prop :=
  ∀ s t : State, s.AxesOk → step s = .next t → t.AxesOk

/-- Every step keeps the motion queue's, the state controller's and the control channel's invariants. -/
def Obligations.EveryStepKeepsQueueStateAndChannel : Prop :=
  ∀ s t : State, step s = .next t → (s.MotionOk → t.MotionOk) ∧ (s.CtlOk → t.CtlOk) ∧ (s.ChannelOk → t.ChannelOk)
end

