-- ==== Sys2Proof/Laws/State.lean ====
section
/-! SUPPORT. What each named update of the state changes, field by field, so that no proof unfolds a record
update. -/

namespace Sys2Proof.Machine

variable (s : State)

@[simp] theorem State.setWarp_fields (x : Warp) :
    (s.setWarp x).pending = s.pending ∧ (s.setWarp x).resetAsserted = s.resetAsserted ∧ (s.setWarp x).locked = s.locked ∧
    (s.setWarp x).warp = x ∧ (s.setWarp x).grid = s.grid ∧ (s.setWarp x).stats = s.stats ∧
    (s.setWarp x).light = s.light ∧ (s.setWarp x).temps = s.temps ∧ (s.setWarp x).zoneCtl = s.zoneCtl ∧
    (s.setWarp x).fanDrv = s.fanDrv ∧ (s.setWarp x).ctl = s.ctl ∧ (s.setWarp x).axisH = s.axisH ∧
    (s.setWarp x).axisV = s.axisV ∧ (s.setWarp x).motion = s.motion ∧ (s.setWarp x).chan = s.chan ∧
    (s.setWarp x).freeCount = s.freeCount := by
  simp [State.setWarp]

@[simp] theorem State.setGrid_fields (x : Vector Slot 4) :
    (s.setGrid x).pending = s.pending ∧ (s.setGrid x).resetAsserted = s.resetAsserted ∧ (s.setGrid x).locked = s.locked ∧
    (s.setGrid x).warp = s.warp ∧ (s.setGrid x).grid = x ∧ (s.setGrid x).stats = s.stats ∧
    (s.setGrid x).light = s.light ∧ (s.setGrid x).temps = s.temps ∧ (s.setGrid x).zoneCtl = s.zoneCtl ∧
    (s.setGrid x).fanDrv = s.fanDrv ∧ (s.setGrid x).ctl = s.ctl ∧ (s.setGrid x).axisH = s.axisH ∧
    (s.setGrid x).axisV = s.axisV ∧ (s.setGrid x).motion = s.motion ∧ (s.setGrid x).chan = s.chan ∧
    (s.setGrid x).freeCount = s.freeCount := by
  simp [State.setGrid]

@[simp] theorem State.setStats_fields (x : Stats) :
    (s.setStats x).pending = s.pending ∧ (s.setStats x).resetAsserted = s.resetAsserted ∧ (s.setStats x).locked = s.locked ∧
    (s.setStats x).warp = s.warp ∧ (s.setStats x).grid = s.grid ∧ (s.setStats x).stats = x ∧
    (s.setStats x).light = s.light ∧ (s.setStats x).temps = s.temps ∧ (s.setStats x).zoneCtl = s.zoneCtl ∧
    (s.setStats x).fanDrv = s.fanDrv ∧ (s.setStats x).ctl = s.ctl ∧ (s.setStats x).axisH = s.axisH ∧
    (s.setStats x).axisV = s.axisV ∧ (s.setStats x).motion = s.motion ∧ (s.setStats x).chan = s.chan ∧
    (s.setStats x).freeCount = s.freeCount := by
  simp [State.setStats]

@[simp] theorem State.setLight_fields (x : Light) :
    (s.setLight x).pending = s.pending ∧ (s.setLight x).resetAsserted = s.resetAsserted ∧ (s.setLight x).locked = s.locked ∧
    (s.setLight x).warp = s.warp ∧ (s.setLight x).grid = s.grid ∧ (s.setLight x).stats = s.stats ∧
    (s.setLight x).light = x ∧ (s.setLight x).temps = s.temps ∧ (s.setLight x).zoneCtl = s.zoneCtl ∧
    (s.setLight x).fanDrv = s.fanDrv ∧ (s.setLight x).ctl = s.ctl ∧ (s.setLight x).axisH = s.axisH ∧
    (s.setLight x).axisV = s.axisV ∧ (s.setLight x).motion = s.motion ∧ (s.setLight x).chan = s.chan ∧
    (s.setLight x).freeCount = s.freeCount := by
  simp [State.setLight]

@[simp] theorem State.setTemps_fields (x : Temps) :
    (s.setTemps x).pending = s.pending ∧ (s.setTemps x).resetAsserted = s.resetAsserted ∧ (s.setTemps x).locked = s.locked ∧
    (s.setTemps x).warp = s.warp ∧ (s.setTemps x).grid = s.grid ∧ (s.setTemps x).stats = s.stats ∧
    (s.setTemps x).light = s.light ∧ (s.setTemps x).temps = x ∧ (s.setTemps x).zoneCtl = s.zoneCtl ∧
    (s.setTemps x).fanDrv = s.fanDrv ∧ (s.setTemps x).ctl = s.ctl ∧ (s.setTemps x).axisH = s.axisH ∧
    (s.setTemps x).axisV = s.axisV ∧ (s.setTemps x).motion = s.motion ∧ (s.setTemps x).chan = s.chan ∧
    (s.setTemps x).freeCount = s.freeCount := by
  simp [State.setTemps]

@[simp] theorem State.setZoneCtl_fields (x : ZoneCtl) :
    (s.setZoneCtl x).pending = s.pending ∧ (s.setZoneCtl x).resetAsserted = s.resetAsserted ∧ (s.setZoneCtl x).locked = s.locked ∧
    (s.setZoneCtl x).warp = s.warp ∧ (s.setZoneCtl x).grid = s.grid ∧ (s.setZoneCtl x).stats = s.stats ∧
    (s.setZoneCtl x).light = s.light ∧ (s.setZoneCtl x).temps = s.temps ∧ (s.setZoneCtl x).zoneCtl = x ∧
    (s.setZoneCtl x).fanDrv = s.fanDrv ∧ (s.setZoneCtl x).ctl = s.ctl ∧ (s.setZoneCtl x).axisH = s.axisH ∧
    (s.setZoneCtl x).axisV = s.axisV ∧ (s.setZoneCtl x).motion = s.motion ∧ (s.setZoneCtl x).chan = s.chan ∧
    (s.setZoneCtl x).freeCount = s.freeCount := by
  simp [State.setZoneCtl]

@[simp] theorem State.setFanDrv_fields (x : FanDrv) :
    (s.setFanDrv x).pending = s.pending ∧ (s.setFanDrv x).resetAsserted = s.resetAsserted ∧ (s.setFanDrv x).locked = s.locked ∧
    (s.setFanDrv x).warp = s.warp ∧ (s.setFanDrv x).grid = s.grid ∧ (s.setFanDrv x).stats = s.stats ∧
    (s.setFanDrv x).light = s.light ∧ (s.setFanDrv x).temps = s.temps ∧ (s.setFanDrv x).zoneCtl = s.zoneCtl ∧
    (s.setFanDrv x).fanDrv = x ∧ (s.setFanDrv x).ctl = s.ctl ∧ (s.setFanDrv x).axisH = s.axisH ∧
    (s.setFanDrv x).axisV = s.axisV ∧ (s.setFanDrv x).motion = s.motion ∧ (s.setFanDrv x).chan = s.chan ∧
    (s.setFanDrv x).freeCount = s.freeCount := by
  simp [State.setFanDrv]

@[simp] theorem State.setCtl_fields (x : StateCtl) :
    (s.setCtl x).pending = s.pending ∧ (s.setCtl x).resetAsserted = s.resetAsserted ∧ (s.setCtl x).locked = s.locked ∧
    (s.setCtl x).warp = s.warp ∧ (s.setCtl x).grid = s.grid ∧ (s.setCtl x).stats = s.stats ∧
    (s.setCtl x).light = s.light ∧ (s.setCtl x).temps = s.temps ∧ (s.setCtl x).zoneCtl = s.zoneCtl ∧
    (s.setCtl x).fanDrv = s.fanDrv ∧ (s.setCtl x).ctl = x ∧ (s.setCtl x).axisH = s.axisH ∧
    (s.setCtl x).axisV = s.axisV ∧ (s.setCtl x).motion = s.motion ∧ (s.setCtl x).chan = s.chan ∧
    (s.setCtl x).freeCount = s.freeCount := by
  simp [State.setCtl]

@[simp] theorem State.setMotion_fields (x : Motion) :
    (s.setMotion x).pending = s.pending ∧ (s.setMotion x).resetAsserted = s.resetAsserted ∧ (s.setMotion x).locked = s.locked ∧
    (s.setMotion x).warp = s.warp ∧ (s.setMotion x).grid = s.grid ∧ (s.setMotion x).stats = s.stats ∧
    (s.setMotion x).light = s.light ∧ (s.setMotion x).temps = s.temps ∧ (s.setMotion x).zoneCtl = s.zoneCtl ∧
    (s.setMotion x).fanDrv = s.fanDrv ∧ (s.setMotion x).ctl = s.ctl ∧ (s.setMotion x).axisH = s.axisH ∧
    (s.setMotion x).axisV = s.axisV ∧ (s.setMotion x).motion = x ∧ (s.setMotion x).chan = s.chan ∧
    (s.setMotion x).freeCount = s.freeCount := by
  simp [State.setMotion]

@[simp] theorem State.setChan_fields (x : ChanState) :
    (s.setChan x).pending = s.pending ∧ (s.setChan x).resetAsserted = s.resetAsserted ∧ (s.setChan x).locked = s.locked ∧
    (s.setChan x).warp = s.warp ∧ (s.setChan x).grid = s.grid ∧ (s.setChan x).stats = s.stats ∧
    (s.setChan x).light = s.light ∧ (s.setChan x).temps = s.temps ∧ (s.setChan x).zoneCtl = s.zoneCtl ∧
    (s.setChan x).fanDrv = s.fanDrv ∧ (s.setChan x).ctl = s.ctl ∧ (s.setChan x).axisH = s.axisH ∧
    (s.setChan x).axisV = s.axisV ∧ (s.setChan x).motion = s.motion ∧ (s.setChan x).chan = x ∧
    (s.setChan x).freeCount = s.freeCount := by
  simp [State.setChan]

@[simp] theorem State.setLocked_fields (x : Bool) :
    (s.setLocked x).pending = s.pending ∧ (s.setLocked x).resetAsserted = s.resetAsserted ∧ (s.setLocked x).locked = x ∧
    (s.setLocked x).warp = s.warp ∧ (s.setLocked x).grid = s.grid ∧ (s.setLocked x).stats = s.stats ∧
    (s.setLocked x).light = s.light ∧ (s.setLocked x).temps = s.temps ∧ (s.setLocked x).zoneCtl = s.zoneCtl ∧
    (s.setLocked x).fanDrv = s.fanDrv ∧ (s.setLocked x).ctl = s.ctl ∧ (s.setLocked x).axisH = s.axisH ∧
    (s.setLocked x).axisV = s.axisV ∧ (s.setLocked x).motion = s.motion ∧ (s.setLocked x).chan = s.chan ∧
    (s.setLocked x).freeCount = s.freeCount := by
  simp [State.setLocked]

@[simp] theorem State.setResetAsserted_fields (x : Bool) :
    (s.setResetAsserted x).pending = s.pending ∧ (s.setResetAsserted x).resetAsserted = x ∧ (s.setResetAsserted x).locked = s.locked ∧
    (s.setResetAsserted x).warp = s.warp ∧ (s.setResetAsserted x).grid = s.grid ∧ (s.setResetAsserted x).stats = s.stats ∧
    (s.setResetAsserted x).light = s.light ∧ (s.setResetAsserted x).temps = s.temps ∧ (s.setResetAsserted x).zoneCtl = s.zoneCtl ∧
    (s.setResetAsserted x).fanDrv = s.fanDrv ∧ (s.setResetAsserted x).ctl = s.ctl ∧ (s.setResetAsserted x).axisH = s.axisH ∧
    (s.setResetAsserted x).axisV = s.axisV ∧ (s.setResetAsserted x).motion = s.motion ∧ (s.setResetAsserted x).chan = s.chan ∧
    (s.setResetAsserted x).freeCount = s.freeCount := by
  simp [State.setResetAsserted]

@[simp] theorem State.setPending_fields (x : List Instr) :
    (s.setPending x).pending = x ∧ (s.setPending x).resetAsserted = s.resetAsserted ∧ (s.setPending x).locked = s.locked ∧
    (s.setPending x).warp = s.warp ∧ (s.setPending x).grid = s.grid ∧ (s.setPending x).stats = s.stats ∧
    (s.setPending x).light = s.light ∧ (s.setPending x).temps = s.temps ∧ (s.setPending x).zoneCtl = s.zoneCtl ∧
    (s.setPending x).fanDrv = s.fanDrv ∧ (s.setPending x).ctl = s.ctl ∧ (s.setPending x).axisH = s.axisH ∧
    (s.setPending x).axisV = s.axisV ∧ (s.setPending x).motion = s.motion ∧ (s.setPending x).chan = s.chan ∧
    (s.setPending x).freeCount = s.freeCount := by
  simp [State.setPending]

@[simp] theorem State.setAxis_h_fields (x : Axis) :
    (s.setAxis .h x).pending = s.pending ∧ (s.setAxis .h x).resetAsserted = s.resetAsserted ∧ (s.setAxis .h x).locked = s.locked ∧
    (s.setAxis .h x).warp = s.warp ∧ (s.setAxis .h x).grid = s.grid ∧ (s.setAxis .h x).stats = s.stats ∧
    (s.setAxis .h x).light = s.light ∧ (s.setAxis .h x).temps = s.temps ∧ (s.setAxis .h x).zoneCtl = s.zoneCtl ∧
    (s.setAxis .h x).fanDrv = s.fanDrv ∧ (s.setAxis .h x).ctl = s.ctl ∧ (s.setAxis .h x).axisH = x ∧
    (s.setAxis .h x).axisV = s.axisV ∧ (s.setAxis .h x).motion = s.motion ∧ (s.setAxis .h x).chan = s.chan ∧
    (s.setAxis .h x).freeCount = s.freeCount := by
  simp [State.setAxis]

@[simp] theorem State.setAxis_v_fields (x : Axis) :
    (s.setAxis .v x).pending = s.pending ∧ (s.setAxis .v x).resetAsserted = s.resetAsserted ∧ (s.setAxis .v x).locked = s.locked ∧
    (s.setAxis .v x).warp = s.warp ∧ (s.setAxis .v x).grid = s.grid ∧ (s.setAxis .v x).stats = s.stats ∧
    (s.setAxis .v x).light = s.light ∧ (s.setAxis .v x).temps = s.temps ∧ (s.setAxis .v x).zoneCtl = s.zoneCtl ∧
    (s.setAxis .v x).fanDrv = s.fanDrv ∧ (s.setAxis .v x).ctl = s.ctl ∧ (s.setAxis .v x).axisH = s.axisH ∧
    (s.setAxis .v x).axisV = x ∧ (s.setAxis .v x).motion = s.motion ∧ (s.setAxis .v x).chan = s.chan ∧
    (s.setAxis .v x).freeCount = s.freeCount := by
  simp [State.setAxis]

/-- An axis update leaves everything but the axes, whichever axis it is. -/
@[simp] theorem State.setAxis_fields (a : AxisId) (x : Axis) :
    (s.setAxis a x).pending = s.pending ∧ (s.setAxis a x).resetAsserted = s.resetAsserted ∧ (s.setAxis a x).locked = s.locked ∧
    (s.setAxis a x).warp = s.warp ∧ (s.setAxis a x).grid = s.grid ∧ (s.setAxis a x).stats = s.stats ∧
    (s.setAxis a x).light = s.light ∧ (s.setAxis a x).temps = s.temps ∧ (s.setAxis a x).zoneCtl = s.zoneCtl ∧
    (s.setAxis a x).fanDrv = s.fanDrv ∧ (s.setAxis a x).ctl = s.ctl ∧ (s.setAxis a x).motion = s.motion ∧
    (s.setAxis a x).chan = s.chan ∧ (s.setAxis a x).freeCount = s.freeCount := by
  cases a <;> simp [State.setAxis]

@[simp] theorem State.axis_h : s.axis .h = s.axisH := rfl
@[simp] theorem State.axis_v : s.axis .v = s.axisV := rfl
@[simp] theorem State.axis_setAxis (a : AxisId) (x : Axis) : (s.setAxis a x).axis a = x := by cases a <;> rfl
@[simp] theorem State.axis_h_setAxis_v (x : Axis) : (s.setAxis .v x).axis .h = s.axisH := rfl
@[simp] theorem State.axis_v_setAxis_h (x : Axis) : (s.setAxis .h x).axis .v = s.axisV := rfl

@[simp] theorem State.setFan_fields (f : FanId) (x : Fan) :
    (s.setFan f x).pending = s.pending ∧ (s.setFan f x).resetAsserted = s.resetAsserted ∧ (s.setFan f x).locked = s.locked ∧
    (s.setFan f x).warp = s.warp ∧ (s.setFan f x).grid = s.grid ∧ (s.setFan f x).stats = s.stats ∧
    (s.setFan f x).light = s.light ∧ (s.setFan f x).temps = s.temps ∧ (s.setFan f x).zoneCtl = s.zoneCtl ∧
    (s.setFan f x).ctl = s.ctl ∧ (s.setFan f x).axisH = s.axisH ∧ (s.setFan f x).axisV = s.axisV ∧
    (s.setFan f x).motion = s.motion ∧ (s.setFan f x).chan = s.chan ∧ (s.setFan f x).freeCount = s.freeCount := by
  simp [State.setFan]

@[simp] theorem State.setZone_fields (z : ZoneId) (x : Zone) :
    (s.setZone z x).pending = s.pending ∧ (s.setZone z x).resetAsserted = s.resetAsserted ∧ (s.setZone z x).locked = s.locked ∧
    (s.setZone z x).warp = s.warp ∧ (s.setZone z x).grid = s.grid ∧ (s.setZone z x).stats = s.stats ∧
    (s.setZone z x).light = s.light ∧ (s.setZone z x).temps = s.temps ∧ (s.setZone z x).fanDrv = s.fanDrv ∧
    (s.setZone z x).ctl = s.ctl ∧ (s.setZone z x).axisH = s.axisH ∧ (s.setZone z x).axisV = s.axisV ∧
    (s.setZone z x).motion = s.motion ∧ (s.setZone z x).chan = s.chan ∧ (s.setZone z x).freeCount = s.freeCount := by
  simp [State.setZone]

@[simp] theorem State.setSlot_fields (n : Fin 4) (x : Slot) :
    (s.setSlot n x).pending = s.pending ∧ (s.setSlot n x).resetAsserted = s.resetAsserted ∧ (s.setSlot n x).locked = s.locked ∧
    (s.setSlot n x).warp = s.warp ∧ (s.setSlot n x).stats = s.stats ∧ (s.setSlot n x).light = s.light ∧
    (s.setSlot n x).temps = s.temps ∧ (s.setSlot n x).zoneCtl = s.zoneCtl ∧ (s.setSlot n x).fanDrv = s.fanDrv ∧
    (s.setSlot n x).ctl = s.ctl ∧ (s.setSlot n x).axisH = s.axisH ∧ (s.setSlot n x).axisV = s.axisV ∧
    (s.setSlot n x).motion = s.motion ∧ (s.setSlot n x).chan = s.chan ∧ (s.setSlot n x).freeCount = s.freeCount := by
  simp [State.setSlot]

@[simp] theorem State.setSource_fields (n : Fin 12) (x : Source) :
    (s.setSource n x).pending = s.pending ∧ (s.setSource n x).resetAsserted = s.resetAsserted ∧ (s.setSource n x).locked = s.locked ∧
    (s.setSource n x).warp = s.warp ∧ (s.setSource n x).grid = s.grid ∧ (s.setSource n x).stats = s.stats ∧
    (s.setSource n x).light = s.light ∧ (s.setSource n x).zoneCtl = s.zoneCtl ∧ (s.setSource n x).fanDrv = s.fanDrv ∧
    (s.setSource n x).ctl = s.ctl ∧ (s.setSource n x).axisH = s.axisH ∧ (s.setSource n x).axisV = s.axisV ∧
    (s.setSource n x).motion = s.motion ∧ (s.setSource n x).chan = s.chan ∧ (s.setSource n x).freeCount = s.freeCount := by
  simp [State.setSource]

@[simp] theorem State.raise_fields (e : EventFlag) :
    (s.raise e).pending = s.pending ∧ (s.raise e).resetAsserted = s.resetAsserted ∧ (s.raise e).locked = s.locked ∧
    (s.raise e).warp = s.warp ∧ (s.raise e).grid = s.grid ∧ (s.raise e).stats = s.stats ∧
    (s.raise e).light = s.light ∧ (s.raise e).temps = s.temps ∧ (s.raise e).zoneCtl = s.zoneCtl ∧
    (s.raise e).fanDrv = s.fanDrv ∧ (s.raise e).ctl = s.ctl ∧ (s.raise e).axisH = s.axisH ∧
    (s.raise e).axisV = s.axisV ∧ (s.raise e).motion = s.motion ∧ (s.raise e).freeCount = s.freeCount := by
  simp [State.raise]

@[simp] theorem State.raiseIf_fields (b : Bool) (e : EventFlag) :
    (s.raiseIf b e).pending = s.pending ∧ (s.raiseIf b e).resetAsserted = s.resetAsserted ∧ (s.raiseIf b e).locked = s.locked ∧
    (s.raiseIf b e).warp = s.warp ∧ (s.raiseIf b e).grid = s.grid ∧ (s.raiseIf b e).stats = s.stats ∧
    (s.raiseIf b e).light = s.light ∧ (s.raiseIf b e).temps = s.temps ∧ (s.raiseIf b e).zoneCtl = s.zoneCtl ∧
    (s.raiseIf b e).fanDrv = s.fanDrv ∧ (s.raiseIf b e).ctl = s.ctl ∧ (s.raiseIf b e).axisH = s.axisH ∧
    (s.raiseIf b e).axisV = s.axisV ∧ (s.raiseIf b e).motion = s.motion ∧ (s.raiseIf b e).freeCount = s.freeCount := by
  cases b <;> simp [State.raiseIf]

@[simp] theorem State.drawFreeIf_fields (b : Bool) :
    (s.drawFreeIf b).pending = s.pending ∧ (s.drawFreeIf b).resetAsserted = s.resetAsserted ∧ (s.drawFreeIf b).locked = s.locked ∧
    (s.drawFreeIf b).warp = s.warp ∧ (s.drawFreeIf b).grid = s.grid ∧ (s.drawFreeIf b).stats = s.stats ∧
    (s.drawFreeIf b).light = s.light ∧ (s.drawFreeIf b).temps = s.temps ∧ (s.drawFreeIf b).zoneCtl = s.zoneCtl ∧
    (s.drawFreeIf b).fanDrv = s.fanDrv ∧ (s.drawFreeIf b).ctl = s.ctl ∧ (s.drawFreeIf b).axisH = s.axisH ∧
    (s.drawFreeIf b).axisV = s.axisV ∧ (s.drawFreeIf b).motion = s.motion ∧ (s.drawFreeIf b).chan = s.chan := by
  cases b <;> simp [State.drawFreeIf, State.drawFree]

@[simp] theorem State.raise_chan (e : EventFlag) : (s.raise e).chan = s.chan.raise e := rfl
@[simp] theorem State.fan_setFan (f : FanId) (x : Fan) : (s.setFan f x).fan f = x := by simp [State.fan, State.setFan]
@[simp] theorem State.zone_setZone (z : ZoneId) (x : Zone) : (s.setZone z x).zone z = x := by simp [State.zone, State.setZone]
@[simp] theorem State.slot_setSlot (n : Fin 4) (x : Slot) : (s.setSlot n x).slot n = x := by simp [State.slot, State.setSlot]
@[simp] theorem State.source_setSource (n : Fin 12) (x : Source) : (s.setSource n x).source n = x := by
  simp [State.source, State.setSource]

theorem State.fan_setFan_of_ne {f g : FanId} (h : g ≠ f) (x : Fan) : (s.setFan f x).fan g = s.fan g := by
  cases f <;> cases g <;> first | exact absurd rfl h | simp [State.fan, State.setFan, FanId.idx]

theorem State.zone_setZone_of_ne {y z : ZoneId} (h : y ≠ z) (x : Zone) : (s.setZone z x).zone y = s.zone y := by
  cases z <;> cases y <;> first | exact absurd rfl h | simp [State.zone, State.setZone, ZoneId.idx]

theorem State.slot_setSlot_of_ne {m n : Fin 4} (h : m ≠ n) (x : Slot) : (s.setSlot n x).slot m = s.slot m := by
  have : n.val ≠ m.val := fun e => h (Fin.ext e.symm)
  simp [State.slot, State.setSlot, this]

theorem State.source_setSource_of_ne {m n : Fin 12} (h : m ≠ n) (x : Source) : (s.setSource n x).source m = s.source m := by
  have : n.val ≠ m.val := fun e => h (Fin.ext e.symm)
  simp [State.source, State.setSource, this]

/-- A flag that a block sets is set (R173). -/
@[simp] theorem ChanState.flag_raise (c : ChanState) (e : EventFlag) : (c.raise e).flag e = true := by
  cases e <;> simp [ChanState.flag, ChanState.raise, EventFlag.mask, EventFlag.bit]

/-- Setting a flag sets no other. -/
theorem ChanState.flag_raise_of_ne (c : ChanState) {d e : EventFlag} (h : d ≠ e) : (c.raise e).flag d = c.flag d := by
  cases d <;> cases e <;> first | exact absurd rfl h | simp [ChanState.flag, ChanState.raise, EventFlag.mask, EventFlag.bit]

/-- Setting a flag changes nothing but the flags. -/
@[simp] theorem ChanState.raise_fields (c : ChanState) (e : EventFlag) :
    (c.raise e).taken = c.taken ∧ (c.raise e).ignored = c.ignored ∧ (c.raise e).entries = c.entries ∧
    (c.raise e).frameCount = c.frameCount ∧ (c.raise e).enables = c.enables ∧ (c.raise e).lane = c.lane ∧
    (c.raise e).waiting = c.waiting := by
  simp [ChanState.raise]

/-- Both sensor-bus lines are released exactly while RESET_N is asserted or no entry is in flight (R73, R89). -/
theorem State.busReleased_iff (s : State) : s.busReleased = true ↔ s.resetAsserted = true ∨ s.temps.flight = none := by
  simp [State.busReleased, State.live]

end Sys2Proof.Machine
end

