-- ==== Sys2Proof/Laws/Channel.lean ====
section
/-! SUPPORT. What can happen to a packet that reaches the control channel, and what its owner's work then leaves
alone. -/

namespace Sys2Proof.Machine

/-- The pixels of a line carry its component words back, but for the zeros that fill up the last pixel (R179). -/
theorem lineWords_linePixels (ws : List LaneWord) : ∃ pad, lineWords (linePixels ws) = ws ++ pad := by
  induction ws using linePixels.induct with
  | case1 => exact ⟨[], rfl⟩
  | case2 r => exact ⟨[0, 0], rfl⟩
  | case3 r g => exact ⟨[0], rfl⟩
  | case4 r g b rest ih =>
    obtain ⟨pad, h⟩ := ih
    exact ⟨pad, by simpa [linePixels, lineWords] using h⟩

/-- Everything that taking a packet can do: nothing where no packet arrives or one is discarded, the command with its
answer entry, or a line ignored (R14, R128, R167, R170). -/
theorem State.takePacket_cases (s : State) (tag : Byte) (run : Owner) :
    (s.linked = false ∧ s.takePacket tag run = s) ∨
    (s.linked = true ∧ s.ctl.resetPending = true ∧ s.takePacket tag run = s) ∨
    (s.linked = true ∧ s.ctl.resetPending = false ∧ s.chan.taken < 16 ∧ s.takePacket tag run = s.carryOut tag run) ∨
    (s.linked = true ∧ s.ctl.resetPending = false ∧ 16 ≤ s.chan.taken ∧ s.takePacket tag run = s.ignoreLine) := by
  simp only [State.takePacket, State.whenLinked, Config.maxPackets]
  rcases Nat.lt_or_ge s.chan.taken 16 with h | h <;> cases s.linked <;> cases s.ctl.resetPending <;>
    simp [h, Nat.not_lt_of_ge]

/-- A packet that the control channel takes is carried out and answered (R167, R170). -/
theorem State.takePacket_of_takes {s : State} (h : s.takes) (tag : Byte) (run : Owner) :
    s.takePacket tag run = s.carryOut tag run := by
  obtain ⟨hr, hl, hp, ht⟩ := h
  simp [State.takePacket, State.whenLinked, State.linked, State.live, hr, hl, hp, ht, Config.maxPackets]

/-- An owner that changes nothing leaves the packet's answer alone behind it (R170). -/
theorem State.carryOut_of_same (s : State) (tag : Byte) (run : Owner) (r : Reply) (h : run s.countTaken = (s.countTaken, r)) :
    s.carryOut tag run = s.onlyAnswered tag r.result r.data := by
  rw [State.carryOut, h]
  rfl

/-- Any property that survives a packet's count, its owner's work and its entry survives the packet. -/
theorem State.takePacket_keeps {P : State → Prop} {s : State} {tag : Byte} {run : Owner} (h : P s)
    (chan : ∀ (t : State) (c : ChanState), P t → P (t.setChan c)) (owner : ∀ t, P t → P (run t).1) :
    P (s.takePacket tag run) := by
  have count : P s.countTaken := chan _ _ h
  have ignored : P s.ignoreLine := by
    unfold State.ignoreLine State.raiseIf
    split
    · exact chan _ _ (chan _ _ h)
    · exact chan _ _ h
  rcases s.takePacket_cases tag run with ⟨-, e⟩ | ⟨-, -, e⟩ | ⟨-, -, -, e⟩ | ⟨-, -, -, e⟩ <;> rw [e]
  · exact h
  · exact h
  · exact chan _ _ (owner _ count)
  · exact ignored

/-- A frame answer's bytes: the header and the entries, then their CRC (R180). -/
theorem State.frameAnswer_bytes (s : State) :
    ∃ body, body = s.header ++ s.chan.entries.flatMap Entry.bytes ∧ s.frameAnswer.bytes = body ++ wordBytes (crc16 body) :=
  ⟨_, rfl, rfl⟩

/-- The header has 21 bytes (R180). -/
theorem State.header_length (s : State) : s.header.length = 21 := by
  have h1 : (orNone (s.warp.active.map Fin.val)).length = 1 := by cases s.warp.active <;> rfl
  have h2 : (choiceByte s.warp.choice).length = 1 := by
    rcases s.warp.choice with _ | ⟨_ | _, _⟩ <;> rfl
  simp [State.header, be16, be32, byte, flagByte, h1, h2]

/-- Forming and sending an answer leaves the flags and the enables (R171, R172). -/
theorem State.formAnswer_frame (s : State) : ∃ c, s.formAnswer = s.setChan c ∧ c.flags = s.chan.flags ∧
    c.enables = s.chan.enables ∧ c.taken = 0 ∧ c.ignored = 0 ∧ c.entries = [] ∧
    c.frameCount = (s.chan.frameCount + 1) % 65536 := by
  refine ⟨_, rfl, ?_⟩
  simp only [ChanState.send, ChanState.nextCount]
  cases s.chan.lane with
  | none => simp
  | some a =>
    cases s.chan.waiting with
    | none => simp
    | some w =>
      cases hw : w.holdsReset <;> cases hp : s.ctl.resetPending <;> simp [hw]

end Sys2Proof.Machine
end

