-- ==== Sys2Proof/Laws/LineStore.lean ====
section
/-! SUPPORT. The line store: a read after a write, and the one form that every write keeps; and which frame records
an input frame start overtakes. -/

namespace Sys2Proof.Machine

/-- A read of the place just written gives the line written (R8). -/
theorem readLine_writeLine_self (st : LineStore) (k : Nat) (l : Line) (h : st.Pairwise fun a b => a.1 < b.1) :
    readLine (writeLine st k l) k = l := by
  induction st with
  | nil => by_cases hl : l = [] <;> simp [writeLine, readLine, hl]
  | cons c cs ih =>
    rw [List.pairwise_cons] at h
    have past : ∀ ds : LineStore, (∀ d ∈ ds, k < d.1) → readLine ds k = [] := by
      intro ds hd
      induction ds with
      | nil => rfl
      | cons d ds ih' =>
        have := hd d (by simp)
        simp only [readLine]
        rw [if_neg (by omega)]
        exact ih' fun e he => hd e (by simp [he])
    simp only [writeLine]
    split
    · rename_i hk
      by_cases hl : l = []
      · simp only [hl, if_true]
        exact past _ (by
          intro d hd
          rcases List.mem_cons.1 hd with rfl | hd
          · exact hk
          · exact Nat.lt_trans hk (h.1 d hd))
      · simp [hl, readLine]
    · split
      · rename_i hk
        by_cases hl : l = []
        · simp only [hl, if_true]
          exact past _ (by intro d hd; rw [hk]; exact h.1 d hd)
        · simp [hl, readLine]
      · rename_i hk hk'
        simp only [readLine]
        rw [if_neg (by omega)]
        exact ih h.2

/-- A read of any other place gives what it gave before (R8). -/
theorem readLine_writeLine_other (st : LineStore) {j k : Nat} (l : Line) (h : j ≠ k) :
    readLine (writeLine st k l) j = readLine st j := by
  induction st with
  | nil => by_cases hl : l = [] <;> simp [writeLine, readLine, hl, Ne.symm h]
  | cons c cs ih =>
    simp only [writeLine]
    split
    · by_cases hl : l = [] <;> simp [hl, readLine, Ne.symm h]
    · split
      · rename_i hk
        by_cases hl : l = [] <;> simp [hl, readLine, ← hk, Ne.symm h]
      · simp [readLine, ih]

/-- Every entry after a write is the new one or an old one. -/
theorem mem_writeLine {st : LineStore} {k : Nat} {l : Line} {c : Nat × Line} (h : c ∈ writeLine st k l) :
    (c = (k, l) ∧ l ≠ []) ∨ c ∈ st := by
  induction st with
  | nil => by_cases hl : l = [] <;> simp_all [writeLine]
  | cons d ds ih =>
    simp only [writeLine] at h
    split at h
    · by_cases hl : l = [] <;> simp_all
    · split at h
      · by_cases hl : l = [] <;> simp_all
        rcases h with h | h <;> simp [h]
      · rcases List.mem_cons.1 h with h | h
        · simp [h]
        · rcases ih h with h | h <;> simp [h]

/-- A write keeps the places rising. -/
theorem writeLine_rising (st : LineStore) (k : Nat) (l : Line) (h : st.Pairwise fun a b => a.1 < b.1) :
    (writeLine st k l).Pairwise fun a b => a.1 < b.1 := by
  induction st with
  | nil => by_cases hl : l = [] <;> simp [writeLine, hl]
  | cons c cs ih =>
    have hc := List.pairwise_cons.1 h
    simp only [writeLine]
    split
    · rename_i hk
      by_cases hl : l = []
      · simpa [hl] using h
      · simp only [hl, if_false]
        refine List.pairwise_cons.2 ⟨fun d hd => ?_, h⟩
        rcases List.mem_cons.1 hd with rfl | hd
        · exact hk
        · exact Nat.lt_trans hk (hc.1 d hd)
    · split
      · rename_i hk
        by_cases hl : l = []
        · simpa [hl] using hc.2
        · simp only [hl, if_false]
          exact List.pairwise_cons.2 ⟨fun d hd => by simpa [hk] using hc.1 d hd, hc.2⟩
      · rename_i hk hk'
        refine List.pairwise_cons.2 ⟨fun d hd => ?_, ih hc.2⟩
        rcases mem_writeLine hd with ⟨rfl, -⟩ | hd
        · show c.1 < k
          omega
        · exact hc.1 d hd

/-- A line's trailing black pixels are dropped once and for all. -/
theorem trimBlack_idem (ps : List Pixel) : trimBlack (trimBlack ps) = trimBlack ps := by
  induction ps with
  | nil => rfl
  | cons p ps ih =>
    simp only [trimBlack]
    split
    · rfl
    · rename_i h
      simp only [trimBlack, ih, h, if_false]

theorem trimBlack_length (ps : List Pixel) : (trimBlack ps).length ≤ ps.length := by
  induction ps with
  | nil => simp [trimBlack]
  | cons p ps ih =>
    simp only [trimBlack]
    split
    · simp
    · simpa using ih

/-- Reading a trimmed line gives what the whole line gives. -/
theorem getD_trimBlack (ps : List Pixel) (c : Nat) : (trimBlack ps).getD c black = ps.getD c black := by
  induction ps generalizing c with
  | nil => rfl
  | cons p ps ih =>
    simp only [trimBlack]
    split
    · rename_i h
      cases c with
      | zero => simp [h.2]
      | succ c =>
        have := ih c
        rw [h.1] at this
        simpa using this
    · cases c with
      | zero => simp
      | succ c => simpa using ih c

/-- The line that an active line is stored as has its one form, and reads as the line's first 3840 pixels (R6). -/
theorem lineWf_storedLine (ps : List Pixel) : lineWf (storedLine ps) = true := by
  have h := trimBlack_length (ps.take Config.lineWidth)
  simp only [List.length_take] at h
  have : (trimBlack (ps.take Config.lineWidth)).length ≤ Config.lineWidth := Nat.le_trans h (Nat.min_le_left _ _)
  simp [lineWf, storedLine, trimBlack_idem, this]

theorem lineWf_nil : lineWf [] = true := by decide

theorem getD_storedLine (ps : List Pixel) {c : Nat} (h : c < 3840) : (storedLine ps).getD c black = ps.getD c black := by
  rw [storedLine, getD_trimBlack]
  simp [List.getD_eq_getElem?_getD, Config.lineWidth, h]

/-- A write of a line in its one form into a place below 320 keeps the store's one form (R8). -/
theorem storeWf_writeLine {st : LineStore} {k : Nat} {l : Line} (h : storeWf st = true) (hk : k < 320)
    (hl : lineWf l = true) : storeWf (writeLine st k l) = true := by
  simp only [storeWf, Bool.and_eq_true, decide_eq_true_eq, List.all_eq_true] at h ⊢
  refine ⟨writeLine_rising _ _ _ h.1, fun c hc => ?_⟩
  rcases mem_writeLine hc with ⟨rfl, hne⟩ | hc
  · exact ⟨⟨hk, hne⟩, hl⟩
  · exact h.2 c hc

/-- A line time that takes a line stores it at the write position and moves the position on (R8). -/
theorem Warp.takeLine_store (w : Warp) (kind : LineKind) (l : Line) :
    (w.takeLine kind l).store = writeLine w.store w.writePos l ∧ (w.takeLine kind l).writePos = (w.writePos + 1) % 320 := by
  simp [Warp.takeLine, Config.linePlaces]

/-! ### Frame records -/

/-- An input frame start overtakes a frame that waits (R13). -/
theorem Warp.overtakes_iff (w : Warp) : w.overtakes = true ↔ ∃ f ∈ w.frames, f.output = .waiting := by
  simp only [Warp.overtakes, FrameRec.isWaiting, List.any_eq_true, decide_eq_true_eq]

/-- An output frame start is due 160 line times after the input frame start of a record that waits (R11). -/
theorem Warp.frameStartDue_iff (w : Warp) :
    w.frameStartDue = true ↔ ∃ f ∈ w.frames, f.output = .waiting ∧ w.lineTime = f.start + 160 := by
  have h : ∀ f : FrameRec, decide (w.lineTime = f.start + Config.latency) = true ↔ w.lineTime = f.start + 160 :=
    fun _ => decide_eq_true_iff
  simp only [Warp.frameStartDue, FrameRec.dueAt, FrameRec.isWaiting, List.any_eq_true, Bool.and_eq_true, decide_eq_true_eq, h]

@[simp] theorem State.setLineTime_lineTime (s : State) (n : Nat) : (s.setLineTime n).warp.lineTime = n := rfl
@[simp] theorem State.setLineTime_self (s : State) : s.setLineTime s.warp.lineTime = s := rfl
@[simp] theorem State.setLineTime_setLineTime (s : State) (m n : Nat) : (s.setLineTime m).setLineTime n = s.setLineTime n := rfl

/-- Where no output frame start falls in the next line time, an input frame start brings none (R11). -/
theorem State.startDueFirst_of_not_due (s : State)
    (h : ∀ f ∈ s.warp.frames, f.output = .waiting → s.warp.lineTime + 1 ≠ f.start + 160) : s.startDueFirst = s := by
  have hd : (s.setLineTime (s.warp.lineTime + 1)).warp.frameStartDue = false := by
    rw [← Bool.not_eq_true, Warp.frameStartDue_iff]
    rintro ⟨f, hf, hw, hl⟩
    exact h f hf hw hl
  simp [State.startDueFirst, State.outputFrameStart, hd]

/-- With at most one record waiting, none waits after the output frame start that falls in an input frame start's
line time (R4, R11). -/
theorem Warp.beginOutput_of_due (older : List FrameRec) (f : FrameRec) (now : Nat) (h : ∀ g ∈ older, g.output = .output)
    (hf : f.output = .waiting) (hd : now = f.start + 160) :
    beginOutput now (older ++ [f]) = older ++ [{ f with output := .output, nextLine := 0 }] := by
  have due : f.dueAt now = true := by simp [FrameRec.dueAt, FrameRec.isWaiting, hf, hd, Config.latency]
  induction older with
  | nil => simp [beginOutput, due]
  | cons g gs ih =>
    have hg : g.dueAt now = false := by simp [FrameRec.dueAt, FrameRec.isWaiting, h g (by simp)]
    simp [beginOutput, hg, ih fun x hx => h x (by simp [hx])]

end Sys2Proof.Machine
end

