-- ==== Sys2Proof/Laws/Motion.lean ====
section
/-! SUPPORT. What the motion queue can do to the part, said once: a predicate that its few primitive actions keep
is kept by everything the queue does (R153 to R163). -/

namespace Sys2Proof.Machine

/-- A predicate on the part that every primitive action of the motion queue keeps. -/
structure QueueClosed (P : State → Prop) : Prop where
  axis : ∀ s a x, P s → P (s.setAxis a x)
  motion : ∀ s m, m.blankHold = s.motion.blankHold → m.presets = s.motion.presets → P s → P (s.setMotion m)
  done : ∀ s, P s → P (s.raise .motionDone)
  endstop : ∀ s, P s → P (s.raise .endstop)
  homeFail : ∀ s, P s → P (s.raise .homeFail)
  unhold : ∀ s, P s → P s.releaseHold
  hold : ∀ s j, P s → P (s.takeHold j)
  place : ∀ s n tag, (s.slot n).state = .valid → P s → P (s.setWarp { s.warp with choice := some ⟨some n, .recall tag⟩ })
  unplace : ∀ s, P s → P (s.setWarp { s.warp with choice := none })

variable {P : State → Prop} {s : State}

namespace QueueClosed

theorem setExecuting (c : QueueClosed P) (x : Option Executing) (h : P s) : P (s.setExecuting x) :=
  c.motion _ _ rfl rfl h

theorem record (c : QueueClosed P) (r : Request) (res : MotionResult) (h : P s) : P (s.record r res) :=
  c.done _ (c.motion _ _ rfl rfl h)

theorem endRequest (c : QueueClosed P) (res : MotionResult) (h : P s) : P (s.endRequest res) := by
  unfold State.endRequest
  split
  · exact h
  · exact c.motion _ _ rfl rfl (c.unhold _ (c.record _ _ h))

theorem endAll (c : QueueClosed P) (res : MotionResult) (rs : List Request) (h : P s) : P (s.endAll res rs) := by
  induction rs generalizing s with
  | nil => exact h
  | cons r rs ih => exact ih (c.record r res h)

theorem flushQueue (c : QueueClosed P) (res : MotionResult) (h : P s) : P (s.flushQueue res) :=
  c.motion _ _ rfl rfl (c.endAll res _ h)

theorem stopAside (c : QueueClosed P) (a : AxisId) (h : P s) : P (s.stopAside a) := by
  unfold State.stopAside
  split
  · exact c.axis _ _ _ h
  · exact h

theorem stopRequestAxes (c : QueueClosed P) (x : Executing) (h : P s) : P (s.stopRequestAxes x) := by
  unfold State.stopRequestAxes
  split <;> split <;> first | exact c.stopAside _ (c.stopAside _ h) | exact c.stopAside _ h | exact h

theorem noteOutcome (c : QueueClosed P) (a : AxisId) (o : AxisOutcome) (h : P s) : P (s.noteOutcome a o) := by
  unfold State.noteOutcome
  split
  · exact h
  · split
    · cases o with
      | done clamped => exact c.setExecuting _ h
      | stopped => exact c.setExecuting _ h
      | endstop _ => exact c.stopRequestAxes _ (c.endRequest _ h)
      | homeFail => exact c.endRequest _ h
    · exact h

theorem flags (c : QueueClosed P) (o : AxisOutcome) (h : P s) : P (o.flags s) := by
  cases o with
  | done _ => exact h
  | stopped => exact h
  | endstop _ => exact c.endstop _ h
  | homeFail => exact c.homeFail _ h

theorem takeEvent (c : QueueClosed P) (a : AxisId) (e : AxisEvent) (h : P s) : P (s.takeEvent a e) := by
  cases e with
  | quiet => exact h
  | asks => exact h
  | outcome o => exact c.noteOutcome _ _ (c.flags o h)

theorem resume (c : QueueClosed P) (x : Executing) (h : P s) : P (s.resume x) := c.motion _ _ rfl rfl h

theorem holdStart (c : QueueClosed P) (x : Executing) (h : P s) : P (s.holdStart x) := by
  unfold State.holdStart
  split
  · exact c.resume x h
  · split
    · exact h
    · exact c.motion _ _ rfl rfl h

theorem beginAxis (c : QueueClosed P) (x : Executing) (a : AxisId) (h : P s) : P (s.beginAxis x a).1 := c.axis _ _ _ h

theorem startOne (c : QueueClosed P) (x : Executing) (a : AxisId) (h : P s) : P (s.startOne x a).1 := by
  cases a <;> exact c.beginAxis _ _ (c.resume _ h)

theorem startBoth (c : QueueClosed P) (x : Executing) (h : P s) : P (s.startBoth x).1 :=
  c.beginAxis x .v (c.beginAxis x .h (c.resume ((x.setWork .h .active).setWork .v .active) h))

theorem judgeRail (c : QueueClosed P) (x : Executing) (h : P s) : P (s.judgeRail x).1 := by
  unfold State.judgeRail
  split
  · split
    · exact c.startBoth x h
    · split
      · exact c.startOne _ _ h
      · exact c.holdStart x h
  · split
    · exact c.startOne _ _ h
    · exact c.holdStart x h
  · split
    · exact c.startOne _ _ h
    · exact c.holdStart x h
  · exact h

theorem enterSwitching (c : QueueClosed P) (x : Executing) (n : Fin 4) (hv : (s.slot n).state = .valid) (h : P s) :
    P (s.enterSwitching x n) := by
  have h2 := c.setExecuting (some (x.setPhase .switching)) (c.place s n x.req.tag hv h)
  unfold State.enterSwitching
  dsimp only
  split
  · exact h2
  · exact c.endRequest _ h2

theorem finishWork (c : QueueClosed P) (x : Executing) (h : P s) : P (s.finishWork x) := by
  unfold State.finishWork
  split
  · split
    · exact c.endRequest _ h
    · split
      · exact c.enterSwitching x _ ‹_› h
      · exact c.endRequest _ h
  · exact c.endRequest _ h
  · exact c.endRequest _ h
  · exact c.endRequest _ h

theorem carryOn (c : QueueClosed P) (n : Nat) (h : P s) : P (s.carryOn n) := by
  induction n generalizing s with
  | zero => exact h
  | succ n ih =>
    unfold State.carryOn
    split
    · exact h
    · rename_i x _
      have hj := c.judgeRail x h
      split
      · exact h
      · split
        · split
          · exact h
          · exact c.endRequest _ h
        · split
          · exact c.finishWork x h
          · split
            · rename_i t heq
              rw [heq] at hj
              exact hj
            · rename_i t eh ev _ heq
              rw [heq] at hj
              exact ih (c.takeEvent _ _ (c.takeEvent _ _ hj))

theorem handIdle (c : QueueClosed P) (a : AxisId) (h : P s) : P (s.handIdle a) := by
  unfold State.handIdle
  split
  · exact h
  · split
    · exact c.takeEvent _ _ (c.axis _ _ _ (c.setExecuting _ h))
    · exact h

theorem startRequest (c : QueueClosed P) (r : Request) (h : P s) : P (s.startRequest r) := by
  have h1 := c.setExecuting (some (s.executingOf r)) h
  unfold State.startRequest
  dsimp only
  split
  · exact c.endRequest _ h1
  · exact c.carryOn _ (c.handIdle _ (c.handIdle _ (c.hold _ _ h1)))

theorem startHeads (c : QueueClosed P) (n : Nat) (h : P s) : P (s.startHeads n) := by
  induction n generalizing s with
  | zero => exact h
  | succ n ih =>
    unfold State.startHeads
    split
    · exact h
    · split
      · exact ih (c.startRequest _ (c.motion _ _ rfl rfl h))
      · exact h

/-- What the queue starts keeps the predicate (R153). -/
theorem pump (c : QueueClosed P) (h : P s) : P s.pump := c.startHeads _ h

theorem proceed (c : QueueClosed P) (h : P s) : P s.proceed := c.pump (c.carryOn _ h)

theorem afterEvent (c : QueueClosed P) (a : AxisId) (e : AxisEvent) (h : P s) : P (s.afterEvent a e) := by
  unfold State.afterEvent
  split
  · exact h
  · exact c.proceed (c.takeEvent _ _ h)

theorem endSwitching (c : QueueClosed P) (h : P s) : P s.endSwitching := by
  unfold State.endSwitching
  split
  · exact h
  · split
    · exact c.pump (c.endRequest _ h)
    · exact h

theorem withdraw (c : QueueClosed P) (tag : Byte) (h : P s) : P (s.withdraw tag) := by
  unfold State.withdraw
  split
  · exact c.unplace _ h
  · exact h

theorem withdrawIfSwitching (c : QueueClosed P) (x : Executing) (h : P s) : P (s.withdrawIfSwitching x) := by
  unfold State.withdrawIfSwitching
  split
  · exact c.withdraw _ h
  · exact h

theorem railTimeout (c : QueueClosed P) (h : P s) : P s.railTimeout := by
  unfold State.railTimeout
  split
  · exact h
  · split
    · exact c.pump (c.stopRequestAxes _ (c.endRequest _ h))
    · exact h

theorem stopActive (c : QueueClosed P) (a : AxisId) (h : P s) : P (s.stopActive a) := by
  unfold State.stopActive
  split
  · exact h
  · split
    · exact c.takeEvent _ _ (c.axis _ _ _ h)
    · exact h

theorem stopExecuting (c : QueueClosed P) (h : P s) : P s.stopExecuting := by
  unfold State.stopExecuting
  split
  · exact h
  · split
    · exact c.endRequest _ (c.withdraw _ h)
    · split
      · exact h
      · exact c.carryOn _ (c.stopActive _ (c.stopActive _ (c.setExecuting _ h)))

/-- STOP_MOTION keeps the predicate (R162). -/
theorem stopMotion (c : QueueClosed P) (h : P s) : P s.stopMotion := c.pump (c.flushQueue _ (c.stopExecuting h))

/-- The queue's part of an entry to TRIPPED keeps the predicate (R163). -/
theorem abortMotion (c : QueueClosed P) (h : P s) : P s.abortMotion := by
  unfold State.abortMotion
  refine c.flushQueue _ (c.unhold _ ?_)
  split
  · exact h
  · exact c.stopRequestAxes _ (c.endRequest _ (c.withdrawIfSwitching _ h))

end QueueClosed

/-- The motion queue leaves every block but the axes, itself, the light drive, the pending choice and the event
flags as it is. -/
structure QueueFrame (s t : State) : Prop where
  pending : t.pending = s.pending
  resetAsserted : t.resetAsserted = s.resetAsserted
  locked : t.locked = s.locked
  warp : { t.warp with choice := s.warp.choice } = s.warp
  grid : t.grid = s.grid
  stats : t.stats = s.stats
  temps : t.temps = s.temps
  zoneCtl : t.zoneCtl = s.zoneCtl
  fanDrv : t.fanDrv = s.fanDrv
  ctl : t.ctl = s.ctl
  presets : t.motion.presets = s.motion.presets
  chan : { t.chan with flags := s.chan.flags } = s.chan
  freeCount : t.freeCount = s.freeCount

theorem QueueFrame.refl (s : State) : QueueFrame s s := ⟨rfl, rfl, rfl, rfl, rfl, rfl, rfl, rfl, rfl, rfl, rfl, rfl, rfl⟩

/-- Everything the motion queue does keeps the frame of the state it started from. -/
theorem queueFrame_closed (s : State) : QueueClosed (QueueFrame s) where
  axis t a x h := by
    cases a <;> exact ⟨h.1, h.2, h.3, h.4, h.5, h.6, h.7, h.8, h.9, h.10, h.11, h.12, h.13⟩
  motion t m _ hp h := ⟨h.1, h.2, h.3, h.4, h.5, h.6, h.7, h.8, h.9, h.10, hp.trans h.11, h.12, h.13⟩
  done t h := ⟨h.1, h.2, h.3, h.4, h.5, h.6, h.7, h.8, h.9, h.10, h.11, h.12, h.13⟩
  endstop t h := ⟨h.1, h.2, h.3, h.4, h.5, h.6, h.7, h.8, h.9, h.10, h.11, h.12, h.13⟩
  homeFail t h := ⟨h.1, h.2, h.3, h.4, h.5, h.6, h.7, h.8, h.9, h.10, h.11, h.12, h.13⟩
  unhold t h := by
    unfold State.releaseHold
    split
    · exact ⟨h.1, h.2, h.3, h.4, h.5, h.6, h.7, h.8, h.9, h.10, h.11, h.12, h.13⟩
    · exact h
  hold t j h := by
    unfold State.takeHold
    split
    · split
      · exact ⟨h.1, h.2, h.3, h.4, h.5, h.6, h.7, h.8, h.9, h.10, h.11, h.12, h.13⟩
      · exact h
    · exact h
    · exact h
    · exact h
  place t n tag _ h := ⟨h.1, h.2, h.3, h.4, h.5, h.6, h.7, h.8, h.9, h.10, h.11, h.12, h.13⟩
  unplace t h := ⟨h.1, h.2, h.3, h.4, h.5, h.6, h.7, h.8, h.9, h.10, h.11, h.12, h.13⟩

theorem State.pump_frame (s : State) : QueueFrame s s.pump := (queueFrame_closed s).pump (.refl s)
theorem State.proceed_frame (s : State) : QueueFrame s s.proceed := (queueFrame_closed s).proceed (.refl s)
theorem State.afterEvent_frame (s : State) (a : AxisId) (e : AxisEvent) : QueueFrame s (s.afterEvent a e) :=
  (queueFrame_closed s).afterEvent a e (.refl s)
theorem State.endSwitching_frame (s : State) : QueueFrame s s.endSwitching := (queueFrame_closed s).endSwitching (.refl s)
theorem State.stopMotion_frame (s : State) : QueueFrame s s.stopMotion := (queueFrame_closed s).stopMotion (.refl s)
theorem State.abortMotion_frame (s : State) : QueueFrame s s.abortMotion := (queueFrame_closed s).abortMotion (.refl s)
theorem State.railTimeout_frame (s : State) : QueueFrame s s.railTimeout := (queueFrame_closed s).railTimeout (.refl s)

end Sys2Proof.Machine
end

