-- ==== Sys2Proof/Laws/MotionQueue.lean ====
section
/-! SUPPORT. What the motion queue does to the executing request depends neither on the records queued behind it nor
on the list of answers under construction: both can be put in place before or after (R153, R170). -/

namespace Sys2Proof.Machine

/-- The part with other records queued, and another list of answers under construction. -/
def State.besides (s : State) (q : List Request) (taken : Nat) (entries : List Entry) : State :=
  { s with motion := { s.motion with queue := q }, chan := { s.chan with taken := taken, entries := entries } }

variable (s : State) (q : List Request) (n : Nat) (es : List Entry)

@[simp] theorem besides_axis (a : AxisId) : (s.besides q n es).axis a = s.axis a := by cases a <;> rfl
@[simp] theorem besides_axisH : (s.besides q n es).axisH = s.axisH := rfl
@[simp] theorem besides_axisV : (s.besides q n es).axisV = s.axisV := rfl
@[simp] theorem besides_executing : (s.besides q n es).motion.executing = s.motion.executing := rfl
@[simp] theorem besides_queue : (s.besides q n es).motion.queue = q := rfl
@[simp] theorem besides_ctl : (s.besides q n es).ctl = s.ctl := rfl
@[simp] theorem besides_slot (k : Fin 4) : (s.besides q n es).slot k = s.slot k := rfl
@[simp] theorem besides_besides (q' : List Request) (n' : Nat) (es' : List Entry) :
    (s.besides q n es).besides q' n' es' = s.besides q' n' es' := rfl
@[simp] theorem besides_self : s.besides s.motion.queue s.chan.taken s.chan.entries = s := rfl

theorem besides_setAxis (a : AxisId) (x : Axis) : (s.besides q n es).setAxis a x = (s.setAxis a x).besides q n es := by
  cases a <;> rfl

theorem besides_setExecuting (x : Option Executing) :
    (s.besides q n es).setExecuting x = (s.setExecuting x).besides q n es := rfl

theorem besides_releaseHold : (s.besides q n es).releaseHold = s.releaseHold.besides q n es := by
  unfold State.releaseHold
  change (if s.motion.blankHold then _ else _) = _
  split <;> rfl

theorem besides_record (r : Request) (res : MotionResult) :
    (s.besides q n es).record r res = (s.record r res).besides q n es := rfl

theorem besides_endRequest (res : MotionResult) :
    (s.besides q n es).endRequest res = (s.endRequest res).besides q n es := by
  unfold State.endRequest
  rw [besides_executing]
  split
  · rfl
  · rw [besides_record, besides_releaseHold]; rfl

theorem besides_stopAside (a : AxisId) : (s.besides q n es).stopAside a = (s.stopAside a).besides q n es := by
  unfold State.stopAside
  rw [besides_axis]
  split
  · rw [besides_setAxis]
  · rfl

theorem besides_stopRequestAxes (x : Executing) :
    (s.besides q n es).stopRequestAxes x = (s.stopRequestAxes x).besides q n es := by
  unfold State.stopRequestAxes
  dsimp only
  split <;> split <;> simp only [besides_stopAside]

theorem besides_noteOutcome (a : AxisId) (o : AxisOutcome) :
    (s.besides q n es).noteOutcome a o = (s.noteOutcome a o).besides q n es := by
  unfold State.noteOutcome
  rw [besides_executing]
  split
  · rfl
  · split
    · cases o with
      | done _ => rfl
      | stopped => rfl
      | endstop _ => simp only [besides_endRequest, besides_stopRequestAxes]
      | homeFail => simp only [besides_endRequest]
    · rfl

theorem besides_flags (o : AxisOutcome) : o.flags (s.besides q n es) = (o.flags s).besides q n es := by cases o <;> rfl

theorem besides_takeEvent (a : AxisId) (e : AxisEvent) :
    (s.besides q n es).takeEvent a e = (s.takeEvent a e).besides q n es := by
  cases e with
  | quiet => rfl
  | asks => rfl
  | outcome o => simp only [State.takeEvent, besides_flags, besides_noteOutcome]

theorem besides_beginAxis (x : Executing) (a : AxisId) :
    (s.besides q n es).beginAxis x a = ((s.beginAxis x a).1.besides q n es, (s.beginAxis x a).2) := by
  cases a <;> rfl

theorem besides_resume (x : Executing) : (s.besides q n es).resume x = (s.resume x).besides q n es := rfl

theorem besides_holdStart (x : Executing) : (s.besides q n es).holdStart x = (s.holdStart x).besides q n es := by
  unfold State.holdStart
  simp only [besides_axisH, besides_axisV, besides_resume]
  split
  · rfl
  · split <;> rfl

theorem besides_startOne (x : Executing) (a : AxisId) :
    (s.besides q n es).startOne x a = ((s.startOne x a).1.besides q n es, (s.startOne x a).2) := by
  cases a <;> rfl

theorem besides_startBoth (x : Executing) :
    (s.besides q n es).startBoth x = ((s.startBoth x).1.besides q n es, (s.startBoth x).2) := rfl

theorem besides_judgeRail (x : Executing) :
    (s.besides q n es).judgeRail x = ((s.judgeRail x).1.besides q n es, (s.judgeRail x).2) := by
  have hr : ∀ k, (s.besides q n es).railAllows k = s.railAllows k := fun _ => rfl
  have hw : ∀ a, (s.besides q n es).wantsStart x a = s.wantsStart x a := fun a => by
    simp only [State.wantsStart, besides_axis]
  unfold State.judgeRail
  simp only [hw, hr, besides_axisH, besides_axisV, besides_startOne, besides_startBoth, besides_holdStart]
  split <;> (repeat' split) <;> rfl

theorem besides_enterSwitching (x : Executing) (k : Fin 4) :
    (s.besides q n es).enterSwitching x k = (s.enterSwitching x k).besides q n es := by
  unfold State.enterSwitching
  dsimp only
  change (if s.ctl.armed = true then _ else _) = State.besides (if s.ctl.armed = true then _ else _) q n es
  split
  · rfl
  · exact besides_endRequest
      ((s.setWarp { s.warp with choice := some { slot := some k, origin := .recall x.req.tag } }).setExecuting
        (some (x.setPhase .switching))) q n es _

theorem besides_finishWork (x : Executing) : (s.besides q n es).finishWork x = (s.finishWork x).besides q n es := by
  unfold State.finishWork
  split
  · split
    · exact besides_endRequest ..
    · rw [besides_slot]
      split
      · exact besides_enterSwitching ..
      · exact besides_endRequest ..
  · exact besides_endRequest ..
  · exact besides_endRequest ..
  · exact besides_endRequest ..

theorem besides_carryOn (k : Nat) : (s.besides q n es).carryOn k = (s.carryOn k).besides q n es := by
  induction k generalizing s with
  | zero => rfl
  | succ k ih =>
    have hs : ∀ x, (s.besides q n es).stillStopping x = s.stillStopping x := fun _ => rfl
    unfold State.carryOn
    rw [besides_executing]
    split
    · rfl
    · rename_i x _
      split
      · rfl
      · split
        · rw [hs]; split
          · rfl
          · exact besides_endRequest ..
        · split
          · exact besides_finishWork ..
          · rw [besides_judgeRail]
            rcases s.judgeRail x with ⟨t, eh, ev⟩
            cases eh <;> cases ev <;> first | rfl | simp only [besides_takeEvent, ih]

theorem besides_handIdle (a : AxisId) : (s.besides q n es).handIdle a = (s.handIdle a).besides q n es := by
  unfold State.handIdle
  rw [besides_executing]
  split
  · rfl
  · rw [besides_axis]
    split
    · have : (s.besides q n es).approachOf a = s.approachOf a := by cases a <;> rfl
      simp only [this, besides_setExecuting, besides_setAxis, besides_takeEvent]
    · rfl

theorem besides_takeHold (j : Job) : (s.besides q n es).takeHold j = (s.takeHold j).besides q n es := by
  unfold State.takeHold
  split
  · rw [besides_ctl]
    split <;> rfl
  · rfl
  · rfl
  · rfl

/-- What the start of a request does depends neither on the records behind it nor on the answers (R153). -/
theorem besides_startRequest (r : Request) : (s.besides q n es).startRequest r = (s.startRequest r).besides q n es := by
  have ht : ∀ a, r.job.targetFor (s.besides q n es) a = r.job.targetFor s a := fun a => by
    cases r.job <;> rfl
  have hc : r.job.stepClamped (s.besides q n es) = r.job.stepClamped s := by
    cases r.job <;> rfl
  have he : (s.besides q n es).executingOf r = s.executingOf r := by simp only [State.executingOf, ht, hc]
  have hn : r.job.needsHoming (s.besides q n es) = r.job.needsHoming s := rfl
  unfold State.startRequest
  dsimp only
  rw [he, hn, besides_setExecuting]
  split
  · exact besides_endRequest ..
  · rw [besides_takeHold, besides_handIdle, besides_handIdle, besides_carryOn]

/-- A queue that holds nothing starts nothing (R153). -/
theorem State.pump_empty (h : s.motion.queue = []) : s.pump = s := by
  simp [State.pump, h, State.startHeads]

/-- The head of the queue starts; the records behind it wait, while it executes (R153). -/
theorem State.pump_head (r : Request) (rest : List Request) (hq : s.motion.queue = r :: rest) (hm : s.mayStart = true)
    (hx : ((s.besides [] n es).startRequest r).motion.executing.isSome = true ∨ rest = []) :
    s.pump = (s.startRequest r).besides rest s.chan.taken s.chan.entries := by
  have hs : (s.setMotion { s.motion with queue := rest }).startRequest r
      = (s.startRequest r).besides rest s.chan.taken s.chan.entries := besides_startRequest s rest s.chan.taken s.chan.entries r
  have e : (s.startRequest r).motion.executing = ((s.besides [] n es).startRequest r).motion.executing := by
    rw [besides_startRequest]; rfl
  unfold State.pump
  rw [hq]
  unfold State.startHeads
  simp only [List.length_cons, hq, hm, if_true, hs]
  rcases hx with hx | rfl
  · rw [← e] at hx
    cases rest with
    | nil => rfl
    | cons r' rest =>
      unfold State.startHeads
      simp [State.mayStart, Option.isNone_iff_eq_none, Option.isSome_iff_ne_none.mp hx]
  · rfl

end Sys2Proof.Machine
end

