-- ==== Sys2Proof/Laws/PerInstr.lean ====
section
/-! SUPPORT. The family of laws made per command. `Encoding`: the payload of the packet that carries a command has the
length that the command's code requires, and the code fits its byte. -/

namespace Sys2Proof.Laws

/-- The packet that carries a well-formed command has a one-byte code and the length its code requires (R169, R182). -/
def Encoding.Statement (i : Instr) : Prop :=
  ∀ tag code payload, i.wf = true → packetOf i = some (tag, code, payload) →
    code < 256 ∧ requiredLength code payload = some payload.length

theorem Encoding.flatMap_pointBytes_length (points : List RawPoint) : (points.flatMap pointBytes).length = 5 * points.length := by
  induction points with
  | nil => rfl
  | cons q qs ih => simp [ih, pointBytes]; omega

theorem Encoding.flatMap_wordBytes_length (values : List (BitVec 16)) : (values.flatMap wordBytes).length = 2 * values.length := by
  induction values with
  | nil => rfl
  | cons v vs ih => simp [ih, wordBytes]; omega

theorem Encoding.inputActiveLine (pixels : List Pixel) : Encoding.Statement (.inputActiveLine pixels) := by
  intro t c p _ h; cases h

theorem Encoding.controlLine (pixels : List Pixel) : Encoding.Statement (.controlLine pixels) := by
  intro t c p _ h; cases h

theorem Encoding.plainBlankingLine : Encoding.Statement .plainBlankingLine := by
  intro t c p _ h; cases h

theorem Encoding.outputLine : Encoding.Statement .outputLine := by
  intro t c p _ h; cases h

theorem Encoding.outputFrameStart : Encoding.Statement .outputFrameStart := by
  intro t c p _ h; cases h

theorem Encoding.linkLockLost : Encoding.Statement .linkLockLost := by
  intro t c p _ h; cases h

theorem Encoding.linkLockRegained : Encoding.Statement .linkLockRegained := by
  intro t c p _ h; cases h

theorem Encoding.answerSent : Encoding.Statement .answerSent := by
  intro t c p _ h; cases h

theorem Encoding.resetNAsserted : Encoding.Statement .resetNAsserted := by
  intro t c p _ h; cases h

theorem Encoding.resetNReleased : Encoding.Statement .resetNReleased := by
  intro t c p _ h; cases h

theorem Encoding.controlTick : Encoding.Statement .controlTick := by
  intro t c p _ h; cases h

theorem Encoding.runOnElapsedLimit : Encoding.Statement .runOnElapsedLimit := by
  intro t c p _ h; cases h

theorem Encoding.thermistorConversionDone (ch : Channel) (code : BitVec 12) : Encoding.Statement (.thermistorConversionDone ch code) := by
  intro t c p _ h; cases h

theorem Encoding.sbTransactionEnd (e : SbEnd) : Encoding.Statement (.sbTransactionEnd e) := by
  intro t c p _ h; cases h

theorem Encoding.sbStretchLimit (micros : Nat) : Encoding.Statement (.sbStretchLimit micros) := by
  intro t c p _ h; cases h

theorem Encoding.sbClockTimeout : Encoding.Statement .sbClockTimeout := by
  intro t c p _ h; cases h

theorem Encoding.sbBusError : Encoding.Statement .sbBusError := by
  intro t c p _ h; cases h

theorem Encoding.sbRecoveryDone : Encoding.Statement .sbRecoveryDone := by
  intro t c p _ h; cases h

theorem Encoding.sbRecoveryAbandoned : Encoding.Statement .sbRecoveryAbandoned := by
  intro t c p _ h; cases h

theorem Encoding.comparatorTrip (level : PinLevel) : Encoding.Statement (.comparatorTrip level) := by
  intro t c p _ h; cases h

theorem Encoding.comparatorRelease (level : PinLevel) : Encoding.Statement (.comparatorRelease level) := by
  intro t c p _ h; cases h

theorem Encoding.rampTick : Encoding.Statement .rampTick := by
  intro t c p _ h; cases h

theorem Encoding.lightPwmPeriodBoundary : Encoding.Statement .lightPwmPeriodBoundary := by
  intro t c p _ h; cases h

theorem Encoding.fanPwmPeriodBoundary (fan : FanId) : Encoding.Statement (.fanPwmPeriodBoundary fan) := by
  intro t c p _ h; cases h

theorem Encoding.kickTimerExpiry (fan : FanId) : Encoding.Statement (.kickTimerExpiry fan) := by
  intro t c p _ h; cases h

theorem Encoding.stallTimerExpiry (fan : FanId) : Encoding.Statement (.stallTimerExpiry fan) := by
  intro t c p _ h; cases h

theorem Encoding.pauseTimerExpiry (fan : FanId) : Encoding.Statement (.pauseTimerExpiry fan) := by
  intro t c p _ h; cases h

theorem Encoding.retryClearTimerExpiry (fan : FanId) : Encoding.Statement (.retryClearTimerExpiry fan) := by
  intro t c p _ h; cases h

theorem Encoding.tachEdge (fan : FanId) (edge : TachEdge) : Encoding.Statement (.tachEdge fan edge) := by
  intro t c p _ h; cases h

theorem Encoding.tachTimeout (fan : FanId) : Encoding.Statement (.tachTimeout fan) := by
  intro t c p _ h; cases h

theorem Encoding.profileTick : Encoding.Statement .profileTick := by
  intro t c p _ h; cases h

theorem Encoding.endstopEdge (e : EndStop) : Encoding.Statement (.endstopEdge e) := by
  intro t c p _ h; cases h

theorem Encoding.endstopInactive (e : EndStop) : Encoding.Statement (.endstopInactive e) := by
  intro t c p _ h; cases h

theorem Encoding.railWaitTimeout : Encoding.Statement .railWaitTimeout := by
  intro t c p _ h; cases h

theorem Encoding.silenceTick : Encoding.Statement .silenceTick := by
  intro t c p _ h; cases h

theorem Encoding.silenceExpiry : Encoding.Statement .silenceExpiry := by
  intro t c p _ h; cases h

theorem Encoding.writeGrid (tag slot first count : Byte) (points : List RawPoint) : Encoding.Statement (.writeGrid tag slot first count points) := by
  intro t c p w h
  have w : (decide (points.length = count.toNat) && decide (count.toNat ≤ 9)) = true := w
  simp only [Bool.and_eq_true, decide_eq_true_eq] at w
  cases h
  refine ⟨Nat.le_of_ble_eq_true rfl, ?_⟩
  rw [List.length_append, Encoding.flatMap_pointBytes_length, w.1]
  rfl

theorem Encoding.commitGrid (tag slot : Byte) : Encoding.Statement (.commitGrid tag slot) := by
  intro t c p _ h
  cases h
  exact ⟨Nat.le_of_ble_eq_true rfl, rfl⟩

theorem Encoding.eraseGrid (tag slot : Byte) : Encoding.Statement (.eraseGrid tag slot) := by
  intro t c p _ h
  cases h
  exact ⟨Nat.le_of_ble_eq_true rfl, rfl⟩

theorem Encoding.selectGrid (tag slot : Byte) : Encoding.Statement (.selectGrid tag slot) := by
  intro t c p _ h
  cases h
  exact ⟨Nat.le_of_ble_eq_true rfl, rfl⟩

theorem Encoding.readGrid (tag slot index : Byte) : Encoding.Statement (.readGrid tag slot index) := by
  intro t c p _ h
  cases h
  exact ⟨Nat.le_of_ble_eq_true rfl, rfl⟩

theorem Encoding.gridInfo (tag slot : Byte) : Encoding.Statement (.gridInfo tag slot) := by
  intro t c p _ h
  cases h
  exact ⟨Nat.le_of_ble_eq_true rfl, rfl⟩

theorem Encoding.setLight (tag : Byte) (level : BitVec 16) : Encoding.Statement (.setLight tag level) := by
  intro t c p _ h
  cases h
  exact ⟨Nat.le_of_ble_eq_true rfl, rfl⟩

theorem Encoding.setLightRamp (tag : Byte) (rampStep blankLevel : BitVec 16) : Encoding.Statement (.setLightRamp tag rampStep blankLevel) := by
  intro t c p _ h
  cases h
  exact ⟨Nat.le_of_ble_eq_true rfl, rfl⟩

theorem Encoding.readLight (tag : Byte) (page : Fin 3) : Encoding.Statement (.readLight tag page) := by
  intro t c p _ h
  cases h
  fin_cases page <;> exact ⟨Nat.le_of_ble_eq_true rfl, rfl⟩

theorem Encoding.writePoll (tag entry enable address register fraction pec : Byte) : Encoding.Statement (.writePoll tag entry enable address register fraction pec) := by
  intro t c p _ h
  cases h
  exact ⟨Nat.le_of_ble_eq_true rfl, rfl⟩

theorem Encoding.readPoll (tag entry : Byte) : Encoding.Statement (.readPoll tag entry) := by
  intro t c p _ h
  cases h
  exact ⟨Nat.le_of_ble_eq_true rfl, rfl⟩

theorem Encoding.assignSource (tag source zone : Byte) : Encoding.Statement (.assignSource tag source zone) := by
  intro t c p _ h
  cases h
  exact ⟨Nat.le_of_ble_eq_true rfl, rfl⟩

theorem Encoding.readSource (tag source : Byte) : Encoding.Statement (.readSource tag source) := by
  intro t c p _ h
  cases h
  exact ⟨Nat.le_of_ble_eq_true rfl, rfl⟩

theorem Encoding.writeChannel (tag channel table : Byte) : Encoding.Statement (.writeChannel tag channel table) := by
  intro t c p _ h
  cases h
  exact ⟨Nat.le_of_ble_eq_true rfl, rfl⟩

theorem Encoding.writeThermistorTableFirst (tag table : Byte) (values : List (BitVec 16)) : Encoding.Statement (.writeThermistorTableFirst tag table values) := by
  intro t c p w h
  replace w : values.length = 9 := of_decide_eq_true w
  cases h
  refine ⟨Nat.le_of_ble_eq_true rfl, ?_⟩
  rw [List.length_cons, Encoding.flatMap_wordBytes_length, w]
  rfl

theorem Encoding.writeThermistorTableSecond (tag table : Byte) (values : List (BitVec 16)) : Encoding.Statement (.writeThermistorTableSecond tag table values) := by
  intro t c p w h
  replace w : values.length = 8 := of_decide_eq_true w
  cases h
  refine ⟨Nat.le_of_ble_eq_true rfl, ?_⟩
  rw [List.length_cons, Encoding.flatMap_wordBytes_length, w]
  rfl

theorem Encoding.readThermistorTable (tag table entry : Byte) : Encoding.Statement (.readThermistorTable tag table entry) := by
  intro t c p _ h
  cases h
  exact ⟨Nat.le_of_ble_eq_true rfl, rfl⟩

theorem Encoding.setTripComparator (tag channel : Byte) (threshold : BitVec 16) : Encoding.Statement (.setTripComparator tag channel threshold) := by
  intro t c p _ h
  cases h
  exact ⟨Nat.le_of_ble_eq_true rfl, rfl⟩

theorem Encoding.readTripComparator (tag : Byte) : Encoding.Statement (.readTripComparator tag) := by
  intro t c p _ h
  cases h
  exact ⟨Nat.le_of_ble_eq_true rfl, rfl⟩

theorem Encoding.writeZone (tag zone : Byte) (setpoint derate trip runOn guard kp : BitVec 16) (ki : Byte) (kff : BitVec 16) (basis mask : Byte) : Encoding.Statement (.writeZone tag zone setpoint derate trip runOn guard kp ki kff basis mask) := by
  intro t c p _ h
  cases h
  exact ⟨Nat.le_of_ble_eq_true rfl, rfl⟩

theorem Encoding.readZone (tag zone : Byte) (page : Fin 4) : Encoding.Statement (.readZone tag zone page) := by
  intro t c p _ h
  cases h
  fin_cases page <;> exact ⟨Nat.le_of_ble_eq_true rfl, rfl⟩

theorem Encoding.setThermalLimits (tag : Byte) (blindCap lossCap : BitVec 16) : Encoding.Statement (.setThermalLimits tag blindCap lossCap) := by
  intro t c p _ h
  cases h
  exact ⟨Nat.le_of_ble_eq_true rfl, rfl⟩

theorem Encoding.writeFan (tag fan : Byte) (minDuty : BitVec 16) (mayStop : Byte) (quiet standard high : BitVec 16) (current edges edgeSel : Byte) : Encoding.Statement (.writeFan tag fan minDuty mayStop quiet standard high current edges edgeSel) := by
  intro t c p _ h
  cases h
  exact ⟨Nat.le_of_ble_eq_true rfl, rfl⟩

theorem Encoding.clearFan (tag fan : Byte) : Encoding.Statement (.clearFan tag fan) := by
  intro t c p _ h
  cases h
  exact ⟨Nat.le_of_ble_eq_true rfl, rfl⟩

theorem Encoding.readFan (tag fan : Byte) (page : Fin 4) : Encoding.Statement (.readFan tag fan page) := by
  intro t c p _ h
  cases h
  fin_cases page <;> exact ⟨Nat.le_of_ble_eq_true rfl, rfl⟩

theorem Encoding.lightOn (tag : Byte) : Encoding.Statement (.lightOn tag) := by
  intro t c p _ h
  cases h
  exact ⟨Nat.le_of_ble_eq_true rfl, rfl⟩

theorem Encoding.lightOff (tag : Byte) : Encoding.Statement (.lightOff tag) := by
  intro t c p _ h
  cases h
  exact ⟨Nat.le_of_ble_eq_true rfl, rfl⟩

theorem Encoding.clearTrip (tag : Byte) : Encoding.Statement (.clearTrip tag) := by
  intro t c p _ h
  cases h
  exact ⟨Nat.le_of_ble_eq_true rfl, rfl⟩

theorem Encoding.setInstall (tag orientation acoustic : Byte) (budget : BitVec 16) : Encoding.Statement (.setInstall tag orientation acoustic budget) := by
  intro t c p _ h
  cases h
  exact ⟨Nat.le_of_ble_eq_true rfl, rfl⟩

theorem Encoding.readState (tag : Byte) : Encoding.Statement (.readState tag) := by
  intro t c p _ h
  cases h
  exact ⟨Nat.le_of_ble_eq_true rfl, rfl⟩

theorem Encoding.engineReset (tag : Byte) : Encoding.Statement (.engineReset tag) := by
  intro t c p _ h
  cases h
  exact ⟨Nat.le_of_ble_eq_true rfl, rfl⟩

theorem Encoding.writeAxis (tag axis : Byte) (limit vmax vstart : BitVec 16) (accel : Byte) (homeVel backlash : BitVec 16) (current approach endstops : Byte) : Encoding.Statement (.writeAxis tag axis limit vmax vstart accel homeVel backlash current approach endstops) := by
  intro t c p _ h
  cases h
  exact ⟨Nat.le_of_ble_eq_true rfl, rfl⟩

theorem Encoding.readAxis (tag axis : Byte) (page : Fin 4) : Encoding.Statement (.readAxis tag axis page) := by
  intro t c p _ h
  cases h
  fin_cases page <;> exact ⟨Nat.le_of_ble_eq_true rfl, rfl⟩

theorem Encoding.moveAxis (tag axis : Byte) (target : BitVec 16) : Encoding.Statement (.moveAxis tag axis target) := by
  intro t c p _ h
  cases h
  exact ⟨Nat.le_of_ble_eq_true rfl, rfl⟩

theorem Encoding.stepAxis (tag axis : Byte) (delta : BitVec 24) : Encoding.Statement (.stepAxis tag axis delta) := by
  intro t c p _ h
  cases h
  exact ⟨Nat.le_of_ble_eq_true rfl, rfl⟩

theorem Encoding.home (tag selection : Byte) : Encoding.Statement (.home tag selection) := by
  intro t c p _ h
  cases h
  exact ⟨Nat.le_of_ble_eq_true rfl, rfl⟩

theorem Encoding.recallPreset (tag preset : Byte) : Encoding.Statement (.recallPreset tag preset) := by
  intro t c p _ h
  cases h
  exact ⟨Nat.le_of_ble_eq_true rfl, rfl⟩

theorem Encoding.stopMotion (tag : Byte) : Encoding.Statement (.stopMotion tag) := by
  intro t c p _ h
  cases h
  exact ⟨Nat.le_of_ble_eq_true rfl, rfl⟩

theorem Encoding.storePreset (tag preset mode : Byte) (hTarget vTarget : BitVec 16) (slot blank : Byte) : Encoding.Statement (.storePreset tag preset mode hTarget vTarget slot blank) := by
  intro t c p _ h
  cases h
  exact ⟨Nat.le_of_ble_eq_true rfl, rfl⟩

theorem Encoding.erasePreset (tag preset : Byte) : Encoding.Statement (.erasePreset tag preset) := by
  intro t c p _ h
  cases h
  exact ⟨Nat.le_of_ble_eq_true rfl, rfl⟩

theorem Encoding.readPreset (tag preset : Byte) : Encoding.Statement (.readPreset tag preset) := by
  intro t c p _ h
  cases h
  exact ⟨Nat.le_of_ble_eq_true rfl, rfl⟩

theorem Encoding.readMotion (tag index : Byte) (page : Fin 2) : Encoding.Statement (.readMotion tag index page) := by
  intro t c p _ h
  cases h
  fin_cases page <;> exact ⟨Nat.le_of_ble_eq_true rfl, rfl⟩

theorem Encoding.ackEvents (tag : Byte) (events : BitVec 16) : Encoding.Statement (.ackEvents tag events) := by
  intro t c p _ h
  cases h
  exact ⟨Nat.le_of_ble_eq_true rfl, rfl⟩

theorem Encoding.setEventEnable (tag : Byte) (events : BitVec 16) : Encoding.Statement (.setEventEnable tag events) := by
  intro t c p _ h
  cases h
  exact ⟨Nat.le_of_ble_eq_true rfl, rfl⟩

theorem Encoding.readStatus (tag : Byte) (page : Fin 3) : Encoding.Statement (.readStatus tag page) := by
  intro t c p _ h
  cases h
  fin_cases page <;> exact ⟨Nat.le_of_ble_eq_true rfl, rfl⟩

end Sys2Proof.Laws
end

