-- ==== Sys2Proof/Laws/StateControl.lean ====
section
/-! SUPPORT. What the shared operations of the light drive, the fans, the sources and the state controller can do,
said once each. -/

namespace Sys2Proof.Machine

/-! ### The light drive -/

/-- Forming the target and the governing limiter anew writes those two, and at an immediate drop the applied level with
its buffer (R55, R58). -/
theorem Light.reform_eq (l : Light) :
    l.reform = { l with
      target := l.lowest, governing := l.governor
      applied := if l.safety < l.applied ∨ l.motion < l.applied then l.lowest else l.applied
      pwmBuffer := if l.safety < l.applied ∨ l.motion < l.applied then l.lowest else l.pwmBuffer } := by
  by_cases h : l.safety < l.applied ∨ l.motion < l.applied
  · simp only [if_pos h]
    exact if_pos h
  · simp only [if_neg h]
    exact if_neg h

/-- After a reform the applied level exceeds neither SAFETY nor MOTION (R58). -/
theorem Light.reform_bounded (l : Light) : l.reform.applied ≤ l.safety ∧ l.reform.applied ≤ l.motion := by
  rw [Light.reform_eq]
  simp only [Light.lowest]
  split <;> omega

/-- The target is the smallest limiter, whichever governs (R55). -/
theorem Light.lowest_le (l : Light) :
    l.lowest ≤ l.safety ∧ l.lowest ≤ l.motion ∧ l.lowest ≤ l.thermal ∧ l.lowest ≤ l.user := by
  simp only [Light.lowest]
  omega

/-- A release of the blank hold leaves MOTION at full wherever it was held (R56). -/
theorem Light.release_motion (l : Light) (h : l.motionHeld = true) :
    l.release.motion = 4095 ∧ l.release.motionHeld = false := by
  simp [Light.release, h, Light.reform_eq, Config.fullLevel]

/-! ### Fans -/

/-- What a new requested duty does to a fan in each of its states (R107, R108, R110, R111). -/
theorem Fan.act_cases (x : Fan) :
    (x.state = .off ∧ x.requested = 0 ∧ x.act = x) ∨ (x.state = .off ∧ 0 < x.requested ∧ x.act = x.enterKick) ∨
    (x.state = .running ∧ x.requested = 0 ∧ x.act = x.enterOff) ∨
    (x.state = .running ∧ 0 < x.requested ∧ x.act = x.setApplied x.requested) ∨
    ((x.state = .kick ∨ x.state = .pause ∨ x.state = .failed) ∧ x.act = x) := by
  by_cases hr : x.requested = 0 <;> cases hs : x.state <;> simp [Fan.act, hs, hr] <;> omega

/-- A fan driven at full kicks, runs at full, or stays FAILED (R106). -/
theorem Fan.full_cases (x : Fan) : x.DrivenFullTo x.full := by
  cases hs : x.state <;>
    simp [Fan.DrivenFullTo, Fan.full, Fan.act, hs, Fan.enterKick, Fan.setApplied, Config.fullDuty, Config.kickTime, Config.stallTime]

/-- Driving a fan at full once more changes nothing (R106). -/
@[simp] theorem Fan.full_full (x : Fan) : x.full.full = x.full := by
  cases hs : x.state <;> simp [Fan.full, Fan.act, hs, Fan.enterKick, Fan.setApplied, Config.fullDuty]

/-- Each fan's record after one update of all three. -/
theorem FanDrv.each_fans (d : FanDrv) (g : FanId → Fan → Fan) (f : FanId) :
    (d.each g).fans[f.idx] = g f d.fans[f.idx] := by
  cases f <;> rfl

/-- Each zone's record after one update of all three. -/
theorem ZoneCtl.each_zones (c : ZoneCtl) (g : ZoneId → Zone → Zone) (z : ZoneId) :
    (c.each g).zones[z.idx] = g z c.zones[z.idx] := by
  cases z <;> rfl

/-! ### Stop requests -/

/-- What a stop request makes of an axis (R145, R146). -/
theorem Axis.stopRequest_cases (x : Axis) : x.StopRequestedTo x.stopRequest.1 := by
  cases hs : x.state <;> cases hl : x.leg <;>
    simp [Axis.StopRequestedTo, Axis.stopRequest, Axis.stopFromHoming, Axis.stand, hs, hl]

/-! ### Temperature sources -/

/-- A read applied to a record writes that record alone, and SENSOR_FAIL where the record fails (R65, R66). -/
theorem State.applyReading_cases (s : State) (n : Fin 12) (r : Reading) :
    ((s.source n).entersFailed r = true ∧ s.applyReading n r = (s.setSource n ((s.source n).apply r)).raise .sensorFail) ∨
    ((s.source n).entersFailed r = false ∧ s.applyReading n r = s.setSource n ((s.source n).apply r)) := by
  cases h : (s.source n).entersFailed r <;> simp [State.applyReading, State.raiseIf, h]

/-- The last thing a transaction that runs to its stop makes is the stop (R74). -/
theorem PollEntry.signals_stop (e : PollEntry) (x : SbEnd) : ∃ before, e.signals x = before ++ [.stop] := by
  cases x with
  | nackAddr atRead => cases atRead <;> exact ⟨_, (List.dropLast_append_getLast? _ rfl).symm⟩
  | nackData => exact ⟨_, (List.dropLast_append_getLast? _ rfl).symm⟩
  | data hi lo pec => exact ⟨_, rfl⟩

/-- A transaction that runs to its stop leaves both lines released (R73, R74). -/
theorem PollEntry.signals_released (e : PollEntry) (x : SbEnd) :
    ((e.signals x).flatMap SbSignal.drive).getLast? = some { clk := true, dat := true, micros := none } := by
  obtain ⟨before, h⟩ := e.signals_stop x
  simp [h, SbSignal.drive, List.flatMap_append]

/-- Signals cut off after some levels drive those levels (R73). -/
theorem driven_cutSignals (signals : List SbSignal) (n : Nat) : driven (cutSignals signals n) = (driven signals).take n := by
  induction signals generalizing n with
  | nil => simp [cutSignals, driven]
  | cons g rest ih =>
    simp only [cutSignals, driven, List.flatMap_cons, List.take_append] at ih ⊢
    split
    · rename_i h
      rw [List.flatMap_cons, ih, List.take_of_length_le h]
    · rename_i h
      rw [Nat.sub_eq_zero_of_le (by omega)]
      split
      · rename_i h0
        simp [h0]
      · simp [SbSignal.drive]

/-- A free point is one that its place admits, wherever the place admits any. -/
theorem SbPlace.freePoint_admits (p : SbPlace) (levels : List SbLevel) (k : Nat)
    (h : ∃ n, n ≤ levels.length ∧ p.admits levels n = true) : p.admits levels (p.freePoint levels k) = true := by
  have hm : ∀ n ∈ p.points levels, p.admits levels n = true := fun n hn => (List.mem_filter.1 hn).2
  have hp : 0 < (p.points levels).length := by
    obtain ⟨n, hn, ha⟩ := h
    exact List.length_pos_of_mem (List.mem_filter.2 ⟨List.mem_range.2 (Nat.lt_succ_of_le hn), ha⟩)
  have hi := Nat.mod_lt (Config.cutPoint k) hp
  rw [SbPlace.freePoint, List.getD_eq_getElem _ _ hi]
  exact hm _ (List.getElem_mem hi)

/-- The point where the entry in flight is cut off is one that the place admits: before the start, or in the first pulse
of a recovery, there always is one (R77 to R79, R89). -/
theorem Flight.cut_admitted (f : Flight) (p : SbPlace) (k : Nat) (h : p = .pulse → f.begun = false) :
    p.admits (driven (f.course k)) (p.freePoint (driven (f.course k)) k) = true := by
  apply SbPlace.freePoint_admits
  cases p with
  | wait => exact ⟨0, Nat.zero_le _, by simp [SbPlace.admits]⟩
  | high => exact ⟨0, Nat.zero_le _, by simp [SbPlace.admits]⟩
  | anywhere => exact ⟨0, Nat.zero_le _, rfl⟩
  | pulse =>
    simp only [Flight.course, h rfl, Bool.false_eq_true, if_false]
    exact ⟨2, by decide, by decide⟩

/-- What is left on the two lines when the entry in flight is cut off (R77 to R79, R89). -/
theorem Flight.driven_cutWire (f : Flight) (p : SbPlace) (k : Nat) :
    driven (f.cutWire p k) =
      (driven (f.course k)).take (p.freePoint (driven (f.course k)) k) ++ [{ clk := true, dat := true, micros := none }] := by
  rw [Flight.cutWire, driven, List.flatMap_append, ← driven, driven_cutSignals]
  rfl

/-- The sweep's next entry, or its end (R72, R79). -/
theorem Temps.takeNext_cases (t : Temps) :
    (t.sweepList = [] ∧ t.takeNext = { t with sweeping := false, flight := none }) ∨
    (∃ n rest, t.sweepList = n :: rest ∧ t.takeNext = { t with
      sweepList := rest
      flight := some { entry := n, begun := !t.recoveryDue, contents := t.poll[n], discarded := false, stretchSum := 0 } }) := by
  cases h : t.sweepList with
  | nil => exact .inl ⟨rfl, by simp [Temps.takeNext, h]⟩
  | cons n rest => exact .inr ⟨n, rest, rfl, by simp [Temps.takeNext, h]⟩

/-! ### Changes of operating state -/

/-- Writing the operating state writes SAFETY, LIGHT_EN and the axes with it, and nothing else (R57, R116, R133). -/
theorem State.writeOp_eq (s : State) (new : OpState) :
    s.writeOp new = { s with
      ctl := { s.ctl with op := new, runOn := runOnAt new }
      light := s.light.setSafety (decide (new = .lit))
      axisH := s.axisH.enter new
      axisV := s.axisV.enter new } := rfl

/-- A change of operating state leaves these blocks as they are, whatever its hand-offs do. -/
structure ChangeFrame (s t : State) : Prop where
  pending : t.pending = s.pending
  resetAsserted : t.resetAsserted = s.resetAsserted
  locked : t.locked = s.locked
  grid : t.grid = s.grid
  stats : t.stats = s.stats
  temps : t.temps = s.temps
  active : t.warp.active = s.warp.active
  entries : { t.chan with flags := s.chan.flags } = s.chan
  presets : t.motion.presets = s.motion.presets
  freeCount : t.freeCount = s.freeCount

theorem ChangeFrame.of_queue {r s t : State} (h : QueueFrame s t) (k : ChangeFrame r s) : ChangeFrame r t where
  pending := h.pending.trans k.pending
  resetAsserted := h.resetAsserted.trans k.resetAsserted
  locked := h.locked.trans k.locked
  grid := h.grid.trans k.grid
  stats := h.stats.trans k.stats
  temps := h.temps.trans k.temps
  active := (congrArg Warp.active h.warp).trans k.active
  entries := by
    have h1 := h.chan
    have h2 := k.entries
    rw [← h2]
    rw [← h1] at h2 ⊢
  presets := h.presets.trans k.presets
  freeCount := h.freeCount.trans k.freeCount

/-- The hand-offs of a departure keep the frame and the controller (R117). -/
theorem State.leave_frame {r s : State} (old : OpState) (k : ChangeFrame r s) :
    ChangeFrame r (s.leave old) ∧ (s.leave old).ctl = s.ctl := by
  cases old with
  | standby => exact ⟨k, rfl⟩
  | cooldown => exact ⟨k, rfl⟩
  | tripped => exact ⟨⟨k.1, k.2, k.3, k.4, k.5, k.6, k.7, k.8, k.9, k.10⟩, rfl⟩
  | lit =>
    simp only [State.leave, State.releaseHold]
    split
    · exact ⟨⟨k.1, k.2, k.3, k.4, k.5, k.6, k.7, k.8, k.9, k.10⟩, rfl⟩
    · exact ⟨k, rfl⟩

/-- The hand-offs of an arrival keep the frame and the controller (R117). -/
theorem State.arrive_frame {r s : State} (new : OpState) (k : ChangeFrame r s) :
    ChangeFrame r (s.arrive new) ∧ (s.arrive new).ctl = s.ctl := by
  have flag : ∀ {t : State} (e : EventFlag), ChangeFrame r t → ChangeFrame r (t.raise e) := fun e k =>
    ⟨k.1, k.2, k.3, k.4, k.5, k.6, k.7, k.8, k.9, k.10⟩
  cases new with
  | standby => exact ⟨flag _ ⟨k.1, k.2, k.3, k.4, k.5, k.6, k.7, k.8, k.9, k.10⟩, rfl⟩
  | lit => exact ⟨.of_queue s.pump_frame k, s.pump_frame.ctl⟩
  | cooldown => exact ⟨.of_queue s.pump_frame k, s.pump_frame.ctl⟩
  | tripped =>
    have full : ChangeFrame r s.fullFans := ⟨k.1, k.2, k.3, k.4, k.5, k.6, k.7, k.8, k.9, k.10⟩
    exact ⟨flag _ (.of_queue s.fullFans.abortMotion_frame full), s.fullFans.abortMotion_frame.ctl⟩

/-- Everything a change of operating state does to the state controller, and what it leaves alone (R116, R117). -/
theorem State.changeState_frame (s : State) (new : OpState) :
    ChangeFrame s (s.changeState new) ∧ (s.changeState new).ctl = { s.ctl with op := new, runOn := runOnAt new } := by
  have k : ChangeFrame s (s.writeOp new) := ⟨rfl, rfl, rfl, rfl, rfl, rfl, rfl, rfl, rfl, rfl⟩
  have l := State.leave_frame s.ctl.op k
  have a := State.arrive_frame new l.1
  exact ⟨a.1, a.2.trans l.2⟩

/-- A trip: nothing in TRIPPED, otherwise the cause and the change of state (R121). -/
theorem State.trip_cases (s : State) (cause : TripCause) :
    (s.ctl.op = .tripped ∧ s.trip cause = s) ∨
    (s.ctl.op ≠ .tripped ∧ ChangeFrame s (s.trip cause) ∧
      (s.trip cause).ctl = { s.ctl with op := .tripped, runOn := none, lastTrip := cause }) := by
  by_cases h : s.ctl.op = .tripped
  · exact .inl ⟨h, by simp [State.trip, h]⟩
  · refine .inr ⟨h, ?_⟩
    have k := (s.setCtl { s.ctl with lastTrip := cause }).changeState_frame .tripped
    rw [State.trip, if_neg h]
    exact ⟨⟨k.1.1, k.1.2, k.1.3, k.1.4, k.1.5, k.1.6, k.1.7, k.1.8, k.1.9, k.1.10⟩, k.2⟩

/-! ### The trip comparator -/

/-- The comparator trips at its threshold, releases 64 codes above it, and keeps its state in between (R86). -/
theorem State.judgeComparator_cases (s : State) :
    (s.temps.comparator.state = .released ∧ s.temps.watchedCode ≤ s.temps.comparator.threshold ∧
      s.judgeComparator = (s.setComparator { s.temps.comparator with state := .tripped }).trip .comparator) ∨
    (s.temps.comparator.state = .tripped ∧ s.temps.comparator.threshold + 64 ≤ s.temps.watchedCode ∧
      s.judgeComparator = s.setComparator { s.temps.comparator with state := .released }) ∨
    ((s.temps.comparator.state = .released ∧ s.temps.comparator.threshold < s.temps.watchedCode ∨
        s.temps.comparator.state = .tripped ∧ s.temps.watchedCode < s.temps.comparator.threshold + 64) ∧
      s.judgeComparator = s) := by
  cases hc : s.temps.comparator.state
  · by_cases h : s.temps.watchedCode ≤ s.temps.comparator.threshold
    · exact .inl ⟨rfl, h, by simp [State.judgeComparator, Comparator.tripsAt, hc, h]⟩
    · exact .inr (.inr ⟨.inl ⟨rfl, Nat.lt_of_not_le h⟩,
        by simp [State.judgeComparator, Comparator.tripsAt, Comparator.releasesAt, hc, h]⟩)
  · by_cases h : s.temps.comparator.threshold + 64 ≤ s.temps.watchedCode
    · exact .inr (.inl ⟨rfl, h,
        by simp [State.judgeComparator, Comparator.tripsAt, Comparator.releasesAt, Config.comparatorBand, hc, h]⟩)
    · exact .inr (.inr ⟨.inr ⟨rfl, Nat.lt_of_not_le h⟩,
        by simp [State.judgeComparator, Comparator.tripsAt, Comparator.releasesAt, Config.comparatorBand, hc, h]⟩)

/-! ### Legs that end as they start -/

/-- A leg that starts is stopped by an active end-stop, and runs otherwise (R135). -/
theorem Axis.checkEndstops_cases (x : Axis) :
    (x.anyActive = true ∧ ∃ side, x.checkEndstops = (x.abrupt, .outcome (.endstop side))) ∨
    (x.anyActive = false ∧ x.checkEndstops = (x, .quiet)) := by
  cases hl : x.lowActive <;> cases hh : x.highActive <;> simp [Axis.checkEndstops, Axis.anyActive, hl, hh]

/-- A granted approach leg of distance 0 ends the move at once, unless an end-stop is active (R135, R140). -/
theorem Axis.grantApproach_at_target {x : Axis} {p : Plan} (h : x.plan = some p) (hp : p.target = x.position) :
    (x.anyActive = true ∧ ∃ side, x.grantApproach = (x.abrupt, .outcome (.endstop side))) ∨
    (x.anyActive = false ∧ x.grantApproach = x.moveDone) := by
  have e : x.grantApproach = if x.anyActive then x.checkEndstops else x.moveDone := by
    simp only [Axis.grantApproach, h, hp, if_true]
  rcases x.checkEndstops_cases with ⟨ha, side, hs⟩ | ⟨ha, -⟩
  · exact .inl ⟨ha, side, by rw [e, ha, if_pos rfl, hs]⟩
  · exact .inr ⟨ha, by simp [e, ha]⟩

end Sys2Proof.Machine
end

