-- ==== Sys2Proof/Tests/Slice0.lean ====
section
/-! SUPPORT. Tests: the checks of WellFormed on ill-formed commands, the worked cases of the spec, a few commands on
small states, and for each obligation with hypotheses a witness that meets them. -/

namespace Sys2Proof.Tests

open Sys2Proof.Machine

-- One theorem at a time: all of them at once ask for more threads than the row's one-text compile has.
set_option Elab.async false

/-! ### Small states -/

/-- The part after reset in an operating state. -/
def inOp (op : OpState) : State := State.reset.setCtl { StateCtl.reset with op := op, runOn := runOnAt op }

/-- Both axes after reset in IDLE, the H axis homed at a position. -/
def energised (s : State) (position : Nat) : State :=
  (s.setAxis .h { s.axisH with state := .idle, homed := true, position := position }).setAxis .v { s.axisV with state := .idle }

/-- The field of the next state that a test looks at. -/
def after {α : Type} (o : Out) (f : State → α) : Option α :=
  match o with
  | .next s => some (f s)
  | .fault f => nomatch f
  | .refused _ => none

/-- The last answer entry's result and data. -/
def lastAnswer (s : State) : Option Reply := s.chan.entries.getLast?.map fun e => e.reply

/-! ### Ill-formed commands are refused by WellFormed -/

theorem test_wf_controlLine : (Instr.controlLine [⟨0x2AA, 0x155, 0x2AA⟩]).wf = false := by decide
theorem test_wf_stretch : (Instr.sbStretchLimit 30000).wf = false := by decide
theorem test_wf_tachEdge : (Instr.tachEdge .f0 ⟨true, 1000001⟩).wf = false := by decide
theorem test_wf_writeGrid_length : (Instr.writeGrid 1 0 0 2 [⟨0, 0⟩]).wf = false := by decide
theorem test_wf_writeGrid_payload : (Instr.writeGrid 1 0 0 10 (List.replicate 10 ⟨0, 0⟩)).wf = false := by decide
theorem test_wf_tableFirst : (Instr.writeThermistorTableFirst 1 0 [0]).wf = false := by decide
theorem test_wf_tableSecond : (Instr.writeThermistorTableSecond 1 0 (List.replicate 9 0)).wf = false := by decide
theorem test_wf_accepts : (Instr.writeGrid 1 0 0 1 [⟨0, 0⟩]).wf = true := by decide

/-! ### Worked cases of the spec -/

/-- R168: the CRC over 31h to 39h is 29B1h. -/
theorem test_crc16 : crc16 [0x31, 0x32, 0x33, 0x34, 0x35, 0x36, 0x37, 0x38, 0x39] = 0x29B1#16 := by decide +kernel

/-- R76, worked case of one transaction with PEC. -/
theorem test_pec : crc8 [0x98, 0x00, 0x99, 0x19, 0x80] = 0x4C#8 := by decide +kernel

/-- R74 to R76: 25.5 °C with its PEC, and the low byte 81h under the same PEC. -/
theorem test_transaction :
    (PollEntry.mk true 0x4C 0 8 true).judge (.data 0x19 0x80 0x4C) = .good 408 ∧
    (PollEntry.mk true 0x4C 0 8 true).judge (.data 0x19 0x81 0x4C) = .bad .pecMismatch := by decide +kernel

/-- R181: points (15500, 7600) and (38400, −2544). -/
theorem test_pointBytes :
    (Point.mk 15500 7600).bytes = [0x03, 0xC8, 0xC0, 0x1D, 0xB0] ∧
    (Point.mk 38400 (-2544)).bytes = [0x09, 0x60, 0x0F, 0xF6, 0x10] := by decide

/-- Case A of chapter 1.6: the weights of R19, the interpolation of R20 and the sampling of R22. -/
theorem test_caseA :
    interpolate 40 20 15500 19340 15420 19270 = 16133 ∧ interpolate 40 20 7600 7640 11450 11490 = 7928 ∧
    sample (fun r c =>
        if r = 495 then (if c = 1008 then ⟨400, 290, 210⟩ else ⟨420, 310, 190⟩)
        else if c = 1008 then ⟨380, 300, 200⟩ else ⟨460, 310, 190⟩) ⟨16133, 7928⟩ = ⟨406, 300, 200⟩ := by decide

/-- Case B of chapter 1.6: the floor division makes output pixel (0, 1) a border pixel. -/
theorem test_caseB : interpolate 0 1 0 0 (-160) 0 = -1 ∧ isBorder ⟨-1, 16⟩ = true ∧ isBorder ⟨0, 0⟩ = false := by decide

/-- Case C of chapter 1.6: the far corner of the identity mapping. -/
theorem test_caseC :
    sourcePosition none 3839 2159 = ⟨61424, 34544⟩ ∧ isBorder ⟨61424, 34544⟩ = false ∧
    sample (fun r c => ⟨BitVec.ofNat 10 r, BitVec.ofNat 10 c, 7⟩) ⟨61424, 34544⟩ = ⟨BitVec.ofNat 10 2159, BitVec.ofNat 10 3839, 7⟩ := by
  decide

/-- The luma of Case A's pixel (R47). -/
theorem test_luma : luma ⟨406, 300, 200⟩ = 321 := by decide

/-- R73, R74, R76: the bits of the worked transaction, each byte most significant bit first with its acknowledge, the last
byte declined. -/
theorem test_transaction_bits :
    ((PollEntry.mk true 0x4C 0 8 true).signals (.data 0x19 0x80 0x4C)).flatMap SbSignal.sampled =
      ([1, 0, 0, 1, 1, 0, 0, 0, 0, 0, 0, 0, 0, 0, 0, 0, 0, 0, 1, 0, 0, 1, 1, 0, 0, 1, 0] ++
        [0, 0, 0, 1, 1, 0, 0, 1, 0, 1, 0, 0, 0, 0, 0, 0, 0, 0, 0, 1, 0, 0, 1, 1, 0, 0, 1]).map (fun n : Nat => decide (n = 1)) := by
  decide +kernel

/-- R73: a declined write byte 98h on the two lines: start, nine bits of 5 µs low and 5 µs high, the ninth left to the
target, stop. -/
theorem test_bus_levels :
    (((PollEntry.mk true 0x4C 0 8 false).signals (.nackAddr false)).flatMap SbSignal.drive).map (fun l => (l.clk, l.dat)) =
      [(true, false), (false, true), (true, true), (false, false), (true, false), (false, false), (true, false)] ++
      [(false, true), (true, true), (false, true), (true, true), (false, false), (true, false), (false, false), (true, false)] ++
      [(false, false), (true, false), (false, true), (true, true), (false, false), (true, false), (true, true)] := by
  decide +kernel

/-- R179: a line's component words in their order. -/
theorem test_lineWords : lineWords [⟨0x2AA, 0x155, 0x2AA⟩, ⟨0x155, 0x2AA, 0x155⟩, ⟨9, 0x310, 0⟩] = preamble ++ [9, 0x310, 0] := by decide

/-- The four conversions of chapter 4.5 on the built-in curve (R82, R83). -/
theorem test_thermistor :
    judgeCode builtInCurve 1500 = .good 1030 ∧ judgeCode builtInCurve 600 = .good 1460 ∧
    judgeCode builtInCurve 16 = .good 2362 ∧ judgeCode builtInCurve 4079 = .good (-596) ∧
    judgeCode builtInCurve 15 = .bad .shorted ∧ judgeCode builtInCurve 4080 = .bad .openCircuit := by decide

/-- R51: D with an applied level of 3000 and the feed-forward APLs 256 and 506. -/
theorem test_dumpLoad :
    ((State.reset.setLight { Light.reset with applied := 3000 }).setStats { Stats.reset with feedForward := 256 }).dumpLoad = 2249 ∧
    ((State.reset.setLight { Light.reset with applied := 3000 }).setStats { Stats.reset with feedForward := 506 }).dumpLoad = 1516 := by
  decide

/-- The worked control tick of chapter 5.3 (R95, R96): the three demands and accumulators. -/
theorem test_demands :
    ({ Zone.resetLight with acc := 30000 }.regulate 928 false 3000).demand = .duty 704 ∧
    ({ Zone.resetLight with acc := 30000 }.regulate 928 false 3000).acc = 30768 ∧
    ({ Zone.resetLight with acc := 30768 }.regulate 928 true 3000).acc = 30768 ∧
    ({ Zone.resetPanel with acc := 40000 }.regulate 856 false 2249).demand = .duty 502 ∧
    ({ Zone.resetAir with acc := 5000 }.regulate 608 false 3000).demand = .duty 132 := by decide

/-- R114: the speeds at 5,000 and 7,321 µs. -/
theorem test_speed : Fan.reset.speedOver 5000 0 = 6000 ∧ Fan.reset.speedOver 7321 0 = 4097 := by decide

/-- An axis after reset on a leg. -/
def onLeg (left vel acc : Nat) : Axis :=
  { Axis.resetWith 38400 false false with
    state := .moving, vel := vel, acc := acc, position := 100, leg := some { dir := .positive, left := left }
    plan := some { target := 103, clamped := false, owed := false } }

/-- The end of a leg, chapter 7.3: the first two ticks brake and accelerate; the last step ends the leg. -/
theorem test_legEnd :
    ((onLeg 3 376 600).tick.1.vel, (onLeg 3 376 600).tick.1.acc) = (360, 960) ∧
    ((onLeg 3 360 960).tick.1.vel, (onLeg 3 360 960).tick.1.acc, (onLeg 3 360 960).tick.1.pulses) = (376, 336, 1) ∧
    (onLeg 1 296 976).tick.2 = .outcome (.done false) := by decide

/-- V in a ceiling mount, chapter 7.4: the overshoot points, and the clamp of the target. -/
theorem test_ceilingMoves :
    let v := { Axis.resetWith 51200 false false with state := .idle, homed := true, position := 40000 }
    (v.takeMove .negative 51100).1.leg = some ⟨.positive, 11200⟩ ∧
    (v.takeMove .negative 60000).1.plan = some ⟨51200, true, true⟩ ∧
    (v.takeMove .negative 25000).1.plan = some ⟨25000, false, false⟩ ∧
    (v.takeMove .negative 40000).2 = .outcome (.done false) := by decide

/-! ### Commands on small states -/

theorem test_reset_is_dark : State.reset.light.lightEn = false ∧ State.reset.attn = false ∧ State.reset.drvEn .h = false := by
  decide
theorem test_setLight_refuses_4096 : after (exec (.setLight 7 4096) State.reset) lastAnswer = some (some ⟨.refusedRange, []⟩) := by
  decide +kernel
theorem test_lightOn_blind : after (exec (.lightOn 7) State.reset) lastAnswer = some (some ⟨.refusedHot, [0, 0]⟩) := by
  decide +kernel
theorem test_engineReset_in_lit : after (exec (.engineReset 7) (inOp .lit)) lastAnswer = some (some ⟨.refusedState, []⟩) := by
  decide +kernel
theorem test_moveAxis_in_standby : after (exec (.moveAxis 7 0 100) State.reset) lastAnswer = some (some ⟨.refusedState, []⟩) := by
  decide +kernel
theorem test_moveAxis_overshoots :
    after (exec (.moveAxis 7 0 2000) (energised (inOp .lit) 5000)) (fun s => (s.axisH.leg, s.axisH.plan)) =
      some (some ⟨.negative, 3240⟩, some ⟨2000, false, true⟩) := by decide +kernel
theorem test_moveAxis_waits_for_rail :
    after (exec (.moveAxis 7 0 2000) ((energised (inOp .lit) 5000).setCtl { StateCtl.reset with op := .lit, budget := 39 }))
      (fun s => s.motion.railTimer) = some (some 10000) := by decide +kernel
theorem test_home_starts_seek :
    after (exec (.home 7 1) (energised (inOp .lit) 5000)) (fun s => (s.axisV.state, s.axisV.allowance)) =
      some (.seek, 57600) := by decide +kernel
theorem test_comparator_trips :
    after (exec (.comparatorTrip ⟨.c0, 600⟩) (inOp .lit)) (fun s => (s.ctl.op, s.ctl.lastTrip, s.light.lightEn, (s.fan .f2).applied)) =
      some (.tripped, .comparator, false, 1023) := by decide +kernel
/-- R88: a conversion's code is not the comparator's own reading. -/
theorem test_scan_leaves_comparator :
    after (exec (.thermistorConversionDone .c0 20) (inOp .lit)) (fun s => (s.ctl.op, s.temps.watchedCode, (s.source 8).state)) =
      some (.lit, 4095, .ok) := by decide +kernel
/-- R114: a fall is not an edge that RISING selects. -/
theorem test_tach_edge_select :
    after (exec (.tachEdge .f0 ⟨false, 5000⟩) (State.reset.setFan .f0 { Fan.reset with edgeHeld := true })) (fun s => (s.fan .f0).speed) =
      some 0 ∧
    after (exec (.tachEdge .f0 ⟨true, 5000⟩) (State.reset.setFan .f0 { Fan.reset with edgeHeld := true })) (fun s => (s.fan .f0).speed) =
      some 6000 := by decide +kernel
/-- R73, R89: the bus is released between sweeps and by a reset. -/
theorem test_bus_released :
    State.reset.busReleased = true ∧
    after (exec .controlTick (State.reset.setTemps { State.reset.temps with poll := State.reset.temps.poll.set 3 { PollEntry.reset with enable := true } }))
      State.busReleased = some false := by decide +kernel
theorem test_lightOff_starts_runOn :
    after (exec (.lightOff 7) (inOp .lit)) (fun s => (s.ctl.op, s.ctl.runOn)) = some (.cooldown, some 0) := by decide +kernel
theorem test_stall_in_standby_pauses :
    after (exec (.stallTimerExpiry .f1) (State.reset.setFan .f1 (Fan.reset.enterKick)))
      (fun s => ((s.fan .f1).state, (s.fan .f1).retry, s.chan.flags)) = some (.pause, 1, 0x040) := by decide +kernel
theorem test_silence_fourth_tick :
    after (exec .silenceTick ((inOp .lit).setCtl { StateCtl.reset with op := .lit, silence := 3 }))
      (fun s => (s.ctl.op, s.ctl.armed, s.chan.flags)) = some (.cooldown, false, 0x001) := by decide +kernel
theorem test_ack_answers_what_was_set :
    after (exec (.ackEvents 7 0x0FFF) (State.reset.raise .trip)) (fun s => (lastAnswer s, s.chan.flags)) =
      some (some ⟨.ok, [0x01, 0x00]⟩, 0) := by decide +kernel
theorem test_acquires_no_word : decodeTableWord 16 0x1234 = none := rfl
theorem test_step_idles_on_empty_queue : after (step (inOp .cooldown)) (fun s => s.ctl.runOn) = some (some 1) := by
  decide +kernel
theorem test_control_line_carries_setLight :
    after (exec (.controlLine (linePixels (controlWords (packetBytes 9 0x10 [0x01, 0x00])))) State.reset) (fun s => (s.light.user, lastAnswer s)) =
      some (256, some ⟨.ok, []⟩) := by decide +kernel
theorem test_control_line_bad_check :
    after (exec (.controlLine (linePixels (controlWords [9, 0x10, 2, 1, 0, 0, 0]))) State.reset) (fun s => (s.light.user, lastAnswer s)) =
      some (4095, some ⟨.badCheck, []⟩) := by decide +kernel

/-! ### Witnesses: states and operands that meet the hypotheses of each obligation -/

theorem takes_inOp (op : OpState) : (inOp op).takes := ⟨rfl, rfl, rfl, (by decide +kernel : (0 : Nat) < 16)⟩
theorem takes_reset : State.reset.takes := ⟨rfl, rfl, rfl, by decide +kernel⟩

theorem witness_stepRunsFrontCommand : (State.reset.setPending [.controlTick, .rampTick]).pending = .controlTick :: [.rampTick] := rfl

theorem witness_idleStep :
    (State.reset.pending = [] ∧ State.reset.resetAsserted = false) ∧
    ((State.reset.setResetAsserted true).pending = [] ∧ (State.reset.setResetAsserted true).resetAsserted = true) := ⟨⟨rfl, rfl⟩, ⟨rfl, rfl⟩⟩

theorem witness_resetRelease :
    600 < ((State.reset.setPinCode .c0 601).temps.pinCode[0]).toNat ∧ ((State.reset.setPinCode .c0 600).temps.pinCode[0]).toNat ≤ 600 := by
  decide

theorem witness_resetAssertion : (inOp .lit).resetAsserted = false := rfl

/-- The part after some warp engine state, otherwise as after reset. -/
def withWarp (w : Warp) : State := State.reset.setWarp w

/-- A frame record that waits or is in output, its input frame start at line time 0. -/
def frame (o : OutState) (rows nextLine : Nat) (r : Reception) : FrameRec :=
  { base := 0, rows := rows, reception := r, output := o, start := 0, nextLine := nextLine }

/-- A request that executes. -/
def busyWith (job : Job) (phase : Phase) (h v : Work) : Executing :=
  { req := { tag := 5, job := job, phase := phase, clamped := false, stopReq := false }, hWork := h, vWork := v, hTarget := 0,
    vTarget := 0, inSequence := false }

/-- A recall in SWITCHING. -/
def switchingRecall : Executing := busyWith (.recall 0 ⟨true, 1, 2, some 3, true⟩) .switching .finished .finished

/-- An input frame start that overtakes a frame; one with a recall in SWITCHING behind a frame in output; and one whose
line time brings the output frame start of the frame that waits. -/
theorem witness_frameStart :
    (let s := withWarp { Warp.reset with previous := some .blanking, frames := [frame .waiting 2160 0 .full], lineTime := 158 };
      s.linked = true ∧ storeWf s.warp.store = true ∧ s.warp.writePos < 320 ∧ s.warp.previous = some .blanking ∧
      (∀ f ∈ s.warp.frames, f.output = .waiting → s.warp.lineTime + 1 ≠ f.start + 160) ∧
      ∀ x ∈ s.motion.executing, x.req.phase = .switching → ∀ f ∈ s.warp.frames, f.output = .output) ∧
    (let s := (withWarp { Warp.reset with
          previous := some .blanking, frames := [frame .output 2160 9 .full], writePos := 319, lineTime := 159 }).setExecuting
        (some switchingRecall);
      s.linked = true ∧ storeWf s.warp.store = true ∧ s.warp.writePos < 320 ∧ s.warp.previous = some .blanking ∧
      (∀ f ∈ s.warp.frames, f.output = .waiting → s.warp.lineTime + 1 ≠ f.start + 160) ∧
      ∀ x ∈ s.motion.executing, x.req.phase = .switching → ∀ f ∈ s.warp.frames, f.output = .output) ∧
    (let f := frame .waiting 160 0 .short;
      let s := (withWarp { Warp.reset with
          previous := some .blanking, frames := [frame .output 2160 9 .full] ++ [f], lineTime := 159 }).setExecuting
        (some switchingRecall);
      s.linked = true ∧ s.warp.previous = some .blanking ∧ s.warp.frames = [frame .output 2160 9 .full] ++ [f] ∧
      (∀ g ∈ [frame .output 2160 9 .full], g.output = .output) ∧ f.output = .waiting ∧ s.warp.lineTime + 1 = f.start + 160 ∧
      ∃ u, exec .outputFrameStart { s with warp := { s.warp with lineTime := s.warp.lineTime + 1 } } = .next u) :=
  ⟨by decide +kernel, by decide +kernel, rfl, rfl, rfl, by decide +kernel, rfl, rfl, _, rfl⟩

/-- R4, R11, R13: 160 line times apart the older frame has its output frame start and is the one in output of the two
records; 159 apart it is overtaken. -/
theorem test_frames_apart :
    after (exec (.inputActiveLine []) (withWarp { Warp.reset with previous := some .blanking, frames := [frame .waiting 9 0 .short], lineTime := 159 }))
      (fun s => s.warp.frames.map fun f => (f.start, f.output)) = some [(0, .output), (160, .waiting)] ∧
    after (exec (.inputActiveLine []) (withWarp { Warp.reset with previous := some .blanking, frames := [frame .waiting 9 0 .short], lineTime := 158 }))
      (fun s => s.warp.frames.map fun f => (f.start, f.output)) = some [(159, .waiting)] := by decide +kernel

theorem witness_otherInputLines :
    (let s := withWarp { Warp.reset with previous := some .active, frames := [] ++ [frame .waiting 2159 0 .receiving] };
      s.linked = true ∧ storeWf s.warp.store = true ∧ s.warp.writePos < 320 ∧ s.warp.previous ≠ some .blanking ∧
      s.warp.frames = [] ++ [frame .waiting 2159 0 .receiving] ∧ (frame .waiting 2159 0 .receiving).reception = .receiving) ∧
    (State.reset.linked = true ∧ State.reset.warp.previous ≠ some .blanking ∧
      ∀ f ∈ State.reset.warp.frames.getLast?, f.reception ≠ .receiving) :=
  ⟨⟨rfl, rfl, by decide +kernel, by decide +kernel, rfl, rfl⟩, ⟨rfl, by decide +kernel, by intro f hf; cases hf⟩⟩

theorem witness_lineSurvives :
    storeWf Warp.reset.store = true ∧ Warp.reset.writePos < 320 ∧
    (List.replicate 319 (LineKind.active, [black])).length ≤ 319 ∧ (List.replicate 319 (LineKind.active, [black])).length = 319 :=
  ⟨rfl, by decide +kernel, Nat.le_of_eq List.length_replicate, List.length_replicate⟩

theorem witness_outputFrameStart :
    let f := frame .waiting 160 0 .receiving
    let g := frame .output 2160 5 .full
    let s := withWarp { Warp.reset with frames := [g] ++ [f], lineTime := 160, choice := some ⟨none, .select⟩ }
    s.linked = true ∧ s.warp.frames = [g] ++ [f] ∧ (∀ x ∈ [g], x.output = .output) ∧
      f.output = .waiting ∧ s.warp.lineTime = f.start + 160 ∧ ∀ x ∈ s.motion.executing, x.req.phase ≠ .switching :=
  ⟨rfl, rfl, by decide +kernel, rfl, rfl, by intro x hx; cases hx⟩

theorem witness_outputLine :
    (∀ n ∈ [0, 2158, 2159],
      let f := frame .output 2160 n .full;
      let s := (withWarp { Warp.reset with frames := [f], lineTime := 160 + n }).setStats { Stats.reset with accumulating := true };
      s.linked = true ∧ s.warp.frames = f :: [] ∧ f.output = .output ∧ (∀ g ∈ ([] : List FrameRec), g.output = .waiting) ∧
        s.warp.lineTime = f.start + 160 + f.nextLine ∧ s.stats.accumulating = true) := by decide +kernel

/-- R11 step 1: the older frame's line falls in the line time of the newer frame's output frame start. -/
theorem witness_outputLine_cut :
    let f := frame .output 2160 5 .short
    let g := { frame .waiting 160 0 .receiving with start := 5 }
    let s := withWarp { Warp.reset with frames := f :: [g], lineTime := 165 }
    s.linked = true ∧ s.warp.frames = f :: [g] ∧ f.output = .output ∧ (∀ x ∈ [g], x.output = .waiting) ∧
      s.warp.lineTime = f.start + 160 + f.nextLine ∧ ∃ x ∈ [g], s.warp.lineTime = x.start + 160 := by decide +kernel

/-- The grid whose every point holds its own output position moved by a displacement. -/
def shiftedGrid (d : Int) : Vector Point 170 := Vector.ofFn fun n => ⟨3840 * ((n.val % 17 : Nat) : Int), 3840 * ((n.val / 17 : Nat) : Int) + d⟩

theorem shiftedGrid_pointAt (d : Int) (i j : Nat) (hi : i ≤ 16) (hj : j ≤ 9) :
    pointAt (shiftedGrid d) i j = ⟨3840 * i, 3840 * j + d⟩ := by
  have h : 17 * j + i < 170 := by omega
  have h1 : (17 * j + i) % 17 = i := by omega
  have h2 : (17 * j + i) / 17 = j := by omega
  simp [pointAt, shiftedGrid, Vector.getD, h]
  omega

theorem witness_mapping :
    (15 ≤ 15 ∧ 8 ≤ 8 ∧ 239 ≤ 239) ∧
    sourcePosition none 3839 2159 = ⟨61424, 34544⟩ ∧ (61424 : Int) = 16 * (3839 : Nat) + (0 : Nat) ∧
    (34544 : Int) = 16 * (2159 : Nat) + (0 : Nat) ∧
    sourcePosition (some (shiftedGrid (-1))) 0 0 = ⟨0, -1⟩ ∧ ((-1 : Int) < 0) := by
  refine ⟨by decide +kernel, by decide +kernel, rfl, rfl, ?_, by decide +kernel⟩
  decide +kernel

theorem witness_identity :
    3839 < 3840 ∧ 2159 < 2160 ∧
    ∀ pts ∈ some (shiftedGrid 0), ∀ i j : Nat, i ≤ 16 → j ≤ 9 → pointAt pts i j = ⟨16 * (240 * i), 16 * (240 * j)⟩ := by
  refine ⟨by decide +kernel, by decide +kernel, ?_⟩
  intro pts hp i j hi hj
  obtain rfl : shiftedGrid 0 = pts := by simpa using hp
  rw [shiftedGrid_pointAt 0 i j hi hj]
  congr 1 <;> ring

theorem witness_window (d : Int) (hd : d = -2544 ∨ d = 2559) :
    (∀ pts ∈ some (shiftedGrid d), ∀ i j : Nat, i ≤ 16 → j ≤ 9 →
      -2544 ≤ (pointAt pts i j).y - 3840 * j ∧ (pointAt pts i j).y - 3840 * j ≤ 2559) ∧
    ∀ row col : Nat, 500 ≤ row + 159 → row ≤ 500 + 160 → row < 2160 → col < 3840 →
      (fun (_ _ : Nat) => black) row col = (fun (r _ : Nat) => if r = 661 then ⟨1, 1, 1⟩ else black) row col := by
  refine ⟨?_, ?_⟩
  · intro pts hp i j hi hj
    obtain rfl : shiftedGrid d = pts := by simpa using hp
    have h := congrArg Point.y (shiftedGrid_pointAt d i j hi hj)
    constructor <;> rw [h] <;> rcases hd with rfl | rfl <;> linarith
  · intro row col _ h _ _
    show black = if row = 661 then ⟨1, 1, 1⟩ else black
    rw [if_neg (by omega)]

/-- An answer on the lane. -/
def someAnswer (holds : Bool) : FrameAnswer := { bytes := [0], holdsReset := holds }

/-- The part with an answer on the lane. -/
def sending (pending holds : Bool) : State :=
  (State.reset.setCtl { StateCtl.reset with resetPending := pending }).setChan { ChanState.reset with lane := some (someAnswer holds) }

theorem witness_linkLock :
    (State.reset.resetAsserted = false ∧ State.reset.ctl.resetPending = false ∧ State.reset.locked = true ∧
      ∀ f ∈ State.reset.warp.frames, f.output = .waiting) ∧
    (∃ f ∈ (withWarp { Warp.reset with frames := [frame .output 2160 0 .full] }).warp.frames, f.output = .output) ∧
    ((sending true false).resetAsserted = false ∧ (sending true false).ctl.resetPending = true ∧ (sending true false).locked = true ∧
      ∀ a ∈ (sending true false).chan.lane, a.holdsReset = false) ∧
    (State.reset.setLocked false).locked = false ∧
    ((sending true false).linked = true ∧ (sending true false).chan.lane = some (someAnswer false) ∧ (someAnswer false).holdsReset = false) ∧
    ((sending true true).ctl.resetPending = true ∧ (someAnswer true).holdsReset = true) :=
  ⟨⟨rfl, rfl, rfl, (by intro f hf; cases hf)⟩, ⟨_, List.mem_singleton.2 rfl, rfl⟩, by decide +kernel,
    rfl, ⟨rfl, rfl, rfl⟩, rfl, rfl⟩

theorem witness_packets :
    (Instr.writeGrid 1 0 0 9 (List.replicate 9 ⟨5, 6⟩)).wf = true ∧
    packetOf (.writeGrid 1 0 0 9 (List.replicate 9 ⟨5, 6⟩)) = some (1, 1, [0, 0, 9] ++ (List.replicate 9 ⟨5, 6⟩).flatMap pointBytes) ∧
    State.reset.takes ∧ (∃ bytes, (Instr.setLight 1 2).wf = true ∧ encode (.setLight 1 2) = some bytes ∧
      (linePixels (controlWords bytes)).flatMap (fun p => [p.r, p.g, p.b]) = controlWords bytes ++ [0, 0]) ∧
    ∃ t, exec .plainBlankingLine State.reset = .next t :=
  ⟨by decide +kernel, rfl, takes_reset, ⟨_, by decide +kernel, rfl, by decide +kernel⟩, _, rfl⟩

/-- The words of a control line with some packet bytes. -/
def lineOf (bytes : List Byte) : List LaneWord := (linePixels (controlWords bytes)).flatMap fun p => [p.r, p.g, p.b]

theorem witness_packetsFailed :
    (lineOf [9, 0x10, 2]).take 6 = [0x2AA, 0x155, 0x2AA, 0x155, 0x2AA, 0x155] ∧
    ((lineOf [9, 0x10, 2]).drop 6).map (fun w => w.setWidth 8) = [(9 : Byte), 0x10, 2] ∧
    ([9, 0x10, 2] : List Byte).length < 5 + 2 ∧ 48 < (49 : Byte).toNat ∧
    passesCheck (packetBytes 9 0xFF []) = true ∧ passesCheck (packetBytes 9 0x40 [7]) = true ∧
    requiredLength 0x40 [7] = some 0 ∧ requiredLength 0xFF [] = none ∧
    (sending true false).ctl.resetPending = true ∧ (State.reset.setChan { ChanState.reset with taken := 16 }).chan.taken = 16 := by
  decide +kernel

theorem witness_frameAnswer :
    let s := (withWarp { Warp.reset with previous := some .blanking }).setChan
      { ChanState.reset with lane := some (someAnswer false), waiting := some (someAnswer true) }
    s.linked = true ∧ s.warp.previous = some .blanking ∧
      (∀ f ∈ s.warp.frames, f.output = .waiting → s.warp.lineTime + 1 ≠ f.start + 160) ∧
      (∀ x ∈ s.motion.executing, x.req.phase = .switching → ∀ f ∈ s.warp.frames, f.output = .output) ∧
      s.chan.lane = some (someAnswer false) ∧ State.reset.chan.lane = none :=
  ⟨rfl, rfl, (by intro x hx; cases hx), (by intro x hx; cases hx), rfl, rfl⟩

theorem witness_events :
    State.reset.takes ∧ (0x0FFF : BitVec 16).toNat < 4096 ∧ 4096 ≤ (0x1000 : BitVec 16).toNat ∧
    ((sending true true).resetAsserted = false ∧ (sending true true).ctl.resetPending = true ∧ (sending true true).ctl.armed = true ∧
      (sending true true).locked = true ∧ (sending true true).chan.lane = some (someAnswer true) ∧ (someAnswer true).holdsReset = true) ∧
    ∀ e ∈ [Instr.resetNReleased, .silenceExpiry, .answerSent, .linkLockLost], ∃ t, exec e (sending true true) = .next t := by
  refine ⟨takes_reset, by decide +kernel, by decide +kernel, by decide +kernel, fun e he => ?_⟩
  fin_cases he <;> exact ⟨_, rfl⟩

theorem witness_readStatus (z : ZoneId) :
    State.reset.takes ∧ (fun _ => [0x80, 0x00] : ZoneId → List Byte) z = match (State.reset.zone z).temp with
      | none => [0x80, 0x00]
      | some t => wordBytes (BitVec.ofInt 16 t) := ⟨takes_reset, by cases z <;> rfl⟩

theorem witness_setFlag :
    State.reset.ctl.resetPending = false ∧ (State.reset.raise .derate).chan.flag .derate = true ∧
    (∃ t, exec .controlTick (State.reset.raise .derate) = .next t) ∧ Instr.controlTick ≠ .resetNReleased :=
  ⟨rfl, by decide +kernel, ⟨_, rfl⟩, by decide +kernel⟩

/-- The part with one slot in a state, fully written or not at all. -/
def withSlot (st : SlotState) (w : Bool) : State :=
  State.reset.setSlot 3 { Slot.reset with state := st, written := Vector.replicate 170 w }

theorem takes_withSlot (st : SlotState) (w : Bool) : (withSlot st w).takes := ⟨rfl, rfl, rfl, (by decide +kernel : (0 : Nat) < 16)⟩

theorem witness_writeGrid :
    State.reset.takes ∧ ([⟨0, 0⟩] : List RawPoint).length ≠ (2 : Byte).toNat ∧
    (4 ≤ (4 : Byte).toNat ∧ 8 < (9 : Byte).toNat ∧ 170 < (163 : Byte).toNat + (8 : Byte).toNat ∧ 65535 < (0x10000 : BitVec 20).toInt ∧
      (0xEFFFF : BitVec 20).toInt < -65536) ∧
    ((3 : Byte).toNat = (3 : Fin 4).val ∧ (162 : Byte).toNat + (8 : Byte).toNat ≤ 170 ∧
      (∀ q ∈ List.replicate 8 (⟨0xF0000, 0x0FFFF⟩ : RawPoint),
        -65536 ≤ q.x.toInt ∧ q.x.toInt ≤ 65535 ∧ -65536 ≤ q.y.toInt ∧ q.y.toInt ≤ 65535)) ∧
    State.reset.warp.active ≠ some 3 ∧ (withWarp { Warp.reset with active := some 3 }).warp.active = some 3 ∧
    (withWarp { Warp.reset with choice := some ⟨some 3, .select⟩ }).isProtected 3 = true :=
  ⟨takes_reset, by decide +kernel, by decide +kernel, by decide +kernel, by decide +kernel, rfl, by decide +kernel⟩

theorem witness_commitGrid :
    (withSlot .valid true).takes ∧ ((withSlot .valid true).slot 3).state ≠ .loading ∧
    (((withSlot .loading false).slot 3).state = .loading ∧ ((withSlot .loading false).slot 3).written.get 169 = false) ∧
    (((withSlot .loading true).slot 3).state = .loading ∧ ((withSlot .loading true).slot 3).full = true) :=
  ⟨takes_withSlot _ _, by decide +kernel, ⟨rfl, by decide +kernel⟩, rfl, by decide +kernel⟩

theorem witness_eraseSelect :
    (withSlot .valid true).takes ∧ ((withSlot .valid true).slot 3).state = .valid ∧ (withSlot .valid true).isProtected 3 = false ∧
    ((withSlot .loading true).slot 3).state ≠ .valid ∧ (4 ≤ (4 : Byte).toNat ∧ (4 : Byte) ≠ 0xFF) ∧
    (withWarp { Warp.reset with active := some 3 }).isProtected 3 = true :=
  ⟨takes_withSlot _ _, rfl, by decide +kernel, by decide +kernel, by decide +kernel, by decide +kernel⟩

theorem witness_readGrid :
    State.reset.takes ∧ 170 ≤ (170 : Byte).toNat ∧ (169 : Byte).toNat = (169 : Fin 170).val ∧ (3 : Byte).toNat = (3 : Fin 4).val :=
  ⟨takes_reset, by decide +kernel, by decide +kernel, by decide +kernel⟩

theorem witness_setLight :
    State.reset.takes ∧ State.reset.light.applied ≤ State.reset.light.safety ∧ State.reset.light.applied ≤ State.reset.light.motion ∧
    (4095 : BitVec 16).toNat ≤ 4095 ∧ 4095 < (4096 : BitVec 16).toNat ∧ 1 ≤ (1 : BitVec 16).toNat ∧ (0 : BitVec 16).toNat = 0 :=
  ⟨takes_reset, by decide +kernel, by decide +kernel, by decide +kernel, by decide +kernel, by decide +kernel, by decide +kernel⟩

theorem witness_rampTick : State.reset.resetAsserted = false ∧ (0 : Nat) = (if State.reset.light.applied < State.reset.light.target
      then min (State.reset.light.applied + State.reset.light.rampStep) State.reset.light.target
      else if State.reset.light.target < State.reset.light.applied
      then max (State.reset.light.applied - State.reset.light.rampStep) State.reset.light.target else State.reset.light.applied) :=
  ⟨rfl, by decide +kernel⟩

/-- Every zone of a state seen at a temperature, and not blind. -/
def seen (s : State) (t : Int) : State := s.setZoneCtl (s.zoneCtl.each fun _ x => { x with temp := some t, blind := false })

theorem takes_seen (op : OpState) (t : Int) : (seen (inOp op) t).takes := ⟨rfl, rfl, rfl, (by decide +kernel : (0 : Nat) < 16)⟩

theorem witness_lightComesOn :
    let s := (seen (inOp .cooldown) 799).setPending [.lightOn 1]
    (after (step s) fun t => t.ctl.op) = some .lit ∧ s.ctl.op ≠ .lit := by
  decide +kernel

/-- A source record in a state with its counts. -/
def source (st : SourceState) (failures goods : Nat) : Source :=
  { state := st, lastGood := some 400, failures := failures, goods := goods, lastOutcome := .done, zone := none }

theorem witness_readsMoveSource :
    (∀ x ∈ [source .failed 3 0, source .ok 1 0, source .ok 2 0, source .failed 3 3, source .failed 3 4],
      x = (State.reset.setSource 0 x).source 0) ∧
    ((source .ok 1 0).state ≠ .failed ∧ (source .ok 1 0).failures < 2) ∧
    ((source .ok 2 0).state ≠ .failed ∧ (source .ok 2 0).failures = 2) ∧
    ((source .failed 3 3).state = .failed ∧ (source .failed 3 3).goods < 4 ∧ (source .failed 3 4).goods = 4) := by decide +kernel

theorem witness_thermistor :
    State.reset.resetAsserted = false ∧ (4079 : BitVec 12).toNat = 256 * 15 + 239 ∧ (239 : Nat) < 256 ∧
    (16 ≤ (4079 : BitVec 12).toNat ∧ (4079 : BitVec 12).toNat ≤ 4079) ∧ (15 : BitVec 12).toNat < 16 ∧ 4079 < (4080 : BitVec 12).toNat ∧
    tableOk State.reset.temps.tableA.toList ∧
    (let s := State.reset.setTemps { State.reset.temps with converting := some .c1, discardConversion := true };
      s.temps.converting = some .c1 ∧ s.temps.discardConversion = true) :=
  ⟨rfl, by decide +kernel, by decide +kernel, by decide +kernel, by decide +kernel, by decide +kernel, by decide +kernel, rfl, rfl⟩

/-- The part with a poll entry in flight. -/
def inFlight (begun discarded : Bool) (rest : List (Fin 8)) : State :=
  State.reset.setTemps { State.reset.temps with
    sweeping := true, sweepList := rest
    flight := some { entry := 2, begun := begun, contents := { PollEntry.reset with pec := true }, discarded := discarded, stretchSum := 0 } }

theorem witness_sensorBus :
    ∀ begun ∈ [true, false], ∀ discarded ∈ [true, false],
      (inFlight begun discarded []).resetAsserted = false ∧ (inFlight begun discarded []).temps.flight.isSome = true ∧
      (inFlight begun discarded [3, 4]).temps.sweepList = 3 :: [4] ∧ (inFlight begun discarded []).temps.sweepList = [] ∧
      15000 < 0 + 15001 ∧ 15001 < 30000 ∧ 0 + 15000 ≤ 15000 ∧ 15000 < 30000 := by decide +kernel

theorem witness_comparator :
    (inOp .lit).resetAsserted = false ∧
    ((inOp .lit).temps.comparator.state = .released ∧ (600 : BitVec 12).toNat ≤ (inOp .lit).temps.comparator.threshold ∧
      (inOp .lit).ctl.op ≠ .tripped ∧ (inOp .lit).temps.comparator.threshold < (601 : BitVec 12).toNat) ∧
    (Channel.c3 ≠ (inOp .lit).temps.comparator.channel ∧ (inOp .lit).CtlOk) ∧
    (let s := inOp .tripped; s.temps.comparator.state = .released ∧ (600 : BitVec 12).toNat ≤ s.temps.comparator.threshold ∧
      s.ctl.op = .tripped) ∧
    (let s := State.reset.setComparator ⟨.c1, 600, .tripped⟩;
      s.temps.comparator.state = .tripped ∧ s.temps.comparator.threshold + 64 ≤ (664 : BitVec 12).toNat ∧
      (663 : BitVec 12).toNat < s.temps.comparator.threshold + 64) ∧
    ((inOp .tripped).takes ∧ (inOp .tripped).ctl.op = .tripped) ∧
    (State.reset.takes ∧ State.reset.ctl.op ≠ .tripped ∧ 4031 < (4032 : BitVec 16).toNat ∧ (3 : Byte).toNat = Channel.c3.code ∧
      (4031 : BitVec 16).toNat ≤ 4031 ∧ (4031 : BitVec 16).toNat < (State.reset.temps.pinCode[Channel.c3.idx]).toNat ∧
      ((State.reset.setPinCode .c3 4031).temps.pinCode[Channel.c3.idx]).toNat ≤ (4031 : BitVec 16).toNat) :=
  ⟨rfl, by decide +kernel, by decide +kernel, by decide +kernel, by decide +kernel, ⟨takes_inOp _, rfl⟩, takes_reset, by decide +kernel⟩

theorem witness_pollAndSource :
    State.reset.takes ∧ (8 ≤ (8 : Byte).toNat ∧ (0x07 : Byte).toNat < 0x08 ∧ 0x77 < (0x78 : Byte).toNat ∧ 8 < (9 : Byte).toNat) ∧
    ((7 : Byte).toNat = (7 : Fin 8).val ∧ 0x08 ≤ (0x77 : Byte).toNat ∧ (0x77 : Byte).toNat ≤ 0x77 ∧ (8 : Byte).toNat ≤ 8) ∧
    (12 ≤ (12 : Byte).toNat ∧ 3 ≤ (3 : Byte).toNat ∧ (3 : Byte) ≠ 0xFF) ∧
    ((11 : Byte).toNat = (11 : Fin 12).val ∧ (11 : Fin 12) = Channel.c3.source ∧ (7 : Fin 12).val < 8) :=
  ⟨takes_reset, by decide +kernel, by decide +kernel, by decide +kernel, by decide +kernel⟩

theorem witness_tables :
    State.reset.takes ∧ (4 ≤ (4 : Byte).toNat ∧ 2 ≤ (2 : Byte).toNat ∧ 17 ≤ (17 : Byte).toNat) ∧
    ((1 : Byte).toNat = TableId.b.code ∧ (3 : Byte).toNat = Channel.c3.code ∧ (16 : Byte).toNat = (16 : Fin 17).val ∧
      State.reset.temps.channelTable[Channel.c3.idx] ≠ .b ∧ State.reset.temps.channelTable[Channel.c3.idx] = .a) ∧
    (tableOk ((List.replicate 9 (100 : BitVec 16)).map fun v => v.toInt) ∧
      ¬tableOk ((List.replicate 9 (2401 : BitVec 16)).map fun v => v.toInt)) ∧
    (let st : Staging := ⟨.b, List.replicate 9 100⟩;
      let s := State.reset.setTemps { State.reset.temps with staging := some st };
      s.temps.staging = some st ∧ st.table = .b ∧ st.values.length = 9 ∧ (∀ t ∈ st.values, plausible t = true) ∧
      tableOk (st.values ++ (List.replicate 8 (100 : BitVec 16)).map fun v => v.toInt) ∧
      ¬tableOk (st.values.drop 8 ++ (List.replicate 8 (101 : BitVec 16)).map fun v => v.toInt)) :=
  ⟨takes_reset, by decide +kernel, by decide +kernel, by decide +kernel, by decide +kernel⟩

theorem witness_zoneDemands :
    (State.reset.resetAsserted = false ∧ ∀ (n : Fin 12) (v : Int),
      ¬((State.reset.source n).zone = some .light ∧ (State.reset.source n).state = .ok ∧ (State.reset.source n).lastGood = some v)) ∧
    (let s := (inOp .lit).setSource 8 { source .ok 0 0 with zone := some .light };
      s.resetAsserted = false ∧ s.ctl.op ≠ .standby ∧
      ((s.source 8).zone = some .light ∧ (s.source 8).state = .ok ∧ (s.source 8).lastGood = some 400) ∧
      ∀ (n : Fin 12), (s.source n).zone = some .light → (s.source n).state = .ok → ∀ v ∈ (s.source n).lastGood, v ≤ 400) := by
  refine ⟨⟨rfl, fun n v => ?_⟩, ?_⟩
  · fin_cases n <;> rintro ⟨-, h, -⟩ <;> cases h
  · decide

theorem witness_controlTick :
    (State.reset.resetAsserted = false ∧ ∃ t, exec .controlTick State.reset = .next t) ∧
    (let s := (inOp .lit).setSource 8 { source .ok 0 0 with zone := some .light, lastGood := some 1280 };
      s.ctl.op ≠ .tripped ∧ (after (exec .controlTick s) fun t => ((t.zone .light).temp, t.ctl.op, t.ctl.lastTrip)) =
        some (some 1280, .tripped, .zone .light)) ∧
    (after (exec .controlTick (inOp .tripped)) fun t => t.ctl.op) = some .tripped ∧
    (after (exec .controlTick (inOp .lit)) fun t => t.ctl.op) = some .lit :=
  ⟨⟨rfl, _, rfl⟩, by decide +kernel, by decide +kernel, by decide +kernel⟩

/-- The part in COOLDOWN with a run-on elapsed and every zone's channel at a temperature. -/
def runningOn (n : Nat) (t : Int) : State :=
  let ok (z : ZoneId) : Source := { source .ok 0 0 with zone := some z, lastGood := some t }
  (((inOp .cooldown).setCtl { StateCtl.reset with op := .cooldown, runOn := some n }).setSource 8 (ok .light)).setSource 9 (ok .panel)
    |>.setSource 10 (ok .air)

theorem witness_runOn :
    (after (exec .controlTick (runningOn 60000 608)) fun t => t.ctl.op) = some .standby ∧
    (after (exec .controlTick (runningOn 59999 608)) fun t => t.ctl.op) = some .cooldown ∧
    (after (exec .controlTick (runningOn 60000 609)) fun t => t.ctl.op) = some .cooldown ∧
    (runningOn 60000 608).temps.sweeping = false := by decide +kernel

/-- An axis that waits in APPROACH at its overshoot point. -/
def waitingFor : Axis :=
  { Axis.resetWith 38400 false false with state := .approach, homed := true, position := 5000, plan := some ⟨5240, false, true⟩ }

/-- A homed axis in IDLE. -/
def idleAt (position : Nat) : Axis := { Axis.resetWith 38400 false false with state := .idle, homed := true, position := position }

/-- The part in LIT with a rail budget, every zone at 38 °C, and a request that executes. -/
def onRail (budget : Nat) (x : Executing) (h v : Axis) : State :=
  ((((runningOn 0 608).setCtl { StateCtl.reset with op := .lit, budget := budget }).setAxis .h h).setAxis .v v).setExecuting (some x)

/-- A leg start that waits for the rail or is held: of a homing, of a move, of an approach leg beside a moving axis, and
of both axes; at a control tick that draws 0 mA and at one in which no zone trips. -/
theorem witness_railJudged :
    (let x := busyWith (.home .h) .waitRail .owed .unused; ∃ y, (onRail 40 x (idleAt 5000) (idleAt 0)).BeginsLeg x .h y) ∧
    (let x := busyWith (.moveAxis .h 0) .waitRail .owed .unused; ∃ y, (onRail 39 x (idleAt 5000) (idleAt 0)).BeginsLeg x .h y) ∧
    (let x := busyWith switchingRecall.req.job .running .active .active;
      (∃ y, (onRail 80 x waitingFor (onLeg 3 376 600)).BeginsLeg x .h y) ∧ x.work (otherAxis .h) = .active ∧
      (onLeg 3 376 600).state ≠ .approach ∧ (onLeg 3 376 600).inMotion = true) ∧
    (let x := busyWith switchingRecall.req.job .waitRail .owed .owed;
      (∃ y, (onRail 80 x (idleAt 5000) (idleAt 6000)).BeginsLeg x .h y) ∧
      (∃ y, (onRail 80 x (idleAt 5000) (idleAt 6000)).BeginsLeg x .v y) ∧ x.req.stopReq = false ∧ x.req.phase ≠ .switching) ∧
    (∀ x ∈ [busyWith (.home .h) .waitRail .owed .unused, busyWith switchingRecall.req.job .waitRail .owed .owed],
      ∀ b ∈ [39, 40, 79, 80],
      after (exec .controlTick (onRail b x (idleAt 5000) (idleAt 6000)))
        (fun t => (t.fanDraw, ZoneId.all.map fun z => ((t.zone z).temp, (t.zone z).trip))) =
      some (0, [(some 608, 1280), (some 608, 1152), (some 608, 960)])) := by
  refine ⟨⟨_, .inl ⟨rfl, rfl, ⟨_, rfl⟩, fun _ => .inl rfl, .inr rfl, rfl⟩⟩,
    ⟨_, .inr ⟨.inr rfl, .inr rfl, .inl ⟨rfl, rfl, nofun, nofun, _, _, _, _, _, rfl, rfl, rfl, by decide +kernel, rfl, rfl, rfl⟩⟩⟩,
    ⟨⟨_, .inr ⟨.inr rfl, .inr rfl, .inr ⟨rfl, rfl, rfl, _, rfl, by decide +kernel, rfl⟩⟩⟩, rfl, by decide +kernel, rfl⟩,
    ⟨⟨_, .inr ⟨.inr rfl, .inr rfl, .inl ⟨rfl, rfl, nofun, nofun, _, _, _, _, _, rfl, rfl, rfl, by decide +kernel, rfl, rfl, rfl⟩⟩⟩,
      ⟨_, .inr ⟨.inr rfl, .inr rfl, .inl ⟨rfl, rfl, nofun, nofun, _, _, _, _, _, rfl, rfl, rfl, by decide +kernel, rfl, rfl, rfl⟩⟩⟩,
      rfl, by decide +kernel⟩, by decide +kernel⟩

/-- A start that waits for the rail on an active end-stop: a move's first leg, and an approach leg. -/
theorem witness_railEndstop :
    (let x := busyWith (.moveAxis .h 0) .waitRail .owed .unused;
      (∃ z, (onRail 40 x { idleAt 5000 with highLevel := true } (idleAt 0)).MeetsEndstop x .h z) ∧
      (onRail 40 x { idleAt 5000 with highLevel := true } (idleAt 0)).motion.queue = [] ∧ x.work (otherAxis .h) = .unused) ∧
    (let x := busyWith switchingRecall.req.job .waitRail .active .finished;
      (∃ z, (onRail 40 x { waitingFor with lowLevel := true } (idleAt 0)).MeetsEndstop x .h z) ∧ x.work (otherAxis .h) = .finished) :=
  ⟨⟨⟨_, by decide +kernel, _, .inl ⟨rfl, rfl, nofun, nofun, _, _, _, _, _, rfl, rfl, rfl, by decide +kernel, rfl, rfl, rfl⟩, rfl⟩, rfl, rfl⟩,
    ⟨_, by decide +kernel, _, .inr ⟨rfl, rfl, rfl, _, rfl, by decide +kernel, rfl⟩, rfl⟩, rfl⟩

/-- R135, R144: an approach leg that the rail allows at a control tick meets an active end-stop: ENDSTOP, unhomed, DIR as
the leg set it. -/
theorem test_approach_meets_endstop :
    after (exec .controlTick (onRail 40 (busyWith (.moveAxis .h 0) .waitRail .active .unused) { waitingFor with lowLevel := true } (idleAt 0)))
      (fun t => (t.motion.history.map fun e => e.result, t.axisH.homed, t.axisH.dirPin)) = some ([.endstop], false, true) := by
  decide +kernel

/-- R155, R158: at a control tick a request in WAIT_RAIL starts the pair, or V alone, or goes on waiting. -/
theorem test_rail_judged_again :
    let run (b : Nat) := after (exec .controlTick (onRail b (busyWith switchingRecall.req.job .waitRail .owed .owed) (idleAt 5000) (idleAt 6000)))
      fun t => ([t.axisH.state, t.axisV.state], t.motion.executing.map fun x => (x.req.phase, x.inSequence))
    run 80 = some ([.moving, .moving], some (.running, false)) ∧ run 79 = some ([.idle, .moving], some (.running, true)) ∧
    run 39 = some ([.idle, .idle], some (.waitRail, false)) := by decide +kernel

theorem witness_zoneCommands :
    State.reset.takes ∧ (3 ≤ (3 : Byte).toNat ∧ 2400 < (2401 : BitVec 16).toInt ∧ (0xFD7F : BitVec 16).toInt < -640 ∧
      4095 < (4096 : BitVec 16).toNat ∧ 8 ≤ (8 : Byte).toNat) ∧
    ((2 : Byte).toNat = ZoneId.air.code ∧ (2 : Byte).toNat = LoadBasis.noLoad.code ∧
      ([0xFD80, 0xFD81, 2400, 0, 0] : List (BitVec 16)).all (fun v => decide (-640 ≤ v.toInt) && decide (v.toInt ≤ 2400)) = true ∧
      (0xFD80 : BitVec 16).toInt < (0xFD81 : BitVec 16).toInt ∧ (0xFD81 : BitVec 16).toInt < (2400 : BitVec 16).toInt ∧
      (7 : Byte).toNat < 8) ∧
    State.reset.light.applied ≤ State.reset.light.safety ∧ State.reset.light.applied ≤ State.reset.light.motion :=
  ⟨takes_reset, by decide +kernel, by decide +kernel, by decide +kernel, by decide +kernel⟩

theorem witness_fanTimers :
    State.reset.resetAsserted = false ∧ (Fan.reset.enterKick.state = .kick ∧ Fan.reset.enterKick.requested = 0) ∧
    (Fan.reset.enterPause.state = .pause ∧ Fan.reset.enterRunning.state = .running) ∧
    ({ Fan.reset with requested := 200, retry := 3 }.enterKick.requested ≠ 0 ∧ { Fan.reset with retry := 3 }.enterKick.retry = 3) ∧
    (State.reset.setFan .f0 Fan.reset.enterKick).fan .f0 = Fan.reset.enterKick ∧ (inOp .tripped).ctl.op = .tripped ∧
    (inOp .lit).ctl.op = .lit := by decide +kernel

theorem witness_tachAndFans :
    State.reset.takes ∧ (State.reset.resetAsserted = false ∧ (State.reset.fan .f2).edgeHeld = false) ∧
    ({ Fan.reset with edgeHeld := true }.edgeHeld = true ∧ 1 ≤ 1000000 ∧ 1000000 < 1000001 ∧ 1 ≤ Fan.reset.edges) ∧
    (Fan.reset.edgeSel = .rising ∧ { Fan.reset with edgeSel := .falling }.edgeSel = .falling ∧ { Fan.reset with edgeSel := .both }.edgeSel = .both) ∧
    (3 ≤ (3 : Byte).toNat ∧ (2 : Byte).toNat = FanId.f2.idx.val) ∧
    ((0 : BitVec 16).toNat = 0 ∧ 1023 < (1024 : BitVec 16).toNat ∧ 8 < (9 : Byte).toNat ∧ 3 ≤ (3 : Byte).toNat) ∧
    ((2 : Byte).toNat = TachSelect.both.code ∧ ([1, 1, 1, 1023] : List (BitVec 16)).all (fun d => decide (1 ≤ d.toNat) && decide (d.toNat ≤ 1023)) = true ∧
      ([1, 1, 1023] : List (BitVec 16)).all (fun d => decide ((1 : BitVec 16).toNat ≤ d.toNat)) = true ∧ (8 : Byte).toNat ≤ 8) ∧
    (Fan.reset.state ≠ .failed ∧ Fan.reset.enterFailed.state = .failed) ∧
    (let s := State.reset.setFan .f0 Fan.reset.enterFailed; s.takes ∧ s.LightOk ∧ (s.fan .f0).state = .failed) :=
  ⟨takes_reset, by decide +kernel, by decide +kernel, by decide +kernel, by decide +kernel, by decide +kernel, by decide +kernel,
    by decide +kernel, ⟨rfl, rfl, rfl, by decide +kernel⟩, by decide +kernel, by decide +kernel⟩

theorem witness_lightOn :
    ((inOp .lit).takes ∧ (inOp .lit).ctl.op = .lit) ∧ ((inOp .tripped).takes ∧ (inOp .tripped).ctl.op = .tripped) ∧
    (State.reset.takes ∧ State.reset.ctl.op = .standby ∧ (State.reset.zone .light).blind = true) ∧
    ((seen (inOp .cooldown) 800).takes ∧ (∀ z ∈ ZoneId.all, ((seen (inOp .cooldown) 800).zone z).blind = false) ∧
      ((seen (inOp .cooldown) 800).fan .f0).state ≠ .failed ∧
      (((seen (inOp .cooldown) 800).zone .air).derate ≤ 800 ∧ 800 < ((seen (inOp .cooldown) 800).zone .light).derate ∧
        800 < ((seen (inOp .cooldown) 800).zone .panel).derate)) ∧
    ((seen (inOp .cooldown) 799).takes ∧ (∀ z ∈ ZoneId.all, 799 < ((seen (inOp .cooldown) 799).zone z).derate) ∧
      (seen (inOp .cooldown) 799).motion.queue = [] ∧
      (seen (inOp .cooldown) 799).light.applied ≤ (seen (inOp .cooldown) 799).light.motion ∧
      (seen (inOp .cooldown) 799).light.applied ≤ 4095) ∧
    (((seen (inOp .standby) 0).setFan .f0 Fan.reset.enterFailed).fan .f0).state = .failed :=
  ⟨⟨takes_inOp _, rfl⟩, ⟨takes_inOp _, rfl⟩, ⟨takes_reset, rfl, rfl⟩, ⟨takes_seen _ _, by decide +kernel⟩, ⟨takes_seen _ _, by decide +kernel⟩, by decide +kernel⟩

theorem witness_lightOff :
    (State.reset.takes ∧ State.reset.ctl.op ≠ .lit ∧ State.reset.ctl.op ≠ .tripped) ∧ (inOp .lit).takes ∧
    ((seen (inOp .tripped) 928).takes ∧ (seen (inOp .tripped) 928).temps.comparator.state = .released ∧
      ((seen (inOp .tripped) 928).zone .air).trip - 32 ≤ 928 ∧
      (∀ y ∈ [ZoneId.light, .panel], 928 < ((seen (inOp .tripped) 928).zone y).trip - 32)) ∧
    ((seen (inOp .tripped) 927).takes ∧ (∀ z ∈ ZoneId.all, 927 < ((seen (inOp .tripped) 927).zone z).trip - 32) ∧
      ((seen (inOp .tripped) 927).fan .f0).state ≠ .failed) ∧
    ((inOp .tripped).setComparator ⟨.c0, 600, .tripped⟩).temps.comparator.state = .tripped :=
  ⟨⟨takes_reset, by decide +kernel, by decide +kernel⟩, takes_inOp _, ⟨takes_seen _ _, by decide +kernel⟩, ⟨takes_seen _ _, by decide +kernel⟩, rfl⟩

theorem witness_stateSettings :
    State.reset.takes ∧ (2 ≤ (2 : Byte).toNat ∧ 3 ≤ (3 : Byte).toNat ∧ 1000 < (1001 : BitVec 16).toNat) ∧
    ((1 : Byte).toNat = Orientation.ceiling.code ∧ (2 : Byte).toNat = Acoustic.highAltitude.code ∧ (1000 : BitVec 16).toNat ≤ 1000) ∧
    State.reset.ctl.op = .standby ∧ ((inOp .lit).takes ∧ (inOp .lit).ctl.op ≠ .standby) :=
  ⟨takes_reset, by decide +kernel, by decide +kernel, rfl, takes_inOp _, by decide +kernel⟩

theorem witness_silence :
    (∀ op ∈ [OpState.standby, .tripped],
      let s := (inOp op).setCtl { StateCtl.reset with op := op, resetPending := true, silence := 3 };
      s.resetAsserted = false ∧ s.ctl.armed = true ∧ s.ctl.resetPending = true ∧ (s.ctl.op = .standby ∨ s.ctl.op = .tripped) ∧
      s.ctl.silence = 3) ∧
    (∀ n ∈ [0, 2, 3],
      let s := (inOp .lit).setCtl { StateCtl.reset with op := .lit, silence := n };
      s.resetAsserted = false ∧ s.ctl.armed = true ∧ s.ctl.silence = n ∧ s.ctl.op = .lit ∧ s.ctl.resetPending = false ∧
      s.motion.executing = none) ∧
    (after (exec .silenceExpiry ((inOp .lit).setExecuting (some switchingRecall))) fun t => (t.ctl.op, t.motion.executing)) =
      some (.cooldown, none) ∧
    ((State.reset.setCtl { StateCtl.reset with silence := 4, armed := false }).ctl.armed = false) ∧
    ((sending true false).ctl.armed = true ∧ (sending true false).ctl.resetPending = true ∧ (sending true false).ctl.op = .standby) := by
  decide +kernel

theorem witness_axisCommands :
    State.reset.takes ∧ 2 ≤ (2 : Byte).toNat ∧
    ((199 : BitVec 16).toNat < 200 ∧ 8000 < (8001 : BitVec 16).toNat ∧ (49 : BitVec 16).toNat < 50 ∧ 1000 < (1001 : BitVec 16).toNat ∧
      2000 < (2001 : BitVec 16).toNat ∧ 2 ≤ (2 : Byte).toNat) ∧
    ((1 : Byte).toNat = Dir.negative.code ∧ 1 ≤ (1 : BitVec 16).toNat ∧ 200 ≤ (200 : BitVec 16).toNat ∧
      (8000 : BitVec 16).toNat ≤ 8000 ∧ 50 ≤ (50 : BitVec 16).toNat ∧ (200 : BitVec 16).toNat ≤ (200 : BitVec 16).toNat ∧
      (2000 : BitVec 16).toNat ≤ 2000 ∧ (15 : Byte).toNat ≤ 15) ∧
    ((State.reset.axis .v).state = .off ∧ (onLeg 3 376 600).state ≠ .off ∧ (onLeg 3 376 600).state ≠ .idle ∧
      (onLeg 3 376 600).leg.isSome = true ∧ (onLeg 3 376 600).plan.isSome = true) ∧
    ((Axis.resetWith 38400 false false).takeHoming.state = .seek ∧ (Axis.resetWith 38400 false false).takeHoming.plan = none) ∧
    ((State.reset.axis .v).leg = none ∧ (State.reset.axis .v).plan = none ∧
      waitingFor.state = .approach ∧ waitingFor.leg = none ∧ waitingFor.plan = some ⟨5240, false, true⟩) ∧
    (let x := { onLeg 9 210 0 with state := .stopping, stopHoming := true, plan := none };
      x.state ≠ .seek ∧ x.state ≠ .release ∧ x.leg = some ⟨.positive, 9⟩ ∧ x.plan = none) :=
  ⟨takes_reset, by decide +kernel, by decide +kernel, by decide +kernel, by decide +kernel, by decide +kernel, by decide +kernel, by decide +kernel⟩

/-- An axis that homes with an allowance, or stops on a leg, at a velocity. -/
def homing (st : AxisState) (allowance vel acc : Nat) : Axis :=
  { Axis.resetWith 38400 false false with state := st, allowance := allowance, vel := vel, acc := acc }

theorem witness_profileTick :
    ((onLeg 3 376 600).state = .moving ∧ (onLeg 3 376 600).leg = some ⟨.positive, 3⟩ ∧ min ((600 + 360) / 1000) 3 < 3) ∧
    ((onLeg 1 296 976).leg = some ⟨.positive, 1⟩ ∧ min ((976 + 280) / 1000) 1 = 1 ∧ ∀ p ∈ (onLeg 1 296 976).plan, p.owed = false) ∧
    ((homing .seek 1 1600 900).leg = none ∧ (homing .seek 1 1600 900).state = .seek ∧ min ((900 + 1600) / 1000) 1 = 1) ∧
    ((homing .release 9 400 0).state = .release ∧ min ((0 + 400) / 1000) 9 < 9) ∧
    ({ onLeg 9 3200 0 with state := .stopping }.state = .stopping ∧ 200 < max (3200 - 16) 200 ∧ min ((0 + 3184) / 1000) 9 < 9) ∧
    ({ onLeg 9 210 0 with state := .stopping }.state = .stopping ∧ max (210 - 16) 200 ≤ 200) ∧
    (Axis.resetWith 38400 false false).inMotion = false := by decide +kernel

/-- The part in LIT with a request on one axis alone, H, whose record is given. -/
def working (job : Job) (stopReq : Bool) (x : Axis) : State :=
  (((inOp .lit).setAxis .h x).setAxis .v { State.reset.axisV with state := .idle }).setExecuting
    (some { busyWith job .running .active .unused with req := { (busyWith job .running .active .unused).req with stopReq := stopReq } })

/-- The last step of a leg to an overshoot point, the target beyond it. -/
def lastStep (target : Nat) (low : Bool) : Axis :=
  { onLeg 1 296 976 with plan := some ⟨target, false, true⟩, homed := true, lowLevel := low }

theorem witness_profileTickEndsRequest :
    let recalled (slot : Option (Fin 4)) := Job.recall 0 ⟨true, 101, 0, slot, false⟩
    ((onLeg 1 296 976).tick.2 = .outcome (.done false) ∧ { onLeg 9 210 0 with state := .stopping }.tick.2 = .outcome .stopped ∧
      (homing .seek 1 1600 900).tick.2 = .outcome .homeFail ∧ (lastStep 341 false).tick.2 = .asks) ∧
    (∀ x ∈ [onLeg 1 296 976, { onLeg 9 210 0 with state := .stopping }, homing .seek 1 1600 900, lastStep 341 false],
      ∀ job ∈ [Job.moveAxis .h 101, recalled none, recalled (some 3)], ∀ stopReq ∈ [false, true],
        (working job stopReq x).resetAsserted = false ∧ (working job stopReq x).axisH = x ∧ (working job stopReq x).axisV.tick.2 = .quiet ∧
        (working job stopReq x).motion.executing.isSome = true ∧ (working job stopReq x).motion.queue = [] ∧
        (working job stopReq x).axisV.state = .idle ∧ (working job stopReq x).ctl.armed = true ∧
        ((working job stopReq x).slot 3).state ≠ .valid) ∧
    ((withSlot .valid true).slot 3).state = .valid ∧ State.reset.axisH.tick.2 = .quiet ∧ State.reset.axisV.tick.2 = .quiet ∧
    40 ≤ (inOp .lit).ctl.budget ∧ (lastStep 101 true).tick.1.lowLevel ≠ (lastStep 101 true).tick.1.lowFalling := by decide +kernel

/-- The end of V's leg leaves to judge the start of H that is owed, and the approach leg of H that is held. -/
theorem witness_otherAxisJudged :
    let s (w : Work) (h : Axis) := onRail 40 (busyWith switchingRecall.req.job .running w .active) h (onLeg 1 296 976)
    (∀ w ∈ [Work.owed, .active], ∀ h ∈ [idleAt 5000, waitingFor],
      (s w h).resetAsserted = false ∧ ((s w h).axis .v).tick.2 = .outcome (.done false) ∧ ((s w h).axis .h).tick.2 = .quiet ∧
      (s w h).motion.executing = some (busyWith switchingRecall.req.job .running w .active) ∧ (s w h).fanDraw = 0 ∧
      (s w h).axisH.current = 40) ∧
    (∃ y, (s .owed (idleAt 5000)).BeginsLeg ((busyWith switchingRecall.req.job .running .owed .active).setWork .v .finished) .h y) ∧
    (∃ y, (s .active waitingFor).BeginsLeg ((busyWith switchingRecall.req.job .running .active .active).setWork .v .finished) .h y) ∧
    ∃ z, (s .active { waitingFor with lowLevel := true }).MeetsEndstop
      ((busyWith switchingRecall.req.job .running .active .active).setWork .v .finished) .h z := by
  refine ⟨by decide +kernel,
    ⟨_, .inr ⟨.inr rfl, .inr rfl, .inl ⟨rfl, rfl, nofun, nofun, _, _, _, _, _, rfl, rfl, rfl, by decide +kernel, rfl, rfl, rfl⟩⟩⟩,
    ⟨_, .inr ⟨.inr rfl, .inr rfl, .inr ⟨rfl, rfl, rfl, _, rfl, by decide +kernel, rfl⟩⟩⟩,
    ⟨_, by decide +kernel, _, .inr ⟨rfl, rfl, rfl, _, rfl, by decide +kernel, rfl⟩, rfl⟩⟩

/-- R154, R158: the end of V's work begins the homing of H in a HOME BOTH, as the rail allows it. -/
theorem test_other_axis_judged :
    let run (b : Nat) := after (exec .profileTick (onRail b (busyWith (.home .both) .running .owed .active) (idleAt 5000) (onLeg 1 296 976)))
      fun t => (t.axisH.state, t.axisV.state, t.motion.railTimer)
    run 40 = some (.seek, .idle, none) ∧ run 39 = some (.idle, .idle, some 10000) := by decide +kernel

/-- R140, R155: an approach leg that is asked for is granted; one of distance 0 ends at once, but for an active
end-stop (R135); and without the rail's allowance the request waits. -/
theorem test_approach_leg :
    let run (s : State) := after (exec .profileTick s) fun t => (t.axisH.state, t.axisH.leg, t.motion.railTimer)
    let results (s : State) := after (exec .profileTick s) fun t => t.motion.history.map fun e => e.result
    run (working (.moveAxis .h 341) false (lastStep 341 false)) = some (.approach, some ⟨.positive, 240⟩, none) ∧
    run ((working (.moveAxis .h 341) false (lastStep 341 false)).setCtl { StateCtl.reset with op := .lit, budget := 39 }) =
      some (.approach, none, some 10000) ∧
    results (working (.moveAxis .h 341) false (lastStep 341 false)) = some [] ∧
    results (working (.moveAxis .h 101) false (lastStep 101 false)) = some [.completed] ∧
    results (working (.moveAxis .h 101) false (lastStep 101 true)) = some [.endstop] := by decide +kernel

/-- R159, R160: a recall without a VALID slot ends GRID_HELD, one with it goes to SWITCHING. -/
theorem test_grid_step :
    let job := Job.recall 0 ⟨true, 101, 0, some 3, false⟩
    let run (s : State) := after (exec .profileTick s) fun t => (t.warp.choice, t.motion.history.map fun e => e.result)
    run (working job false (onLeg 1 296 976)) = some (none, [.gridHeld]) ∧
    run ((working job false (onLeg 1 296 976)).setGrid (withSlot .valid true).grid) = some (some ⟨some 3, .recall 5⟩, []) := by
  decide +kernel

theorem witness_endstop :
    (∀ st ∈ [AxisState.off, .idle, .seek, .release, .moving, .stopping, .approach],
      let s := (inOp .lit).setAxis .v { onLeg 3 376 600 with state := st };
      s.resetAsserted = false ∧ s.motion.executing = none ∧ s.motion.queue = [] ∧ s.axisV.state = st ∧ s.axisV.lowEnable = true ∧
      s.axisV.leg ≠ none ∧ { s.axisV with highEnable := false }.highEnable = false) ∧
    (∀ st ∈ [AxisState.seek, .release, .moving, .stopping, .approach], ∀ job ∈ [Job.home .h, .moveAxis .h 103],
      let s := working job false { onLeg 3 376 600 with state := st };
      s.motion.executing = some (busyWith job .running .active .unused) ∧ (busyWith job .running .active .unused).work .h = .active ∧
      (busyWith job .running .active .unused).work .v ≠ .active ∧ s.motion.blankHold = false ∧ s.axisH.state = st) ∧
    (let r := busyWith (.recall 0 ⟨true, 1, 2, none, false⟩) .running .active .active;
      r.work .h = .active ∧ r.work (otherAxis .h) = .active ∧ (onLeg 3 376 600).state = .moving) ∧
    (let r := busyWith (.home .both) .running .owed .active;
      r.work .v = .active ∧ r.hWork = .owed ∧ r.req.job = .home .both ∧ r.req.stopReq = false ∧ State.reset.axisH.inMotion = false ∧
      40 ≤ (inOp .lit).ctl.budget ∧ State.reset.axisH.lowLevel = State.reset.axisH.lowFalling) := by decide +kernel

/-- R141 to R143, R157: the end-stops in a homing of both axes: V's home point begins the homing of H, whose high
end-stop fails it. -/
theorem test_home_both :
    let homingV := ((inOp .lit).setAxis .v (homing .release 9 400 0)).setExecuting (some (busyWith (.home .both) .running .owed .active))
    after (exec (.endstopInactive .vl) homingV) (fun t => (t.axisV.homed, t.axisH.state, t.axisH.allowance)) = some (true, .seek, 43200) ∧
    after (exec (.endstopEdge .hh) (working (.home .h) false (homing .seek 9 400 0)))
      (fun t => (t.motion.history.map fun e => e.result, t.motion.executing, t.chan.flags)) = some ([.homeFail], none, 0x014) := by decide +kernel

theorem witness_motionRequests :
    (State.reset.takes ∧ State.reset.ctl.op = .standby) ∧
    (2 ≤ (2 : Byte).toNat ∧ 3 ≤ (3 : Byte).toNat ∧ 12 ≤ (12 : Byte).toNat ∧ 65535 < (0x010000 : BitVec 24).toInt ∧
      (0xFF0000 : BitVec 24).toInt < -65535 ∧ (0xFF0001 : BitVec 24).toInt = -65535 ∧ (0x00FFFF : BitVec 24).toInt = 65535) ∧
    ((inOp .lit).takes ∧ (inOp .lit).motion.queue.length < 8 ∧ (inOp .lit).axisH.state ≠ .idle) ∧
    ((inOp .lit).setMotion { Motion.reset with queue := List.replicate 8 (Request.fresh 1 (.home .h)) }).motion.queue.length = 8 ∧
    ((11 : Byte).toNat = (11 : Fin 12).val ∧ (State.reset.motion.presets[11]).valid = false ∧
      (({ Motion.reset with presets := Motion.reset.presets.set 11 ⟨true, 1, 2, none, true⟩ } : Motion).presets[11]).valid = true) :=
  ⟨⟨takes_reset, rfl⟩, by decide +kernel, ⟨takes_inOp _, by decide +kernel, by decide +kernel⟩, rfl, by decide +kernel⟩

/-- The part in LIT, its H axis as given, with HOME V queued before a move of H, and what executes. -/
def withQueue (x : Option Executing) (h : Axis) : State :=
  ((energised (inOp .lit) 5000).setAxis .h h).setMotion
    { Motion.reset with queue := [Request.fresh 8 (.home .v), Request.fresh 9 (.moveAxis .h 100)], executing := x }

/-- A queued head is let start by the end of a request in WAIT_RAIL or on its last step, by an axis that comes to rest
after its request's end, by an end-stop, and by LIGHT_ON in STANDBY; and the head then executes. -/
theorem witness_headStarts :
    let ends (s : State) (e : Instr) := after (exec e { s with motion := { s.motion with queue := [] } }) fun u =>
      ((u.motion.executing.isNone, [u.axisH.state, u.axisV.state], u.ctl.op),
        after (exec (.home 8 1) { u with chan := { u.chan with taken := s.chan.taken, entries := s.chan.entries } })
          fun v => v.motion.executing.isSome)
    let queued (s : State) := s.resetAsserted = false ∧ s.locked = true ∧ s.ctl.resetPending = false ∧ s.chan.taken < 16 ∧
      s.motion.queue = { tag := 8, job := .home .v, phase := .queued, clamped := false, stopReq := false } :: [Request.fresh 9 (.moveAxis .h 100)]
    let moving := busyWith (.moveAxis .h 103) .running .active .unused
    let stopping : Axis := { onLeg 9 210 0 with state := .stopping }
    let standing := { withQueue none { idleAt 5000 with state := .off } with ctl := (seen State.reset 700).ctl, zoneCtl := (seen State.reset 700).zoneCtl }
    (∀ p ∈ [(withQueue (some (busyWith (.moveAxis .h 103) .waitRail .owed .unused)) (idleAt 5000), Instr.railWaitTimeout),
        (withQueue (some moving) (onLeg 1 296 976), .profileTick), (withQueue none stopping, .profileTick),
        (withQueue (some moving) (onLeg 3 376 600), .endstopEdge .hh),
        (withQueue (some (busyWith (.home .h) .running .active .unused)) (homing .release 9 400 0), .endstopInactive .hl)],
      queued p.1 ∧ (p.1.motion.executing ≠ none ∨ p.1.axisH.state ≠ .idle) ∧
      ends p.1 p.2 = some ((true, [.idle, .idle], .lit), some true)) ∧
    (queued standing ∧ standing.axisH.state ≠ .idle ∧ ends standing (.lightOn 3) = some ((true, [.idle, .idle], .lit), some true)) ∧
    ∀ u : State, u.Requests (.home 8 1) 8 (.home .v) := by
  refine ⟨by decide +kernel, by decide +kernel, fun u => .inr (.inr (.inr (.inl ⟨rfl, rfl⟩)))⟩

/-- R153: the queued head starts at the end of the executing request, the record behind it waits. -/
theorem test_head_starts :
    after (exec .railWaitTimeout (withQueue (some (busyWith (.moveAxis .h 103) .waitRail .owed .unused)) (idleAt 5000)))
      (fun t => (t.axisV.state, t.motion.queue.map fun r => r.tag, t.motion.history.map fun e => e.result)) =
    some (.seek, [9], [.railTimeout]) := by decide +kernel

theorem witness_moveAxis :
    let s := energised (inOp .lit) 5000
    (s.resetAsserted = false ∧ s.locked = true ∧ s.ctl.resetPending = false ∧ s.chan.taken < 16) ∧ s.ctl.op = .lit ∧ s.motion.queue = [] ∧
      s.motion.executing = none ∧ s.motion.blankHold = false ∧ s.axisH.state = .idle ∧ s.axisV.state = .idle ∧
      (0 : Byte).toNat = (if AxisId.h = .h then 0 else 1) ∧ s.axisH.homed = true ∧ s.axisV.homed = false ∧
      min (5000 : BitVec 16).toNat s.axisH.limit = s.axisH.position ∧ min (5001 : BitVec 16).toNat s.axisH.limit ≠ s.axisH.position ∧
      0 + s.axisH.current ≤ s.ctl.budget ∧ { StateCtl.reset with budget := 39 }.budget < 0 + s.axisH.current ∧
      s.axisH.lowLevel = s.axisH.lowFalling ∧ { s.axisH with lowLevel := true }.lowLevel ≠ s.axisH.lowFalling ∧
      ((0xFF0001 : BitVec 24).toInt = -65535 ∧ ((0 : Nat) : Int) = max 0 (min (5000 + (0xFF0001 : BitVec 24).toInt) 65535) ∧
        true = decide (5000 + (0xFF0001 : BitVec 24).toInt < 0 ∨ 65535 < 5000 + (0xFF0001 : BitVec 24).toInt)) := by decide +kernel

/-- R154: STEP_AXIS forms its target from the position and brings it into its range. -/
theorem test_stepAxis :
    after (exec (.stepAxis 7 0 0xFFEC78) (energised (inOp .lit) 5000)) (fun s => s.axisH.plan) = some (some ⟨0, false, true⟩) ∧
    after (exec (.stepAxis 7 0 0xFFEC77) (energised (inOp .lit) 0)) (fun s => s.motion.history.map fun e => e.result) =
      some [.completedClamped] := by decide +kernel

theorem witness_home :
    let s := energised (inOp .lit) 5000
    s.takes ∧ (s.ctl.op = .lit ∧ s.motion.queue = [] ∧ s.motion.executing = none ∧ s.axisH.state = .idle ∧ s.axisV.state = .idle ∧
      0 + s.axisV.current ≤ s.ctl.budget ∧ { StateCtl.reset with budget := 39 }.budget < 0 + s.axisV.current ∧
      s.axisV.lowLevel = s.axisV.lowFalling ∧ s.axisV.lowEnable = true ∧ { s.axisV with lowLevel := true }.lowLevel ≠ s.axisV.lowFalling) :=
  ⟨⟨rfl, rfl, rfl, by decide +kernel⟩, by decide +kernel⟩

/-- Both axes homed and idle at a position, with preset 11 stored. -/
def recallable (p : Preset) (position : Nat) : State :=
  let s := energised (inOp .lit) position
  (s.setAxis .v { s.axisV with homed := true, position := position }).setMotion { Motion.reset with presets := Motion.reset.presets.set 11 p }

theorem takes_recallable (p : Preset) (position : Nat) : (recallable p position).takes :=
  ⟨rfl, rfl, rfl, (by decide +kernel : (0 : Nat) < 16)⟩

theorem witness_recall :
    (∀ p ∈ [(⟨true, 2000, 3000, some 3, true⟩ : Preset), ⟨true, 5000, 5000, none, false⟩],
      let s := recallable p 5000;
      s.ctl.op = .lit ∧ s.motion.queue = [] ∧ s.motion.executing = none ∧ s.motion.blankHold = false ∧ s.axisH.state = .idle ∧
      s.axisV.state = .idle ∧ (11 : Byte).toNat = (11 : Fin 12).val ∧ s.motion.presets[11] = p ∧ p.valid = true ∧
      s.axisH.homed = true ∧ s.axisV.homed = true ∧ s.light.applied ≤ s.light.safety ∧
      0 + (s.axisH.current + s.axisV.current) ≤ s.ctl.budget ∧ { StateCtl.reset with budget := 79 }.budget < 0 + (s.axisH.current + s.axisV.current) ∧
      { StateCtl.reset with budget := 39 }.budget < 0 + s.axisV.current ∧ s.axisH.lowLevel = s.axisH.lowFalling ∧
      s.axisH.highLevel = s.axisH.highFalling ∧ s.ctl.armed = true) ∧
    (min 2000 38400 ≠ 5000 ∧ min 3000 51200 ≠ 5000 ∧ min 5000 38400 = 5000) ∧
    (recallable ⟨true, 2000, 5000, some 3, true⟩ 5000).light.safety ≤ 4095 ∧
    (let s := recallable ⟨true, 2000, 5000, some 3, true⟩ 5000;
      min 2000 s.axisH.limit ≠ s.axisH.position ∧ min 5000 s.axisV.limit = s.axisV.position ∧
      0 + s.axisH.current ≤ s.ctl.budget ∧ { StateCtl.reset with budget := 39 }.budget < 0 + s.axisH.current ∧
      s.axisH.lowEnable = true ∧ { s.axisH with lowLevel := true }.lowLevel ≠ s.axisH.lowFalling) ∧ (energised (inOp .lit) 5000).axisV.homed = false := by
  decide +kernel

/-- R158: a recall takes the blank hold and starts both axes, or V first where the rail carries V alone. -/
theorem test_recall_starts :
    let run (s : State) := after (exec (.recallPreset 7 11) s) fun t => (t.axisH.state, t.axisV.state, t.light.motionHeld)
    run (recallable ⟨true, 2000, 3000, some 3, true⟩ 5000) = some (.moving, .moving, true) ∧
    run ((recallable ⟨true, 2000, 3000, some 3, false⟩ 5000).setCtl { StateCtl.reset with op := .lit, budget := 79 }) =
      some (.idle, .moving, false) := by decide +kernel

/-- R135, R157, R158: a recall that one axis alone needs starts it alone, and an active end-stop ends it at once. -/
theorem test_recall_one_axis :
    let s := recallable ⟨true, 2000, 5000, some 3, true⟩ 5000
    let low := s.setAxis .h { s.axisH with lowLevel := true }
    after (exec (.recallPreset 7 11) s) (fun t => ([t.axisH.state, t.axisV.state], t.motion.executing.map fun x => x.vWork)) =
      some ([.moving, .idle], some .finished) ∧
    after (exec (.recallPreset 7 11) low) (fun t => (t.axisH.homed, t.motion.history.map fun e => e.result, t.light.motionHeld)) =
      some (false, [.endstop], false) := by decide +kernel

theorem witness_motionEnds :
    let job := Job.recall 0 ⟨true, 1, 2, some 3, true⟩
    let switching := ((inOp .cooldown).setExecuting (some (busyWith job .switching .finished .finished))).setWarp
      { Warp.reset with frames := [frame .waiting 160 0 .receiving], lineTime := 160, previous := some .blanking }
    ((let s := (inOp .lit).setExecuting (some switchingRecall);
        s.resetAsserted = false ∧ s.locked = true ∧ s.ctl.resetPending = false ∧ s.chan.taken < 16 ∧
        s.motion.executing = some switchingRecall ∧ s.ctl.op = .lit ∧ s.ctl.armed = true ∧
        { s.motion with blankHold := true }.blankHold = true ∧ s.light.hold.motionHeld = true)) ∧
    (switching.motion.executing = some (busyWith job .switching .finished .finished) ∧ switching.linked = true ∧
      switching.motion.queue = [] ∧ switching.motion.blankHold = false ∧ switching.ctl.armed = true ∧
      switching.ctl.resetPending = false ∧ switching.ctl.op ≠ .lit ∧ switching.warp.previous = some .blanking ∧
      switching.warp.frames = [frame .waiting 160 0 .receiving]) ∧
    (∀ older ∈ [[], [frame .output 2160 9 .full]], ∀ lineTime ∈ [100, 159, 160],
      let f := frame .waiting 160 0 .short;
      let s := ((inOp .cooldown).setExecuting (some switchingRecall)).setWarp
        { Warp.reset with frames := older ++ [f], lineTime := lineTime, previous := some .blanking };
      s.linked = true ∧ s.warp.frames = older ++ [f] ∧ (∀ g ∈ older, g.output = .output) ∧ f.output = .waiting ∧
        (lineTime = 100 → ∀ g ∈ s.warp.frames, g.output = .waiting → s.warp.lineTime + 1 ≠ g.start + 160) ∧
        (lineTime = 159 → s.warp.lineTime + 1 = f.start + 160) ∧ (lineTime = 160 → s.warp.lineTime = f.start + 160)) ∧
    (let s := (switching.setWarp Warp.reset).setLocked false;
      s.resetAsserted = false ∧ s.motion.executing = some (busyWith job .switching .finished .finished) ∧ s.motion.queue = [] ∧
        s.ctl.armed = true ∧ s.ctl.resetPending = false) ∧
    (inOp .lit).motion.executing = none := by decide +kernel

/-- A silence expiry and a rail wait timeout act out of lock too (R156, R160). -/
theorem test_motion_ends_out_of_lock :
    after (exec .silenceExpiry (((inOp .cooldown).setExecuting (some switchingRecall)).setLocked false))
      (fun t => t.motion.history.map fun e => e.result) = some [.completed] ∧
    after (exec .railWaitTimeout (((working (.moveAxis .h 103) false waitingFor).setExecuting
        (some (busyWith (.moveAxis .h 103) .waitRail .active .unused))).setLocked false))
      (fun t => t.motion.history.map fun e => e.result) = some [.railTimeout] := by decide +kernel

/-- The part with a recall that executes, beside a queued request. -/
def recalling (phase : Phase) (h v : Axis) : State :=
  (withQueue (some (busyWith switchingRecall.req.job phase .active .active)) h).setAxis .v v

/-- STOP_MOTION with an axis that waits, with one that moves beside it, and with a stop that runs; the rail wait timer's
expiry with an axis that waits. Each axis has what a stop request makes of it. -/
theorem witness_stops :
    (∀ h ∈ [waitingFor, idleAt 5000],
      let s := recalling .waitRail h (idleAt 6000);
      s.takes ∧ s.motion.executing = some (busyWith switchingRecall.req.job .waitRail .active .active) ∧ s.motion.queue.length = 2 ∧
      s.axisH.inMotion = false ∧ s.axisV.inMotion = false) ∧
    (∀ v ∈ [onLeg 3 376 600, homing .seek 9 400 0, homing .release 9 400 0],
      let s := recalling .running waitingFor v;
      (busyWith switchingRecall.req.job .running .active .active).work .v = .active ∧ (s.axis .v).inMotion = true ∧ s.axisH.waits = true) ∧
    (let s := working (.moveAxis .h 103) true { onLeg 3 376 600 with state := .stopping };
      s.takes ∧ ∃ x, s.motion.executing = some x ∧ x.req.phase ≠ .switching ∧ x.req.stopReq = true) ∧
    (∀ locked ∈ [true, false],
      let s := ((working (.moveAxis .h 103) false waitingFor).setExecuting
        (some (busyWith (.moveAxis .h 103) .waitRail .active .unused))).setLocked locked;
      s.resetAsserted = false ∧ s.motion.executing = some (busyWith (.moveAxis .h 103) .waitRail .active .unused) ∧ s.motion.queue = [] ∧ (busyWith (.moveAxis .h 103) .waitRail .active .unused).req.phase = .waitRail) ∧
    ∀ x : Axis, ∃ y, x.StopRequestedTo y := by
  refine ⟨fun h hh => ⟨⟨rfl, rfl, rfl, (by decide +kernel : (0 : Nat) < 16)⟩, rfl, rfl, by fin_cases hh <;> rfl, rfl⟩, by decide +kernel,
    ⟨⟨rfl, rfl, rfl, by decide +kernel⟩, _, rfl, by decide +kernel, rfl⟩, by decide +kernel, fun x => ⟨_, x.stopRequest_cases⟩⟩

/-- R162: the executing request ends STOPPED first, its waiting axis at rest and homed; then the queue is flushed; and with a
moving axis the request stays until it rests. -/
theorem test_stop_motion_flushes :
    let results (s : State) := after (exec (.stopMotion 7) s) fun t => t.motion.history.map fun e => (e.tag, e.result)
    results (recalling .waitRail waitingFor (idleAt 6000)) = some [(9, .flushed), (8, .flushed), (5, .stopped)] ∧
    results (recalling .running waitingFor (onLeg 3 376 600)) = some [(9, .flushed), (8, .flushed)] ∧
    after (exec (.stopMotion 7) (recalling .waitRail waitingFor (idleAt 6000))) lastAnswer = some (some ⟨.ok, [3]⟩) ∧
    after (exec (.stopMotion 7) (recalling .running waitingFor (onLeg 3 376 600)))
      (fun t => ([t.axisH.state, t.axisV.state], lastAnswer t)) = some ([.idle, .stopping], some ⟨.ok, [2]⟩) := by decide +kernel

/-- R156: the waiting axis rests at its overshoot point when the rail wait timer expires. -/
theorem test_rail_timeout_rests :
    after (exec .railWaitTimeout (working (.moveAxis .h 103) false waitingFor)) (fun t => t.axisH.state) = some .approach ∧
    after (exec .railWaitTimeout ((working (.moveAxis .h 103) false waitingFor).setExecuting
        (some (busyWith (.moveAxis .h 103) .waitRail .active .unused))))
      (fun t => ([t.axisH.state], t.axisH.position, t.motion.history.map fun e => e.result)) = some ([.idle], 5000, [.railTimeout]) := by
  decide +kernel

theorem witness_tripAborts :
    (∀ x ∈ [onLeg 3 376 600, homing .seek 9 400 0, homing .release 9 400 0, waitingFor],
      let s := working (.moveAxis .h 103) false x;
      s.resetAsserted = false ∧ s.ctl.op ≠ .tripped ∧ s.temps.comparator.state = .released ∧
      (600 : BitVec 12).toNat ≤ s.temps.comparator.threshold ∧ s.motion.executing.isSome = true ∧ s.axisH = x) ∧
    (let s := working (.moveAxis .h 103) false waitingFor;
      s.takes ∧ (0 : Byte).toNat = Channel.c0.code ∧ (4031 : BitVec 16).toNat ≤ 4031 ∧
      ((s.setPinCode .c0 4031).temps.pinCode[0]).toNat ≤ (4031 : BitVec 16).toNat) ∧
    (let s := (working (.moveAxis .h 103) false waitingFor).setSource 9 { source .ok 0 0 with zone := some .air, lastGood := some 960 };
      (s.source 9).zone = some .air ∧ (s.source 9).state = .ok ∧ (s.source 9).lastGood = some 960 ∧ (s.zone .air).trip ≤ 960) ∧
    (∀ x ∈ [{ Fan.reset.enterRunning with retry := 3 }, { Fan.reset.enterKick with retry := 3 }],
      let s := (inOp .lit).setFan .f0 x;
      s.ctl.op = .lit ∧ ((s.fan .f0).state = .running ∨ (s.fan .f0).state = .kick) ∧ (s.fan .f0).retry = 3 ∧
        s.motion.executing = none) := by
  refine ⟨by decide +kernel, ⟨⟨rfl, rfl, rfl, by decide +kernel⟩, by decide +kernel⟩, by decide +kernel, by decide +kernel⟩

/-- R102, R121, R163: a zone at its trip threshold aborts the executing request at the control tick. -/
theorem test_digital_trip_aborts :
    after (exec .controlTick ((working (.moveAxis .h 103) false waitingFor).setSource 9
        { source .ok 0 0 with zone := some .air, lastGood := some 960 }))
      (fun t => (t.ctl.lastTrip, [t.axisH.state], t.motion.history.map fun e => e.result)) =
    some (.zone .air, [.idle], [.abortedTrip]) := by decide +kernel

/-- R106, R107: at the trip each fan goes to full as its state says. -/
theorem test_trip_drives_fans :
    let s := ((inOp .lit).setFan .f1 { Fan.reset with requested := 300 }.enterRunning).setFan .f2 Fan.reset.enterPause
    after (exec (.comparatorTrip ⟨.c0, 600⟩) s) (fun t => [(t.fan .f0).state, (t.fan .f1).state, (t.fan .f2).state]) =
      some [.kick, .running, .kick] ∧
    after (exec (.comparatorTrip ⟨.c0, 600⟩) s) (fun t => FanId.all.map fun f => (t.fan f).applied) = some [1023, 1023, 1023] := by
  decide +kernel

/-- R73, R79: what a declined write byte and a recovery leave on the bus. -/
theorem test_bus_wire :
    after (exec (.sbTransactionEnd (.nackAddr false)) (inFlight true false [])) (fun s => (s.temps.wire, s.busReleased)) =
      some ([.start, .sent 0x10 false, .stop], true) ∧
    after (exec .sbRecoveryDone (inFlight false false [])) (fun s => (s.temps.wire.length, s.busReleased)) = some (10, false) ∧
    after (exec .sbBusError (inFlight true false [])) (fun s => (s.busReleased, s.temps.recoveryDue, s.freeCount)) = some (true, true, 1) := by
  decide +kernel

/-- R74, R77, R79: the places where a wait for SB_CLK can fall while the register index goes out, and the nine of a
recovery's pulses; and what is on the lines at the second such wait of a transaction. -/
theorem test_cut_points :
    let course := driven ((PollEntry.mk true 0x4C 0 8 false).signals .nackData)
    (SbPlace.points .wait course).length = 20 ∧ SbPlace.points .wait (course.take 5) = [0, 3, 5] ∧
    SbPlace.points .high (course.take 5) = [0, 1, 3, 5] ∧
    SbPlace.points .pulse (driven recoverySignals) = [2, 4, 6, 8, 10, 12, 14, 16, 18] ∧
    cutSignals ((PollEntry.mk true 0x4C 0 8 false).signals .nackData) 5 =
      [.start, .part [⟨false, true, some 5⟩, ⟨true, true, some 5⟩, ⟨false, false, some 5⟩, ⟨true, false, some 5⟩]] := by decide +kernel

/-- R163: a trip ends the executing request and the queued ones ABORTED_TRIP and stops the axis. -/
theorem test_trip_aborts :
    let s := working (.moveAxis .h 103) false (onLeg 3 376 600)
    let t := exec (.comparatorTrip ⟨.c0, 600⟩) (s.setMotion { s.motion with queue := [Request.fresh 8 (.home .h)] })
    after t (fun t => (t.axisH.state, t.motion.executing, t.motion.queue)) = some (.stopping, none, []) ∧
    after t (fun t => t.motion.history.map fun e => (e.tag, e.result)) = some [(8, .abortedTrip), (5, .abortedTrip)] := by decide +kernel

theorem witness_presets :
    State.reset.takes ∧ (12 ≤ (12 : Byte).toNat ∧ 2 ≤ (2 : Byte).toNat ∧ 4 ≤ (4 : Byte).toNat ∧ (4 : Byte) ≠ 0xFF ∧ 8 ≤ (8 : Byte).toNat) ∧
    ((11 : Byte).toNat = (11 : Fin 12).val ∧ (3 : Byte).toNat = (3 : Fin 4).val ∧ (7 : Byte).toNat < 8) ∧
    (let s := (energised (inOp .lit) 5000).setAxis .v { (energised (inOp .lit) 5000).axisV with homed := true };
      s.axisH.homed = true ∧ s.axisV.homed = true ∧ s.axisH.state = .idle ∧ s.axisV.state = .idle) ∧ State.reset.axisH.homed = false :=
  ⟨takes_reset, by decide +kernel, by decide +kernel, by decide +kernel, rfl⟩

/-! ### States that meet the invariants -/

/-- A part in LIT with its light ramping, a kicking fan, and zones seen. -/
def shining : State :=
  (((seen (inOp .lit) 700).setFan .f1 { Fan.reset with requested := 300 }.enterKick).setSource 8 { source .ok 2 0 with zone := some .light }).setLight
    { Light.reset with
      safety := 4095, thermal := 4095, target := 4000, governing := .user, user := 4000, applied := 128, pwmBuffer := 128, lightEn := true }

theorem test_invariants_light_zones_fans_sources :
    shining.LightOk ∧ shining.ZonesOk ∧ shining.FansOk ∧ shining.SourcesOk := by
  refine ⟨by decide +kernel, by decide +kernel, by decide +kernel, by decide +kernel⟩

theorem test_invariants_motion_ctl_channel :
    (working (.moveAxis .h 101) false (onLeg 1 296 976)).MotionOk ∧ shining.CtlOk ∧ (sending true true).ChannelOk := by decide +kernel

theorem test_invariants_axes : (working (.moveAxis .h 103) false (onLeg 3 376 600)).AxesOk := by
  refine ⟨?_, ?_⟩ <;> simp [Axis.Ok, Axis.legEndsWithin, working, onLeg, Axis.resetWith, State.reset, State.setAxis, State.setExecuting,
    State.setMotion, inOp, State.setCtl, resetLimitV]

/-- A VALID slot with every point at the window's upper bound. -/
def fullSlot : Slot := { points := shiftedGrid 2559, written := Vector.replicate 170 true, state := .valid, clampCount := 3 }

theorem test_invariants_grids : ((withWarp { Warp.reset with active := some 2 }).setSlot 2 fullSlot).GridsOk := by
  have full : fullSlot.Ok := ⟨by decide +kernel, fun _ => by unfold inWindow; decide +kernel, nofun, nofun⟩
  have empty : Slot.reset.Ok := ⟨by decide +kernel, nofun, fun _ => rfl, fun _ => by decide +kernel⟩
  refine ⟨fun n => ?_, by decide +kernel⟩
  match n with
  | 0 => exact empty
  | 1 => exact empty
  | 2 => exact full
  | 3 => exact empty

theorem test_invariants_frames :
    (withWarp { Warp.reset with
      frames := [frame .output 2160 5 .full, { frame .waiting 1 0 .receiving with start := 165 }], lineTime := 165 }).FramesOk := by
  refine ⟨rfl, by decide +kernel, by decide +kernel, by decide +kernel, by decide +kernel, by decide +kernel, ?_, by decide +kernel,
    by decide +kernel⟩
  intro f hf; fin_cases hf <;> simp [FrameRec.Ok, frame, withWarp, State.setWarp]

theorem witness_everyStep : ∃ t, step State.reset = .next t := ⟨_, rfl⟩

end Sys2Proof.Tests
end

section
/-! PROOF. A command that a packet carries is its owner's work, taken as a packet (R167, R170). -/

namespace Sys2Proof.Machine

/-- A packet command of any operands reaches the control channel as a packet: with its owner, or, where a list in it has
the wrong length, with the answer BAD_LENGTH (R167 to R170). -/
theorem exec_packet {i : Instr} {tag : Byte} {code : Nat} {payload : List Byte} (h : packetOf i = some (tag, code, payload))
    (s : State) : ∃ run : Owner, exec i s = .next (s.takePacket tag run) ∧
      (run = ownerOf i ∨ i.wf = false ∧ run = answer .badLength) := by
  cases i <;> cases h
  case writeGrid slot first count points =>
    by_cases hl : points.length = count.toNat
    · exact ⟨_, rfl, .inl (if_pos hl)⟩
    · exact ⟨_, rfl, .inr ⟨by simp [Instr.wf, hl], if_neg hl⟩⟩
  case writeThermistorTableFirst table values =>
    by_cases hl : values.length = 9
    · exact ⟨_, rfl, .inl (if_pos hl)⟩
    · exact ⟨_, rfl, .inr ⟨by simp [Instr.wf, hl], if_neg hl⟩⟩
  case writeThermistorTableSecond table values =>
    by_cases hl : values.length = 8
    · exact ⟨_, rfl, .inl (if_pos hl)⟩
    · exact ⟨_, rfl, .inr ⟨by simp [Instr.wf, hl], if_neg hl⟩⟩
  all_goals exact ⟨_, rfl, .inl rfl⟩

/-- A well-formed packet command is its owner's work, taken as a packet. -/
theorem exec_packet_of_wf {i : Instr} {tag : Byte} {code : Nat} {payload : List Byte} (hw : i.wf = true)
    (h : packetOf i = some (tag, code, payload)) (s : State) : exec i s = .next (s.takePacket tag (ownerOf i)) := by
  obtain ⟨run, he, rfl | ⟨hf, -⟩⟩ := exec_packet h s
  · exact he
  · exact absurd hw (by simp [hf])

end Sys2Proof.Machine
end

section
/-! PROOF. What the commands that carry no line do to the warp engine and the grid store, said once: a predicate on
those two that a few primitive changes keep is kept by every one of these commands. -/

namespace Sys2Proof.Machine

/-- A predicate on the warp engine and the grid store that the primitive changes to them outside the video path keep. -/
structure PictureClosed (P : State → Prop) : Prop where
  other : ∀ s t, t.warp = s.warp → t.grid = s.grid → P s → P t
  place : ∀ s c, (∀ n, c.slot = some n → (s.slot n).state = .valid) → P s → P (s.setWarp { s.warp with choice := some c })
  unplace : ∀ s, P s → P (s.setWarp { s.warp with choice := none })
  slot : ∀ s n x, ((s.slot n).Ok → x.Ok) → (s.isProtected n = true → (s.slot n).state = .valid → x.state = .valid) →
    P s → P (s.setSlot n x)
  fresh : ∀ s v, s.warp = { Warp.reset with vout := v } → s.grid = Vector.replicate 4 .reset → P s

/-! ### Slots that the grid commands write (R32 to R36) -/

theorem get_storePoints {P : Point → Prop} (pts : Vector Point 170) (k : Nat) (qs : List RawPoint)
    (h : ∀ j : Fin 170, P (pts.get j)) (hq : ∀ q ∈ qs, P (pointOf q)) (j : Fin 170) : P ((storePoints pts k qs).get j) := by
  induction qs generalizing pts k with
  | nil => exact h j
  | cons q qs ih =>
    refine ih _ _ (fun i => ?_) fun r hr => hq r (by simp [hr])
    rw [Vector.get_eq_getElem, Vector.getElem_setIfInBounds]
    split
    · exact hq q (by simp)
    · exact h i

/-- Points within the source coordinate range leave a written slot in its form (R32, R33). -/
theorem Slot.Ok.write {x : Slot} (h : x.Ok) (first : Nat) {points : List RawPoint} (hp : points.all pointInRange = true) :
    (x.write first points).Ok := by
  obtain ⟨hpts, -⟩ := h
  refine ⟨get_storePoints _ _ _ hpts fun q hq => ?_, fun hv => ?_, fun _ => rfl, fun he => ?_⟩
  · have := List.all_eq_true.1 hp q hq
    simp only [pointInRange, within, Bool.and_eq_true, decide_eq_true_eq] at this
    obtain ⟨⟨h1, h2⟩, h3, h4⟩ := this
    exact ⟨h1, h2, h3, h4⟩
  · exact absurd hv (by simp [Slot.write])
  · exact absurd he (by simp [Slot.write])

/-- Every flag of a full slot is set (R34). -/
theorem Slot.written_of_full {x : Slot} (h : x.full = true) (k : Fin 170) : x.written.get k = true := by
  exact List.all_eq_true.1 h _ (Vector.mem_toList_iff.2 (Vector.getElem_mem k.isLt))

/-- A committed point's displacement lies within the window, whatever it was (R34). -/
theorem inWindow_commitPoint (n : Nat) (p : Point) : inWindow n (commitPoint n p) := by
  simp only [inWindow, commitPoint, clampY, clampInt, Config.minDisplacement, Config.maxDisplacement]
  omega

/-- A commit of a slot that is written whole leaves it in its form (R34). -/
theorem Slot.Ok.commit {x : Slot} (h : x.Ok) (hf : x.full = true) : x.commit.Ok := by
  obtain ⟨hpts, -⟩ := h
  have hget : ∀ k : Fin 170, x.commit.points.get k = commitPoint k.val (x.points.get k) := fun k => by
    simp only [Slot.commit, Slot.committedPoints, Vector.get_eq_getElem, Vector.getElem_ofFn]
  have hw : x.commit.written = x.written := by simp only [Slot.commit]
  have hs : x.commit.state = .valid := by simp only [Slot.commit]
  refine ⟨fun k => ?_, fun _ k => ⟨(congrArg (fun w : Vector Bool 170 => w.get k) hw).trans (Slot.written_of_full hf k), ?_⟩, fun hn => absurd hs hn, fun he => by simp [hs] at he⟩
  · obtain ⟨h1, h2, -, -⟩ := hpts k
    obtain ⟨hlo, hhi⟩ := inWindow_commitPoint k.val (x.points.get k)
    have hk := k.isLt
    rw [hget]
    exact ⟨h1, h2, by omega, by omega⟩
  · rw [hget]
    exact inWindow_commitPoint _ _

/-- An erased slot is in its form (R36). -/
theorem Slot.Ok.erase {x : Slot} (h : x.Ok) : x.erase.Ok :=
  ⟨h.1, fun hv => absurd hv (by simp [Slot.erase]), fun _ => rfl, fun _ k => by
    simp only [Slot.erase, Vector.get_eq_getElem, Vector.getElem_replicate]⟩

/-! ### Shared operations that leave both blocks alone -/

theorem State.releaseHold_warp (s : State) : s.releaseHold.warp = s.warp ∧ s.releaseHold.grid = s.grid := by
  unfold State.releaseHold
  split <;> simp

theorem State.takeHold_warp (s : State) (j : Job) : (s.takeHold j).warp = s.warp ∧ (s.takeHold j).grid = s.grid := by
  unfold State.takeHold
  split
  · split <;> simp
  all_goals exact ⟨rfl, rfl⟩

theorem State.judgeDerate_warp (s : State) : s.judgeDerate.warp = s.warp ∧ s.judgeDerate.grid = s.grid := by
  unfold State.judgeDerate
  split
  · simp [State.setCeiling]
  · split <;> simp [State.setCeiling]

/-- The zone controller's part of a control tick touches neither block. -/
theorem State.zoneTick_warp (s : State) : s.zoneTick.warp = s.warp ∧ s.zoneTick.grid = s.grid := by
  simp [State.zoneTick, State.reformThermal, State.judgeDerate_warp, State.formDemands, State.senseZones, State.copyMode]

theorem State.fanTick_warp (s : State) : s.fanTick.warp = s.warp ∧ s.fanTick.grid = s.grid := by
  unfold State.fanTick
  dsimp only
  split <;> simp [State.fullFans, State.formFans, State.handDemands]

theorem State.applyReading_warp (s : State) (n : Fin 12) (r : Reading) :
    (s.applyReading n r).warp = s.warp ∧ (s.applyReading n r).grid = s.grid := by
  simp [State.applyReading]

theorem State.endFlight_warp (s : State) (f : Flight) (r : Reading) (wire : List SbSignal) :
    (s.endFlight f r wire).warp = s.warp ∧ (s.endFlight f r wire).grid = s.grid := by
  unfold State.endFlight
  dsimp only
  split <;> simp [State.applyReading_warp]

theorem State.cutFlight_warp (s : State) (f : Flight) (o : ReadOutcome) (p : SbPlace) :
    (s.cutFlight f o p).warp = s.warp ∧ (s.cutFlight f o p).grid = s.grid := by
  simpa [State.cutFlight, State.drawFree] using State.endFlight_warp (s.setTemps { s.temps with recoveryDue := true }) f _ _

theorem State.clearFan_warp (s : State) (f : FanId) : (s.clearFan f).warp = s.warp ∧ (s.clearFan f).grid = s.grid := by
  unfold State.clearFan
  split <;> simp [State.reformThermal]

/-! ### The owners that work in one block of their own -/

/-- What is left alone by the owner of a command that neither writes a grid nor changes the operating state or the motion
queue: the warp engine, the grid store and, but for the event flags and their enables, the control channel. -/
structure PlainWork (s t : State) : Prop where
  warp : t.warp = s.warp
  grid : t.grid = s.grid
  chan : { t.chan with flags := s.chan.flags, enables := s.chan.enables } = s.chan

theorem PlainWork.refl (s : State) : PlainWork s s := ⟨rfl, rfl, rfl⟩

/-- Whether a command's owner writes no grid, changes no operating state, and leaves the motion queue's requests. -/
def isPlain : Instr → Bool
  | .writeGrid .. | .commitGrid .. | .eraseGrid .. | .selectGrid .. | .lightOn .. | .lightOff .. | .clearTrip ..
  | .setTripComparator .. | .moveAxis .. | .stepAxis .. | .home .. | .recallPreset .. | .stopMotion .. => false
  | _ => true

/-- Such an owner's work is plain, whether it refuses, reads or writes (R170). -/
theorem ownerOf_plain (i : Instr) (s : State) (hi : isPlain i = true) : PlainWork s (ownerOf i s).1 := by
  cases i
  case readGrid | gridInfo | readPoll | readThermistorTable | readZone | readFan | readPreset | readMotion =>
    simp only [ownerOf, readGrid, gridInfo, readPoll, readTable, readZone, readFan, readPreset, readMotion, answer]
    split <;> exact .refl s
  case setLight | setLightRamp | assignSource | writePoll | setThermalLimits | engineReset | erasePreset | ackEvents
      | setEventEnable =>
    simp only [ownerOf, setLight, setLightRamp, assignSource, writePoll, setThermalLimits, engineReset, erasePreset, ackEvents,
      setEventEnable, answer]
    split <;> exact ⟨rfl, rfl, rfl⟩
  case writeChannel | writeZone | writeFan | setInstall =>
    simp only [ownerOf, writeChannel, writeZone, writeFan, setInstall, answer]
    split
    · split <;> exact ⟨rfl, rfl, rfl⟩
    · exact .refl s
  case writeThermistorTableFirst =>
    simp only [ownerOf, writeTableFirst]
    split
    · exact ⟨rfl, rfl, rfl⟩
    · split <;> exact ⟨rfl, rfl, rfl⟩
  case writeThermistorTableSecond =>
    simp only [ownerOf, writeTableSecond, answer]
    repeat' split
    all_goals exact ⟨rfl, rfl, rfl⟩
  case readSource =>
    simp only [ownerOf, readSource, answer]
    split
    · exact .refl s
    · split <;> exact ⟨rfl, rfl, rfl⟩
  case clearFan =>
    simp only [ownerOf, clearFan, State.clearFan, answer]
    split
    · exact .refl s
    · exact iteInduction (motive := PlainWork s) (fun _ => ⟨rfl, rfl, rfl⟩) fun _ => .refl s
  case writeAxis =>
    simp only [ownerOf, writeAxis, answer]
    split
    · split
      · split
        · exact .refl s
        · constructor <;> simp
      · exact .refl s
    · exact .refl s
  case readAxis =>
    simp only [ownerOf, readAxis, answer]
    split
    · exact .refl s
    · split <;> constructor <;> simp
  case storePreset =>
    simp only [ownerOf, storePreset, storeExplicit, storeCurrent, answer]
    split
    · exact ⟨rfl, rfl, rfl⟩
    · split <;> exact ⟨rfl, rfl, rfl⟩
    · exact .refl s
  all_goals first | contradiction | exact .refl s

namespace PictureClosed

variable {P : State → Prop} {s : State}

/-- A change to any other block keeps the predicate. -/
theorem of_eq (c : PictureClosed P) {t : State} (e : t.warp = s.warp ∧ t.grid = s.grid) (h : P s) : P t := c.other s t e.1 e.2 h

/-- The motion queue's primitive actions keep the predicate: a choice that a recall places names a VALID slot (R159). -/
theorem queue (c : PictureClosed P) : QueueClosed P where
  axis s a x h := c.of_eq (by simp) h
  motion s m _ _ h := c.of_eq (by simp) h
  done s h := c.of_eq (by simp) h
  endstop s h := c.of_eq (by simp) h
  homeFail s h := c.of_eq (by simp) h
  unhold s h := c.of_eq s.releaseHold_warp h
  hold s j h := c.of_eq (s.takeHold_warp j) h
  place s n tag hv h := c.place s _ (fun m hm => by cases hm; exact hv) h
  unplace s h := c.unplace s h

/-! ### Changes of operating state, trips and resets -/

theorem leave (c : PictureClosed P) (old : OpState) (h : P s) : P (s.leave old) := by
  cases old with
  | standby => exact h
  | lit => exact c.of_eq s.releaseHold_warp h
  | cooldown => exact h
  | tripped => exact c.other s _ rfl rfl h

theorem arrive (c : PictureClosed P) (new : OpState) (h : P s) : P (s.arrive new) := by
  cases new with
  | standby => exact c.other s _ rfl rfl h
  | lit => exact c.queue.pump h
  | cooldown => exact c.queue.pump h
  | tripped =>
    have full : P s.fullFans := c.other s _ rfl rfl h
    exact c.other s.fullFans.abortMotion _ rfl rfl (c.queue.abortMotion full)

theorem changeState (c : PictureClosed P) (new : OpState) (h : P s) : P (s.changeState new) :=
  c.arrive new (c.leave _ (c.of_eq (by simp [State.writeOp]) h))

theorem trip (c : PictureClosed P) (cause : TripCause) (h : P s) : P (s.trip cause) := by
  unfold State.trip
  split
  · exact h
  · exact c.changeState _ (c.of_eq (by simp) h)

theorem judgeComparator (c : PictureClosed P) (h : P s) : P s.judgeComparator := by
  rcases s.judgeComparator_cases with ⟨-, -, e⟩ | ⟨-, -, e⟩ | ⟨-, e⟩ <;> rw [e]
  · exact c.trip _ (c.other s _ rfl rfl h)
  · exact c.other s _ rfl rfl h
  · exact h

theorem judgeDigital (c : PictureClosed P) (zs : List ZoneId) (h : P s) : P (s.judgeDigital zs) := by
  induction zs generalizing s with
  | nil => exact h
  | cons z zs ih =>
    refine ih ?_
    split
    · exact c.trip _ h
    · exact h

theorem stallExpired (c : PictureClosed P) (f : FanId) (h : P s) : P (s.stallExpired f) := by
  have failed : ∀ t, P t → P (t.failFan f) := fun t ht => by
    have ht' : P (t.setFan f (t.fan f).enterFailed) := c.of_eq (by simp) ht
    unfold State.failFan State.fanLossTrip
    dsimp only
    split
    · split
      · exact c.trip _ ht'
      · exact ht'
    · exact c.of_eq (by simp [State.reformThermal]) ht'
  have stalls : P (s.stall f) := by
    have hr : P (s.raise .fanFault) := c.of_eq (by simp) h
    unfold State.stall
    dsimp only
    split
    · exact c.of_eq (by simp) hr
    · exact failed _ hr
  unfold State.stallExpired
  split <;> first | exact stalls | exact h

theorem applyReset (c : PictureClosed P) : P s.applyReset :=
  c.judgeComparator (c.fresh _ _ rfl rfl)

theorem silenceExpires (c : PictureClosed P) (h : P s) : P s.silenceExpires := by
  have h1 : P ((s.setCtl { s.ctl with silence := Config.silenceLimit, armed := false }).raise .linkLost) :=
    c.of_eq (by simp) h
  exact iteInduction (fun _ => c.applyReset) fun _ => c.queue.endSwitching
    (iteInduction (fun _ => c.changeState _ h1) fun _ => h1)

theorem silenceCounts (c : PictureClosed P) (h : P s) : P s.silenceCounts := by
  unfold State.silenceCounts
  split
  · split
    · exact c.silenceExpires h
    · exact c.of_eq (by simp) h
  · exact h

theorem controlTick (c : PictureClosed P) (h : P s) : P s.controlTick := by
  have fans := c.of_eq (State.fanTick_warp _) (c.judgeDigital ZoneId.all (c.of_eq s.zoneTick_warp h))
  refine c.queue.proceed ?_
  unfold State.judgeRunOn
  split
  · exact c.changeState _ (c.of_eq (by simp [State.sourceTick, State.startScan]) fans)
  · exact c.of_eq (by simp [State.sourceTick, State.startScan]) fans

theorem answerCut (c : PictureClosed P) (h : P s) : P s.answerCut := by
  unfold State.answerCut
  split
  · exact c.applyReset
  · exact c.of_eq (by simp) h

theorem answerSent (c : PictureClosed P) (h : P s) : P s.answerSent := by
  unfold State.answerSent
  split
  · split
    · exact c.applyReset
    · exact c.of_eq (by simp) h
  · exact h

/-! ### The owners of the packet commands -/

theorem writeGrid (c : PictureClosed P) (slot first count : Byte) (points : List RawPoint) (h : P s) :
    P (writeGrid slot first count points s).1 := by
  unfold Machine.writeGrid
  split
  · exact h
  · split
    · exact h
    · split
      · exact h
      · rename_i hr hp
        have hall : points.all pointInRange = true := by
          simp only [writeGridInRange, Bool.not_eq_true', Bool.not_eq_false, Bool.and_eq_true] at hr
          exact hr.2
        exact c.slot s _ _ (fun hx => hx.write _ hall) (fun hq => absurd hq hp) h

theorem commitGrid (c : PictureClosed P) (slot : Byte) (h : P s) : P (commitGrid slot s).1 := by
  unfold Machine.commitGrid
  split
  · exact h
  · dsimp only
    split
    · exact h
    · split
      · exact h
      · rename_i hf
        exact c.slot s _ _ (fun hx => hx.commit (by simpa using hf)) (fun _ _ => rfl) h

theorem eraseGrid (c : PictureClosed P) (slot : Byte) (h : P s) : P (eraseGrid slot s).1 := by
  unfold Machine.eraseGrid
  split
  · exact h
  · split
    · exact h
    · rename_i hp
      exact c.slot s _ _ Slot.Ok.erase (fun hq => absurd hq hp) h

theorem selectGrid (c : PictureClosed P) (slot : Byte) (h : P s) : P (selectGrid slot s).1 := by
  unfold Machine.selectGrid
  split
  · exact h
  · exact c.place s _ (fun n hn => by cases hn) h
  · split
    · rename_i n _ hv
      exact c.place s _ (fun m hm => by cases hm; exact hv) h
    · exact h

theorem enqueue (c : PictureClosed P) (tag : Byte) (j : Job) (h : P s) : P (enqueue tag j s).1 := by
  unfold Machine.enqueue
  split
  · exact h
  · split
    · exact h
    · exact c.queue.pump (c.of_eq (by simp [State.append]) h)

theorem tryLight (c : PictureClosed P) (h : P s) : P (tryLight s).1 := by
  unfold Machine.tryLight
  split
  · exact h
  · exact c.changeState .lit h

theorem setTripComparator (c : PictureClosed P) (channel : Byte) (threshold : BitVec 16) (h : P s) :
    P (setTripComparator channel threshold s).1 := by
  unfold Machine.setTripComparator
  split
  · exact h
  · split
    · exact h
    · split
      · exact c.judgeComparator (c.other s _ rfl rfl h)
      · exact h

/-- What the owner of a packet command does keeps the predicate (R170). -/
theorem ownerOf (c : PictureClosed P) (i : Instr) (h : P s) : P (ownerOf i s).1 := by
  cases i
  case writeGrid => exact c.writeGrid _ _ _ _ h
  case commitGrid => exact c.commitGrid _ h
  case eraseGrid => exact c.eraseGrid _ h
  case selectGrid => exact c.selectGrid _ h
  case lightOn =>
    simp only [Machine.ownerOf, lightOn]
    split
    · exact c.tryLight h
    · exact c.tryLight h
    · exact h
    · exact h
  case lightOff => exact iteInduction (fun _ => c.changeState _ h) fun _ => h
  case clearTrip =>
    simp only [Machine.ownerOf, clearTrip]
    split
    · split
      · exact h
      · exact c.changeState .cooldown h
    · exact h
  case setTripComparator => exact c.setTripComparator _ _ h
  case moveAxis =>
    simp only [Machine.ownerOf, moveAxis]
    split
    · exact h
    · exact c.enqueue _ _ h
  case stepAxis =>
    simp only [Machine.ownerOf, stepAxis]
    split
    · exact h
    · split
      · exact c.enqueue _ _ h
      · exact h
  case home =>
    simp only [Machine.ownerOf, home]
    split
    · exact h
    · exact c.enqueue _ _ h
  case recallPreset =>
    simp only [Machine.ownerOf, recallPreset]
    split
    · exact h
    · split
      · exact h
      · exact c.enqueue _ _ h
  case stopMotion => exact c.queue.stopMotion h
  all_goals exact c.of_eq ⟨(ownerOf_plain _ _ rfl).warp, (ownerOf_plain _ _ rfl).grid⟩ h

end PictureClosed

end Sys2Proof.Machine
end

section
/-! PROOF. Every command keeps a predicate on the warp engine and the grid store that the events of the video path
keep. -/

namespace Sys2Proof.Machine

/-- A predicate on the warp engine and the grid store that the events of the video path keep too. -/
structure VideoClosed (P : State → Prop) : Prop extends PictureClosed P where
  activeLine : ∀ s ps, P s → P (s.activeLine ps)
  blankingLine : ∀ s, P s → P s.blankingLine
  outputLine : ∀ s, P s → P s.outputLine
  outputFrameStart : ∀ s, P s → P s.outputFrameStart
  dark : ∀ s, P s → P (s.setWarp { s.warp with frames := [], vout := .nothing })
  lockLost : ∀ s, P s → P s.lockLost
  lockRegained : ∀ s, P s → P s.lockRegained

theorem State.whenLive_keeps {P : State → Prop} {s : State} {f : State → State} (h : P s) (hf : P s → P (f s)) :
    P (s.whenLive f) := iteInduction (fun _ => hf h) fun _ => h

theorem State.whenLinked_keeps {P : State → Prop} {s : State} {f : State → State} (h : P s) (hf : P s → P (f s)) :
    P (s.whenLinked f) := iteInduction (fun _ => hf h) fun _ => h

/-- An assertion of RESET_N ends every frame and leaves the rest of the warp engine and the grid store (R26, R130). -/
theorem State.assertReset_warp (s : State) :
    s.assertReset.warp = { s.warp with frames := [], vout := .nothing } ∧ s.assertReset.grid = s.grid := by
  simp [State.assertReset, State.abandonBus]

/-! ### The sensor bus and the thermistors leave both blocks alone -/

theorem State.takeConversion_warp (s : State) (ch : Channel) (code : BitVec 12) :
    (s.takeConversion ch code).warp = s.warp ∧ (s.takeConversion ch code).grid = s.grid := by
  unfold State.takeConversion
  split
  · exact ⟨rfl, rfl⟩
  · exact State.applyReading_warp ..

theorem State.advanceScan_warp (s : State) (ch : Channel) :
    (s.advanceScan ch).warp = s.warp ∧ (s.advanceScan ch).grid = s.grid := by
  unfold State.advanceScan
  split <;> exact ⟨rfl, rfl⟩

theorem State.stopBegun_warp (s : State) (e : SbEnd) : (s.stopBegun e).warp = s.warp ∧ (s.stopBegun e).grid = s.grid := by
  unfold State.stopBegun
  split
  · exact ⟨rfl, rfl⟩
  · exact State.endFlight_warp ..

theorem State.cutBegun_warp (s : State) (o : ReadOutcome) (p : SbPlace) :
    (s.cutBegun o p).warp = s.warp ∧ (s.cutBegun o p).grid = s.grid := by
  unfold State.cutBegun
  split
  · exact ⟨rfl, rfl⟩
  · exact State.cutFlight_warp ..

theorem State.addStretch_warp (s : State) (micros : Nat) :
    (s.addStretch micros).warp = s.warp ∧ (s.addStretch micros).grid = s.grid := by
  unfold State.addStretch
  split
  · exact ⟨rfl, rfl⟩
  · dsimp only
    split
    · exact State.cutFlight_warp ..
    · exact ⟨rfl, rfl⟩

theorem State.recoveryDone_warp (s : State) : s.recoveryDone.warp = s.warp ∧ s.recoveryDone.grid = s.grid := by
  unfold State.recoveryDone
  split <;> exact ⟨rfl, rfl⟩

theorem State.recoveryAbandoned_warp (s : State) :
    s.recoveryAbandoned.warp = s.warp ∧ s.recoveryAbandoned.grid = s.grid := by
  unfold State.recoveryAbandoned
  split
  · exact ⟨rfl, rfl⟩
  · exact State.cutFlight_warp ..

namespace VideoClosed

variable {P : State → Prop} {s : State}

theorem takePacket (c : PictureClosed P) (tag : Byte) {run : Owner} (h : P s) (owner : ∀ t, P t → P (run t).1) :
    P (s.takePacket tag run) :=
  State.takePacket_keeps h (fun t _ ht => c.other t _ rfl rfl ht) owner

theorem receive (c : PictureClosed P) (r : PacketRead) (h : P s) : P (s.receive r) := by
  cases r with
  | badCheck tag => exact takePacket c tag h fun _ ht => ht
  | unknownCommand tag => exact takePacket c tag h fun _ ht => ht
  | badLength tag => exact takePacket c tag h fun _ ht => ht
  | command tag i => exact takePacket c tag h fun _ => c.ownerOf i

theorem controlLine (c : VideoClosed P) (ps : List Pixel) (h : P s) : P (s.controlLine ps) :=
  iteInduction (fun _ => receive c.toPictureClosed _ (c.blankingLine _ h)) fun _ => c.blankingLine _ h

theorem profileTick (c : PictureClosed P) (h : P s) : P s.profileTick := by
  have ht : P ((s.setAxis .h s.axisH.tick.1).setAxis .v s.axisV.tick.1) := c.other s _ rfl rfl h
  exact iteInduction (fun _ => ht) fun _ => c.queue.proceed (c.queue.takeEvent _ _ (c.queue.takeEvent _ _ ht))

theorem showLevel (c : PictureClosed P) (level : PinLevel) (h : P s) : P (s.showLevel level) :=
  State.whenLive_keeps (c.other s _ rfl rfl h) c.judgeComparator

/-- A packet command keeps the predicate (R167, R170). -/
theorem packet (c : PictureClosed P) {i : Instr} (hi : (packetOf i).isSome = true) (h : P s) :
    ∃ t, exec i s = .next t ∧ P t := by
  obtain ⟨⟨tag, code, payload⟩, hp⟩ := Option.isSome_iff_exists.1 hi
  obtain ⟨run, he, hr⟩ := exec_packet hp s
  refine ⟨_, he, takePacket c tag h fun t ht => ?_⟩
  rcases hr with rfl | ⟨-, rfl⟩
  · exact c.ownerOf i ht
  · exact ht

/-- Every command completes and keeps the predicate. -/
theorem exec (c : VideoClosed P) (i : Instr) (h : P s) : ∃ t, exec i s = .next t ∧ P t := by
  have k := c.toPictureClosed
  have live : ∀ f : State → State, (P s → P (f s)) → P (s.whenLive f) := fun f hf => State.whenLive_keeps h hf
  have linked : ∀ f : State → State, (P s → P (f s)) → P (s.whenLinked f) := fun f hf => State.whenLinked_keeps h hf
  cases i
  case inputActiveLine ps => exact ⟨_, rfl, linked _ (c.activeLine s ps)⟩
  case controlLine ps => exact ⟨_, rfl, linked _ (c.controlLine ps)⟩
  case plainBlankingLine => exact ⟨_, rfl, linked _ (c.blankingLine s)⟩
  case outputLine => exact ⟨_, rfl, linked _ (c.outputLine s)⟩
  case outputFrameStart => exact ⟨_, rfl, linked _ (c.outputFrameStart s)⟩
  case linkLockLost => exact ⟨_, rfl, iteInduction (fun _ => c.lockLost s h) fun _ => k.other s _ rfl rfl h⟩
  case linkLockRegained => exact ⟨_, rfl, iteInduction (fun _ => c.lockRegained s h) fun _ => k.other s _ rfl rfl h⟩
  case answerSent => exact ⟨_, rfl, linked _ k.answerSent⟩
  case resetNAsserted =>
    exact ⟨_, rfl, live _ fun _ => k.other (s.setWarp _) _ s.assertReset_warp.1 s.assertReset_warp.2 (c.dark s h)⟩
  case resetNReleased => exact ⟨_, rfl, k.applyReset⟩
  case controlTick => exact ⟨_, rfl, live _ k.controlTick⟩
  case thermistorConversionDone ch code =>
    exact ⟨_, rfl, live _ fun _ => k.of_eq (State.advanceScan_warp ..) (k.of_eq (State.takeConversion_warp ..) h)⟩
  case sbTransactionEnd e => exact ⟨_, rfl, live _ (k.of_eq (s.stopBegun_warp e))⟩
  case sbStretchLimit micros => exact ⟨_, rfl, live _ (k.of_eq (s.addStretch_warp micros))⟩
  case sbClockTimeout => exact ⟨_, rfl, live _ (k.of_eq (s.cutBegun_warp _ _))⟩
  case sbBusError => exact ⟨_, rfl, live _ (k.of_eq (s.cutBegun_warp _ _))⟩
  case sbRecoveryDone => exact ⟨_, rfl, live _ (k.of_eq s.recoveryDone_warp)⟩
  case sbRecoveryAbandoned => exact ⟨_, rfl, live _ (k.of_eq s.recoveryAbandoned_warp)⟩
  case comparatorTrip level => exact ⟨_, rfl, showLevel k level h⟩
  case comparatorRelease level => exact ⟨_, rfl, showLevel k level h⟩
  case stallTimerExpiry f => exact ⟨_, rfl, live _ (k.stallExpired f)⟩
  case profileTick => exact ⟨_, rfl, live _ (profileTick k)⟩
  case endstopEdge e =>
    exact ⟨_, rfl, iteInduction (fun _ => k.queue.afterEvent _ _ (k.queue.axis _ _ _ h)) fun _ => k.queue.axis _ _ _ h⟩
  case endstopInactive e =>
    exact ⟨_, rfl, iteInduction (fun _ => k.queue.afterEvent _ _ (k.queue.axis _ _ _ h)) fun _ => k.queue.axis _ _ _ h⟩
  case railWaitTimeout => exact ⟨_, rfl, live _ k.queue.railTimeout⟩
  case silenceTick => exact ⟨_, rfl, live _ k.silenceCounts⟩
  case silenceExpiry => exact ⟨_, rfl, live _ fun _ => iteInduction (fun _ => k.silenceExpires h) fun _ => h⟩
  case tachEdge f e =>
    exact ⟨_, rfl, live _ fun _ => iteInduction
      (fun _ => k.of_eq (by simp [State.selectedEdge, State.updateFan]) h) fun _ => h⟩
  case runOnElapsedLimit | rampTick | lightPwmPeriodBoundary | fanPwmPeriodBoundary | kickTimerExpiry | pauseTimerExpiry
      | retryClearTimerExpiry | tachTimeout => exact ⟨_, rfl, live _ (k.other s _ rfl rfl)⟩
  all_goals exact packet k rfl h

/-- Every step keeps the predicate: a command from the queue, or a millisecond. -/
theorem step (c : VideoClosed P) {t : State} (he : step s = .next t) (h : P s) : P t := by
  unfold Machine.step at he
  split at he
  · cases he
    exact State.whenLive_keeps h (c.other s _ rfl rfl)
  · rename_i i rest _
    obtain ⟨u, hu, hP⟩ := c.exec i (c.other s (s.setPending rest) rfl rfl h)
    rw [hu] at he
    cases he
    exact hP

end VideoClosed

end Sys2Proof.Machine
end

section
/-! PROOF. The grid slots and the pointers in their form. -/

namespace Sys2Proof.Machine

/-! ### The steps of an output frame start and of an output line -/

/-- The WAITING record that is due goes to OUTPUT (R11). -/
def State.enterOutput (s : State) : State := s.setWarp { s.warp with frames := beginOutput s.warp.lineTime s.warp.frames }

theorem State.startOutput_eq (s : State) :
    s.startOutput =
      ((s.endOutput false).enterOutput.latch.setStats (s.endOutput false).enterOutput.latch.stats.beginFrame).endSwitching :=
  rfl

/-- The pixels of an output line go to the output lanes and the statistics unit (R10, R47). -/
def State.sendLine (s : State) (f : FrameRec) : State :=
  (s.setStats (s.stats.accumulate (s.outputPixels f f.nextLine))).setWarp { s.warp with
    vout := .line (s.outputPixels f f.nextLine), frames := s.warp.frames.map FrameRec.produced }

theorem State.produceLine_eq (s : State) (f : FrameRec) :
    s.produceLine f = if f.nextLine + 1 = 2160 then (s.sendLine f).endOutput true else s.sendLine f := rfl

/-! ### The grid slots and their pointers -/

/-- The invariant of the grid store reads the slots and the two pointers alone. -/
theorem State.GridsOk.of_pointers {s t : State} (h : s.GridsOk) (hg : t.grid = s.grid) (ha : t.warp.active = s.warp.active)
    (hc : t.warp.choice = s.warp.choice) : t.GridsOk := by
  obtain ⟨hok, hp⟩ := h
  have hs : ∀ n, t.slot n = s.slot n := fun n => by simp only [State.slot, hg]
  refine ⟨fun n => hs n ▸ hok n, fun n hn => ?_⟩
  rw [hs]
  exact hp n (by simpa only [State.isProtected, State.isActive, State.isPending, ha, hc] using hn)

theorem Slot.reset_ok : Slot.reset.Ok := by
  refine ⟨fun k => ?_, fun h => absurd h (by decide), fun _ => rfl, fun _ k => ?_⟩
  · simp only [Slot.reset, Vector.get_eq_getElem, Vector.getElem_replicate]
    decide
  · simp only [Slot.reset, Vector.get_eq_getElem, Vector.getElem_replicate]

theorem State.isProtected_iff (s : State) (n : Fin 4) :
    s.isProtected n = true ↔ s.warp.active = some n ∨ ∃ c, s.warp.choice = some c ∧ c.slot = some n := by
  simp [State.isProtected, State.isActive, State.isPending, Option.any_eq_true]

theorem gridsOk_pictureClosed : PictureClosed State.GridsOk where
  other s t hw hg h := h.of_pointers hg (by rw [hw]) (by rw [hw])
  place s c hv h := by
    refine ⟨h.1, fun n hn => ?_⟩
    rcases (State.isProtected_iff _ n).1 hn with ha | ⟨d, hd, hs⟩
    · exact h.2 n ((s.isProtected_iff n).2 (.inl ha))
    · cases hd
      exact hv n hs
  unplace s h := by
    refine ⟨h.1, fun n hn => ?_⟩
    rcases (State.isProtected_iff _ n).1 hn with ha | ⟨d, hd, -⟩
    · exact h.2 n ((s.isProtected_iff n).2 (.inl ha))
    · cases hd
  slot s n x hx hv h := by
    refine ⟨fun m => ?_, fun m hm => ?_⟩ <;> by_cases e : m = n
    · subst e
      rw [State.slot_setSlot]
      exact hx (h.1 m)
    · rw [State.slot_setSlot_of_ne _ e]
      exact h.1 m
    · subst e
      rw [State.slot_setSlot]
      exact hv hm (h.2 m hm)
    · rw [State.slot_setSlot_of_ne _ e]
      exact h.2 m hm
  fresh s v hw hg := by
    refine ⟨fun n => ?_, fun n hn => ?_⟩
    · rw [State.slot, hg, Fin.getElem_fin, Vector.getElem_replicate]
      exact Slot.reset_ok
    · simp [State.isProtected_iff, hw, Warp.reset] at hn

/-! ### The pointers in the events of the video path -/

theorem State.endOutput_pointers (s : State) (b : Bool) :
    (s.endOutput b).grid = s.grid ∧ (s.endOutput b).warp.active = s.warp.active ∧
    (s.endOutput b).warp.choice = s.warp.choice := by
  unfold State.endOutput
  split <;> exact ⟨rfl, rfl, rfl⟩

/-- The latch leaves the slot that the choice named as the one the active pointer names (R18). -/
theorem State.GridsOk.latch {s : State} (h : s.GridsOk) : s.latch.GridsOk := by
  unfold State.latch
  split
  · exact h
  · rename_i c hc
    refine ⟨h.1, fun n hn => h.2 n ((s.isProtected_iff n).2 ?_)⟩
    rcases (State.isProtected_iff _ n).1 hn with ha | ⟨d, hd, -⟩
    · exact .inr ⟨c, hc, ha⟩
    · cases hd

theorem State.GridsOk.endOutput {s : State} (h : s.GridsOk) (b : Bool) : (s.endOutput b).GridsOk := by
  obtain ⟨hg, ha, hc⟩ := s.endOutput_pointers b
  exact h.of_pointers hg ha hc

theorem State.GridsOk.outputFrameStart {s : State} (h : s.GridsOk) : s.outputFrameStart.GridsOk := by
  refine iteInduction (fun _ => ?_) fun _ => h
  have h1 : (s.endOutput false).enterOutput.GridsOk := (h.endOutput false).of_pointers rfl rfl rfl
  exact gridsOk_pictureClosed.queue.endSwitching (h1.latch.of_pointers rfl rfl rfl)

theorem State.GridsOk.inputFrameStart {s : State} (h : s.GridsOk) (l : Line) : (s.inputFrameStart l).GridsOk := by
  have h1 : s.startDueFirst.GridsOk :=
    .of_pointers (.outputFrameStart (h.of_pointers (t := s.setLineTime (s.warp.lineTime + 1)) rfl rfl rfl)) rfl rfl rfl
  have h2 : (s.startDueFirst.setWarp (s.startDueFirst.warp.startFrame l)).GridsOk := h1.of_pointers rfl rfl rfl
  refine .of_pointers (s := if s.startDueFirst.warp.overtakes then _ else _) ?_ rfl rfl rfl
  exact iteInduction (fun _ => gridsOk_pictureClosed.queue.endSwitching h2) fun _ => h2

theorem gridsOk_videoClosed : VideoClosed State.GridsOk where
  toPictureClosed := gridsOk_pictureClosed
  activeLine s ps h := by
    refine iteInduction (fun _ => h.inputFrameStart _) fun _ => ?_
    unfold Warp.nextActive
    split <;> exact h.of_pointers rfl rfl rfl
  blankingLine s h := h.of_pointers rfl rfl rfl
  outputLine s h := by
    unfold State.outputLine
    split
    · exact h
    · rename_i f _
      have h1 : (s.sendLine f).GridsOk := h.of_pointers rfl rfl rfl
      refine iteInduction (fun _ => ?_) fun _ => h
      rw [State.produceLine_eq]
      exact iteInduction (fun _ => h1.endOutput true) fun _ => h1
  outputFrameStart s h := h.outputFrameStart
  dark s h := h.of_pointers rfl rfl rfl
  lockLost s h := gridsOk_pictureClosed.answerCut
    (.of_pointers (.endOutput (h.of_pointers (t := s.setLocked false) rfl rfl rfl) false) rfl rfl rfl)
  lockRegained s h := h.of_pointers rfl rfl rfl

end Sys2Proof.Machine
end

section
/-! PROOF. The list of frame records in its one form. -/

namespace Sys2Proof.Machine

@[simp] theorem FrameRec.isWaiting_iff (f : FrameRec) : f.isWaiting = true ↔ f.output = .waiting := decide_eq_true_iff
@[simp] theorem FrameRec.isOutput_iff (f : FrameRec) : f.isOutput = true ↔ f.output = .output := decide_eq_true_iff

theorem FrameRec.isWaiting_eq_not_isOutput (f : FrameRec) : f.isWaiting = !f.isOutput := by
  unfold FrameRec.isWaiting FrameRec.isOutput
  cases f.output <;> rfl

theorem FrameRec.isWaiting_produced (f : FrameRec) : (FrameRec.isWaiting ∘ FrameRec.produced) f = f.isWaiting := by
  simp only [Function.comp_apply, FrameRec.produced]
  split <;> rfl

theorem FrameRec.produced_of_isWaiting (f : FrameRec) (h : f.isWaiting = true) : f.produced = f := by
  rw [FrameRec.isWaiting_eq_not_isOutput, Bool.not_eq_true'] at h
  simp [FrameRec.produced, h]

/-- The list of frame records as R4, R5 and R7 have it at a line time: no record, one, or an older one in output with a newer
one that waits. -/
inductive FramesForm (previous : Option LineKind) (now : Nat) : List FrameRec → Prop
  | none : FramesForm previous now []
  | one (f : FrameRec) : f.Ok now → (previous = some .blanking → f.reception ≠ .receiving) → FramesForm previous now [f]
  | two (g f : FrameRec) : g.output = .output → f.output = .waiting → g.start < f.start → g.Ok now → f.Ok now →
      g.reception ≠ .receiving → (previous = some .blanking → f.reception ≠ .receiving) → FramesForm previous now [g, f]

/-- The line store and the frame records in their form, the records judged at some line time. -/
def State.FramesAt (s : State) (now : Nat) : Prop :=
  storeWf s.warp.store = true ∧ s.warp.writePos < 320 ∧ FramesForm s.warp.previous now s.warp.frames

theorem FramesForm.wellFormed {previous : Option LineKind} {now : Nat} {frames : List FrameRec}
    (h : FramesForm previous now frames) :
    frames.length ≤ 2 ∧ (∀ f ∈ frames.dropLast, f.output = .output) ∧ (frames.filter FrameRec.isOutput).length ≤ 1 ∧
    frames.Pairwise (fun f g => f.start < g.start) ∧ (∀ f ∈ frames, f.Ok now) ∧
    (∀ f ∈ frames.dropLast, f.reception ≠ .receiving) ∧
    (previous = some .blanking → ∀ f ∈ frames, f.reception ≠ .receiving) := by
  cases h with
  | none => simp
  | one f hok hr =>
    refine ⟨by simp, by simp, List.length_filter_le _ _, by simp, by simpa using hok, by simp, by simpa using hr⟩
  | two g f hg hf hlt hgok hfok hgr hr =>
    have hw : f.isOutput = false := by simp [FrameRec.isOutput, hf]
    refine ⟨by simp, by simpa using hg, ?_, by simpa using hlt, ?_, by simpa using hgr, fun hp => ?_⟩
    · rw [List.filter_cons, List.filter_cons, hw]
      split <;> simp
    · exact List.forall_mem_cons.2 ⟨hgok, by simpa using hfok⟩
    · exact List.forall_mem_cons.2 ⟨hgr, by simpa using hr hp⟩

theorem FramesForm.of_wellFormed {previous : Option LineKind} {now : Nat} {frames : List FrameRec}
    (hlen : frames.length ≤ 2) (hout : ∀ f ∈ frames.dropLast, f.output = .output)
    (hone : (frames.filter FrameRec.isOutput).length ≤ 1) (hlt : frames.Pairwise (fun f g => f.start < g.start))
    (hok : ∀ f ∈ frames, f.Ok now) (hrec : ∀ f ∈ frames.dropLast, f.reception ≠ .receiving)
    (hprev : previous = some .blanking → ∀ f ∈ frames, f.reception ≠ .receiving) : FramesForm previous now frames := by
  match frames with
  | [] => exact .none
  | [f] => exact .one f (hok f (by simp)) fun hp => hprev hp f (by simp)
  | [g, f] =>
    have hg : g.output = .output := hout g (by simp)
    have hf : f.output = .waiting := by
      cases hf : f.output with
      | waiting => rfl
      | output => simp [FrameRec.isOutput, hg, hf] at hone
    exact .two g f hg hf (by simpa using hlt) (hok g (by simp)) (hok f (by simp)) (hrec g (by simp))
      fun hp => hprev hp f (by simp)
  | _ :: _ :: _ :: _ =>
    simp only [List.length_cons] at hlen
    omega

/-- The invariant of the frame records is their form at the count of line times. -/
theorem State.framesOk_iff (s : State) : s.FramesOk ↔ s.FramesAt s.warp.lineTime := by
  constructor
  · rintro ⟨hst, hpos, h1, h2, h3, h4, h5, h6, h7⟩
    exact ⟨hst, hpos, .of_wellFormed h1 h2 h3 h4 h5 h6 h7⟩
  · rintro ⟨hst, hpos, hf⟩
    exact ⟨hst, hpos, hf.wellFormed⟩

namespace FramesForm

variable {previous : Option LineKind} {now : Nat} {frames : List FrameRec}

theorem ok_later {f : FrameRec} (h : f.Ok now) : f.Ok (now + 1) := by
  obtain ⟨h1, h2, h3, h4, h5, h6⟩ := h
  exact ⟨h1, h2, h3, h4, h5, Nat.le_succ_of_le h6⟩

/-- A record of the list stays in its form as line times pass. -/
theorem later (h : FramesForm previous now frames) : FramesForm previous (now + 1) frames := by
  cases h with
  | none => exact .none
  | one f hok hr => exact .one f (ok_later hok) hr
  | two g f hg hf hlt hgok hfok hgr hr => exact .two g f hg hf hlt (ok_later hgok) (ok_later hfok) hgr hr

/-- A record's form does not rest on the line before, unless that was a blanking line (R4, R7). -/
theorem after_active (h : FramesForm previous now frames) : FramesForm (some .active) now frames := by
  cases h with
  | none => exact .none
  | one f hok hr => exact .one f hok nofun
  | two g f hg hf hlt hgok hfok hgr hr => exact .two g f hg hf hlt hgok hfok hgr nofun

/-- The end of an output frame leaves at most the record that waits (R12). -/
theorem waiting (h : FramesForm previous now frames) :
    frames.filter FrameRec.isWaiting = [] ∨
    ∃ f, frames.filter FrameRec.isWaiting = [f] ∧ f.output = .waiting ∧ f.Ok now ∧
      (previous = some .blanking → f.reception ≠ .receiving) := by
  cases h with
  | none => exact .inl rfl
  | one f hok hr =>
    by_cases hf : f.output = .waiting
    · exact .inr ⟨f, by simp [hf], hf, hok, hr⟩
    · exact .inl (by simp [hf])
  | two g f hg hf hlt hgok hfok hgr hr => exact .inr ⟨f, by simp [hg, hf], hf, hfok, hr⟩

theorem filter_waiting (h : FramesForm previous now frames) :
    FramesForm previous now (frames.filter FrameRec.isWaiting) := by
  rcases h.waiting with e | ⟨f, e, -, hok, hr⟩ <;> rw [e]
  · exact .none
  · exact .one f hok hr

/-- With no older record in output, the record that is due goes to OUTPUT (R11). -/
theorem beginOutput (h : FramesForm previous now frames) (t : Nat) :
    FramesForm previous now (beginOutput t (frames.filter FrameRec.isWaiting)) := by
  rcases h.waiting with e | ⟨f, e, -, hok, hr⟩ <;> rw [e]
  · exact .none
  · unfold Machine.beginOutput
    split
    · obtain ⟨h1, h2, h3, h4, -, h6⟩ := hok
      exact .one _ ⟨h1, h2, h3, h4, Nat.zero_lt_succ _, h6⟩ hr
    · exact .one f hok hr

/-- One more output line of the frame in output, which is not its last, is counted (R10). -/
theorem produced (h : FramesForm previous now frames) {f : FrameRec} (hf : frames.find? FrameRec.isOutput = some f)
    (hn : f.nextLine + 1 ≠ 2160) : FramesForm previous now (frames.map FrameRec.produced) := by
  have counted : ∀ x : FrameRec, x.Ok now → x.nextLine + 1 ≠ 2160 → ({ x with nextLine := x.nextLine + 1 } : FrameRec).Ok now :=
    fun x ⟨h1, h2, h3, h4, h5, h6⟩ hx => ⟨h1, h2, h3, h4, by simp only; omega, h6⟩
  cases h with
  | none => exact .none
  | one x hok hr =>
    obtain ⟨rfl, ho⟩ : x = f ∧ x.output = .output := by
      by_cases hx : x.output = .output <;> simp_all
    simpa [FrameRec.produced, ho] using .one _ (counted x hok hn) hr
  | two g x hg hx hlt hgok hxok hgr hr =>
    obtain rfl : g = f := by simpa [hg] using hf
    have e : x.isOutput = false := by simp [FrameRec.isOutput, hx]
    simpa [FrameRec.produced, hg, e] using FramesForm.two { g with nextLine := g.nextLine + 1 } x hg hx hlt (counted g hgok hn) hxok hgr hr

/-- After its last line only the record that waits is left (R12). -/
theorem produced_waiting (h : FramesForm previous now frames) :
    FramesForm previous now ((frames.map FrameRec.produced).filter FrameRec.isWaiting) := by
  have e : (frames.map FrameRec.produced).filter FrameRec.isWaiting = frames.filter FrameRec.isWaiting := by
    rw [List.filter_map, List.filter_congr fun x _ => x.isWaiting_produced]
    refine (List.map_congr_left fun x hx => ?_).trans (List.map_id _)
    exact x.produced_of_isWaiting (List.of_mem_filter hx)
  rw [e]
  exact h.filter_waiting

/-- The next row of a RECEIVING record (R5). -/
theorem addRow (h : FramesForm previous now frames) (hr : ∃ f, frames.getLast? = some f ∧ f.reception = .receiving) :
    FramesForm (some .active) now (updateNewest FrameRec.addRow frames) := by
  have more : ∀ x : FrameRec, x.Ok now → x.reception = .receiving → x.addRow.Ok now := by
    rintro x ⟨h1, h2, h3, h4, h5, h6⟩ hx
    have hrows : x.rows ≠ 2160 := fun e => by simp [hx] at h4; omega
    refine ⟨h1, by simp [FrameRec.addRow], ?_, ?_, h5, h6⟩
    · simp only [FrameRec.addRow]
      omega
    · simp only [FrameRec.addRow, Config.frameRows, hx]
      split <;> simp_all
  obtain ⟨f, hf, hfr⟩ := hr
  cases h with
  | none => cases hf
  | one x hok _ =>
    cases hf
    exact .one _ (more x hok hfr) nofun
  | two g x hg hx hlt hgok hxok hgr _ =>
    cases hf
    exact .two g _ hg hx hlt hgok (more x hxok hfr) hgr nofun

/-- A blanking line leaves no record RECEIVING (R7). -/
theorem endRows (h : FramesForm previous now frames) :
    FramesForm (some .blanking) now (updateNewest FrameRec.endRows frames) := by
  have ended : ∀ x : FrameRec, x.Ok now → x.endRows.Ok now ∧ x.endRows.reception ≠ .receiving ∧
      x.endRows.output = x.output ∧ x.endRows.start = x.start := by
    rintro x ⟨h1, h2, h3, h4, h5, h6⟩
    unfold FrameRec.endRows
    split
    · rename_i hx
      exact ⟨⟨h1, h2, h3, by simpa [hx] using h4, h5, h6⟩, by simp, rfl, rfl⟩
    · rename_i hx
      exact ⟨⟨h1, h2, h3, h4, h5, h6⟩, hx, rfl, rfl⟩
  cases h with
  | none => exact .none
  | one x hok _ =>
    obtain ⟨ho, hr, -, -⟩ := ended x hok
    exact .one _ ho fun _ => hr
  | two g x hg hx hlt hgok hxok hgr _ =>
    obtain ⟨ho, hr, hout, hs⟩ := ended x hxok
    exact .two g _ hg (hout.trans hx) (hs ▸ hlt) hgok ho hgr fun _ => hr

/-- An input frame start after a blanking line: a record that waits goes, and the new record follows the one in output
(R4, R13). -/
theorem startFrame (h : FramesForm (some .blanking) now frames) {place : Nat} (hp : place < 320) :
    FramesForm (some .active) (now + 1) (frames.filter FrameRec.isOutput ++ [FrameRec.fresh place (now + 1)]) := by
  have fresh : (FrameRec.fresh place (now + 1)).Ok (now + 1) :=
    ⟨hp, Nat.le_refl 1, by simp [FrameRec.fresh], by simp [FrameRec.fresh], by simp [FrameRec.fresh], Nat.le_refl _⟩
  have alone : FramesForm (some .active) (now + 1) [FrameRec.fresh place (now + 1)] := .one _ fresh nofun
  have behind : ∀ x : FrameRec, x.Ok now → x.output = .output → x.reception ≠ .receiving →
      FramesForm (some .active) (now + 1) [x, FrameRec.fresh place (now + 1)] := fun x hx ho hr =>
    .two x _ ho rfl (Nat.lt_succ_of_le hx.2.2.2.2.2) (ok_later hx) fresh hr nofun
  cases h with
  | none => exact alone
  | one x hok hr =>
    by_cases ho : x.output = .output
    · simpa [ho] using behind x hok ho (hr rfl)
    · simpa [ho] using alone
  | two g x hg hx hlt hgok hxok hgr _ => simpa [hg, hx] using behind g hgok hg hgr

end FramesForm

end Sys2Proof.Machine
end

section
/-! PROOF. O56: every step keeps the frame records, the line store and the grid slots in their form. -/

namespace Sys2Proof.Machine

/-! ### What the events of the video path do to the list of frame records -/

theorem find?_isOutput_eq_none {frames : List FrameRec} (h : frames.find? FrameRec.isOutput = none) :
    frames.filter FrameRec.isWaiting = frames := by
  refine List.filter_eq_self.2 fun f hf => ?_
  rw [FrameRec.isWaiting_eq_not_isOutput, Bool.not_eq_true']
  exact Bool.eq_false_iff.2 (List.find?_eq_none.1 h f hf)

/-- The end of an output frame changes the statistics and leaves the records that wait (R12, R49). -/
theorem State.endOutput_warp (s : State) (b : Bool) :
    (s.endOutput b).warp = { s.warp with frames := s.warp.frames.filter FrameRec.isWaiting } := by
  unfold State.endOutput
  split
  · rename_i h
    rw [find?_isOutput_eq_none h]
  · rfl

/-- The grid latch writes the two pointers of the warp engine alone (R18). -/
theorem State.latch_warp (s : State) :
    s.latch.warp.frames = s.warp.frames ∧ s.latch.warp.lineTime = s.warp.lineTime ∧
    s.latch.warp.previous = s.warp.previous ∧ s.latch.warp.writePos = s.warp.writePos ∧ s.latch.warp.store = s.warp.store := by
  unfold State.latch
  split <;> exact ⟨rfl, rfl, rfl, rfl, rfl⟩

/-- The end of a recall in SWITCHING writes the pending choice of the warp engine alone (R160). -/
theorem State.endSwitching_warp (s : State) :
    s.endSwitching.warp.frames = s.warp.frames ∧ s.endSwitching.warp.lineTime = s.warp.lineTime ∧
    s.endSwitching.warp.previous = s.warp.previous ∧ s.endSwitching.warp.writePos = s.warp.writePos ∧
    s.endSwitching.warp.store = s.warp.store ∧ s.endSwitching.warp.active = s.warp.active := by
  have h := s.endSwitching_frame.warp
  exact ⟨(congrArg Warp.frames h :), (congrArg Warp.lineTime h :), (congrArg Warp.previous h :), (congrArg Warp.writePos h :),
    (congrArg Warp.store h :), (congrArg Warp.active h :)⟩

/-- The form of the line store and the records reads neither the pointers nor the output lanes nor the line count. -/
theorem State.FramesAt.of_eq {s t : State} {now : Nat} (h : s.FramesAt now) (hst : t.warp.store = s.warp.store)
    (hpos : t.warp.writePos = s.warp.writePos) (hprev : t.warp.previous = s.warp.previous)
    (hf : t.warp.frames = s.warp.frames) : t.FramesAt now := by
  simpa only [State.FramesAt, hst, hpos, hprev, hf] using h

/-- Records in their form at the line count of a part whose line count it is are in their form. -/
theorem State.FramesAt.ok {s : State} {now : Nat} (h : s.FramesAt now) (hn : s.warp.lineTime = now) : s.FramesOk :=
  s.framesOk_iff.2 (hn ▸ h)

theorem framesAt_pictureClosed (now : Nat) : PictureClosed fun s => s.FramesAt now where
  other s t hw _ h := h.of_eq (by rw [hw]) (by rw [hw]) (by rw [hw]) (by rw [hw])
  place s c _ h := h.of_eq rfl rfl rfl rfl
  unplace s h := h.of_eq rfl rfl rfl rfl
  slot s n x _ _ h := h.of_eq rfl rfl rfl rfl
  fresh s v hw _ := by
    rw [State.FramesAt, hw]
    exact ⟨rfl, Nat.zero_lt_succ _, .none⟩

theorem State.FramesAt.endOutput {s : State} {now : Nat} (h : s.FramesAt now) (b : Bool) : (s.endOutput b).FramesAt now := by
  obtain ⟨hst, hpos, hf⟩ := h
  rw [State.FramesAt, State.endOutput_warp]
  exact ⟨hst, hpos, hf.filter_waiting⟩

/-- An output frame start keeps the form of the records, whatever the line count (R11). -/
theorem State.FramesAt.outputFrameStart {s : State} {now : Nat} (h : s.FramesAt now) : s.outputFrameStart.FramesAt now := by
  refine iteInduction (motive := fun t : State => t.FramesAt now) (fun _ => ?_) fun _ => h
  have h1 : (s.endOutput false).enterOutput.FramesAt now := by
    obtain ⟨hst, hpos, hf⟩ := h
    simp only [State.FramesAt, State.enterOutput, State.setWarp_fields, State.endOutput_warp]
    exact ⟨hst, hpos, hf.beginOutput _⟩
  have h2 : (s.endOutput false).enterOutput.latch.FramesAt now := by
    obtain ⟨hf, -, hprev, hpos, hst⟩ := (s.endOutput false).enterOutput.latch_warp
    exact h1.of_eq hst hpos hprev hf
  exact (framesAt_pictureClosed now).queue.endSwitching (h2.of_eq rfl rfl rfl rfl)

/-- What an output frame start leaves of the warp engine. -/
theorem State.outputFrameStart_warp (s : State) :
    s.outputFrameStart.warp.lineTime = s.warp.lineTime ∧ s.outputFrameStart.warp.previous = s.warp.previous ∧
    s.outputFrameStart.warp.writePos = s.warp.writePos ∧ s.outputFrameStart.warp.store = s.warp.store := by
  unfold State.outputFrameStart
  split
  · obtain ⟨-, h1, h2, h3, h4, -⟩ := State.endSwitching_warp ((s.endOutput false).enterOutput.latch.setStats
      (s.endOutput false).enterOutput.latch.stats.beginFrame)
    obtain ⟨-, k1, k2, k3, k4⟩ := (s.endOutput false).enterOutput.latch_warp
    have j := s.endOutput_warp false
    exact ⟨h1.trans (k1.trans (congrArg Warp.lineTime j :)), h2.trans (k2.trans (congrArg Warp.previous j :)),
      h3.trans (k3.trans (congrArg Warp.writePos j :)), h4.trans (k4.trans (congrArg Warp.store j :))⟩
  · exact ⟨rfl, rfl, rfl, rfl⟩

theorem State.FramesAt.startDueFirst {s : State} {now : Nat} (h : s.FramesAt now) : s.startDueFirst.FramesAt now := by
  have h1 : (s.setLineTime (s.warp.lineTime + 1)).FramesAt now := h.of_eq rfl rfl rfl rfl
  exact h1.outputFrameStart.of_eq rfl rfl rfl rfl

theorem State.startDueFirst_warp (s : State) :
    s.startDueFirst.warp.lineTime = s.warp.lineTime ∧ s.startDueFirst.warp.previous = s.warp.previous ∧
    s.startDueFirst.warp.writePos = s.warp.writePos ∧ s.startDueFirst.warp.store = s.warp.store := by
  obtain ⟨-, h⟩ := (s.setLineTime (s.warp.lineTime + 1)).outputFrameStart_warp
  exact ⟨rfl, h⟩

/-! ### The frame records and the line store in the events of the video path -/

/-- What a frame start, overtaking or not, leaves of the warp engine after its line (R13). -/
theorem State.beginFrame_warp (s : State) (l : Line) :
    (s.beginFrame l).warp.frames = (s.warp.startFrame l).frames ∧ (s.beginFrame l).warp.lineTime = s.warp.lineTime + 1 ∧
    (s.beginFrame l).warp.previous = some .active ∧ (s.beginFrame l).warp.writePos = (s.warp.writePos + 1) % 320 ∧
    (s.beginFrame l).warp.store = writeLine s.warp.store s.warp.writePos l := by
  have e : (s.beginFrame l).warp = (if s.warp.overtakes then (s.setWarp (s.warp.startFrame l)).endSwitching
      else s.setWarp (s.warp.startFrame l)).warp := rfl
  rw [e]
  split
  · obtain ⟨h1, h2, h3, h4, h5, -⟩ := (s.setWarp (s.warp.startFrame l)).endSwitching_warp
    exact ⟨h1, h2, h3, h4, h5⟩
  · exact ⟨rfl, rfl, rfl, rfl, rfl⟩

/-- An input frame start after a blanking line keeps the form (R4, R13). -/
theorem State.FramesOk.beginFrame {s : State} (h : s.FramesOk) (hp : s.warp.previous = some .blanking) {l : Line}
    (hl : lineWf l = true) : (s.beginFrame l).FramesOk := by
  obtain ⟨hst, hpos, hf⟩ := s.framesOk_iff.1 h
  obtain ⟨hfr, hlt, hprev, hwp, hst'⟩ := s.beginFrame_warp l
  refine (State.framesOk_iff _).2 ⟨?_, ?_, ?_⟩
  · rw [hst']
    exact storeWf_writeLine hst hpos hl
  · rw [hwp]
    omega
  · rw [hfr, hlt, hprev]
    exact (hp ▸ hf).startFrame hpos

theorem State.FramesOk.inputFrameStart {s : State} (h : s.FramesOk) (hp : s.warp.previous = some .blanking) {l : Line}
    (hl : lineWf l = true) : (s.inputFrameStart l).FramesOk := by
  obtain ⟨hlt, hprev, -, -⟩ := s.startDueFirst_warp
  have h1 : s.startDueFirst.FramesOk := (s.framesOk_iff.1 h).startDueFirst.ok hlt
  exact h1.beginFrame (hprev.trans hp) hl

/-- A line that changes the list of records to one in its form keeps the form (R8). -/
theorem State.FramesOk.takeLine {s : State} (h : s.FramesOk) {frames : List FrameRec} {kind : LineKind} {l : Line}
    (hl : lineWf l = true) (hf : FramesForm (some kind) s.warp.lineTime frames) :
    (s.setWarp ({ s.warp with frames := frames }.takeLine kind l)).FramesOk := by
  obtain ⟨hst, hpos, -⟩ := s.framesOk_iff.1 h
  exact (State.framesOk_iff _).2 ⟨storeWf_writeLine hst hpos hl, Nat.mod_lt _ (by decide), hf.later⟩

theorem Warp.receiving_iff (w : Warp) :
    w.receiving = true ↔ ∃ f, w.frames.getLast? = some f ∧ f.reception = .receiving := by
  simp [Warp.receiving, Option.any_eq_true]

theorem framesOk_pictureClosed : PictureClosed State.FramesOk where
  other s t hw hg h := by
    rw [State.framesOk_iff] at h ⊢
    rw [hw]
    exact (framesAt_pictureClosed _).other s t hw hg h
  place s c hv h := by
    rw [State.framesOk_iff] at h ⊢
    exact (framesAt_pictureClosed _).place s c hv h
  unplace s h := by
    rw [State.framesOk_iff] at h ⊢
    exact (framesAt_pictureClosed _).unplace s h
  slot s n x hx hv h := by
    rw [State.framesOk_iff] at h ⊢
    exact (framesAt_pictureClosed _).slot s n x hx hv h
  fresh s v hw hg := (State.framesOk_iff _).2 ((framesAt_pictureClosed _).fresh s v hw hg)

theorem framesOk_videoClosed : VideoClosed State.FramesOk where
  toPictureClosed := framesOk_pictureClosed
  activeLine s ps h := by
    have hf := (s.framesOk_iff.1 h).2.2
    unfold State.activeLine
    split
    · exact h.inputFrameStart ‹_› (lineWf_storedLine ps)
    · unfold Warp.nextActive
      split
      · rename_i hr
        exact h.takeLine (lineWf_storedLine ps) (hf.addRow (s.warp.receiving_iff.1 hr))
      · exact h.takeLine lineWf_nil hf.after_active
  blankingLine s h := h.takeLine lineWf_nil (s.framesOk_iff.1 h).2.2.endRows
  outputLine s h := by
    obtain ⟨hst, hpos, hf⟩ := s.framesOk_iff.1 h
    unfold State.outputLine
    split
    · exact h
    · rename_i f hout
      refine iteInduction (fun _ => ?_) fun _ => h
      rw [State.produceLine_eq]
      split
      · have e := (s.sendLine f).endOutput_warp true
        refine (State.framesOk_iff _).2 ?_
        rw [State.FramesAt, e]
        exact ⟨hst, hpos, hf.produced_waiting⟩
      · rename_i hn
        exact (State.framesOk_iff _).2 ⟨hst, hpos, hf.produced hout hn⟩
  outputFrameStart s h := (s.framesOk_iff.1 h).outputFrameStart.ok s.outputFrameStart_warp.1
  dark s h := by
    obtain ⟨hst, hpos, -⟩ := s.framesOk_iff.1 h
    exact (State.framesOk_iff _).2 ⟨hst, hpos, .none⟩
  lockLost s h := by
    obtain ⟨hst, hpos, -⟩ := s.framesOk_iff.1 h
    have e := (s.setLocked false).endOutput_warp false
    refine framesOk_pictureClosed.answerCut ((State.framesOk_iff _).2 ⟨?_, ?_, .none⟩)
    · exact (congrArg (fun w => storeWf w.store) e).trans hst
    · exact (congrArg Warp.writePos e).trans_lt hpos
  lockRegained s h := by
    obtain ⟨hst, hpos, hf⟩ := s.framesOk_iff.1 h
    exact (State.framesOk_iff _).2 ⟨hst, hpos, hf⟩

/-- Settles O56: both invariants are predicates that the events of the video path keep, and so does every step. -/
theorem everyStepKeepsFramesAndGrids : Obligations.EveryStepKeepsFramesAndGrids := by
  intro s t h
  exact ⟨framesOk_videoClosed.step h, gridsOk_videoClosed.step h⟩

end Sys2Proof.Machine
end

section
/-! PROOF. O9: how long a line stands in the line store. -/

namespace Sys2Proof.Machine

/-- The warp engine after a run of line times. -/
def Warp.takeLines (w : Warp) (lines : List (LineKind × Line)) : Warp := lines.foldl (fun w p => w.takeLine p.1 p.2) w

theorem Warp.takeLines_cons (w : Warp) (p : LineKind × Line) (lines : List (LineKind × Line)) :
    w.takeLines (p :: lines) = (w.takeLine p.1 p.2).takeLines lines := rfl

/-- The write position moves on by one place for each line time, around the ring (R8). -/
theorem Warp.takeLines_writePos (w : Warp) (lines : List (LineKind × Line)) (h : w.writePos < 320) :
    (w.takeLines lines).writePos = (w.writePos + lines.length) % 320 := by
  induction lines generalizing w with
  | nil => exact (Nat.mod_eq_of_lt h).symm
  | cons p lines ih =>
    have hp := (w.takeLine_store p.1 p.2).2
    rw [Warp.takeLines_cons, ih _ (by omega), hp, List.length_cons]
    omega

/-- The places of the line store stay in rising order. -/
theorem Warp.takeLines_rising (w : Warp) (lines : List (LineKind × Line)) (h : w.store.Pairwise fun a b => a.1 < b.1) :
    (w.takeLines lines).store.Pairwise fun a b => a.1 < b.1 := by
  induction lines generalizing w with
  | nil => exact h
  | cons p lines ih => exact ih _ (writeLine_rising _ _ _ h)

/-- A place that the write position does not pass keeps its line (R8). -/
theorem Warp.readLine_takeLines (w : Warp) (lines : List (LineKind × Line)) (place : Nat) (h : w.writePos < 320)
    (hp : ∀ i < lines.length, (w.writePos + i) % 320 ≠ place) :
    readLine (w.takeLines lines).store place = readLine w.store place := by
  induction lines generalizing w with
  | nil => rfl
  | cons p lines ih =>
    have hpos := (w.takeLine_store p.1 p.2).2
    have here : place ≠ w.writePos := fun e => hp 0 (by simp) (by omega)
    rw [Warp.takeLines_cons, ih _ (by omega), (w.takeLine_store p.1 p.2).1, readLine_writeLine_other _ _ here]
    intro i hi
    have := hp (i + 1) (by simpa using hi)
    omega

/-- Settles O9: the write position comes back to the line's place with the 320th further line time. -/
theorem lineSurvivesThreeHundredNineteenLineTimes : Obligations.LineSurvivesThreeHundredNineteenLineTimes := by
  intro w kind l last further hst hpos
  have rising : w.store.Pairwise fun a b => a.1 < b.1 := by
    simp only [storeWf, Bool.and_eq_true, decide_eq_true_eq] at hst
    exact hst.1
  obtain ⟨hstore, hnext⟩ := w.takeLine_store kind l
  refine ⟨fun hn => ?_, fun hn => ?_⟩
  · refine ((w.takeLine kind l).readLine_takeLines further w.writePos (by omega) fun i hi => by omega).trans ?_
    rw [hstore, readLine_writeLine_self _ _ _ rising]
  · have back := (w.takeLine kind l).takeLines_writePos further (by omega)
    have e : (further.foldl (fun w p => w.takeLine p.1 p.2) (w.takeLine kind l)).writePos = w.writePos :=
      back.trans (by omega)
    rw [(Warp.takeLine_store _ _ _).1, e]
    exact readLine_writeLine_self _ _ _ ((w.takeLine kind l).takeLines_rising further (writeLine_rising _ _ _ rising))

end Sys2Proof.Machine
end

section
/-! PROOF. O7, O8, O10, O11: input lines, output frame starts and output lines. -/

namespace Sys2Proof.Machine

/-! ### The events of a linked part -/

section

variable {s : State} (h : s.linked = true)
include h

theorem State.whenLinked_of_linked (f : State → State) : s.whenLinked f = f s := if_pos h

theorem exec_inputActiveLine (ps : List Pixel) : exec (.inputActiveLine ps) s = .next (s.activeLine ps) :=
  congrArg _ (State.whenLinked_of_linked h _)

theorem exec_plainBlankingLine : exec .plainBlankingLine s = .next s.blankingLine :=
  congrArg _ (State.whenLinked_of_linked h _)

theorem exec_outputLine : exec .outputLine s = .next s.outputLine := congrArg _ (State.whenLinked_of_linked h _)

theorem exec_outputFrameStart : exec .outputFrameStart s = .next s.outputFrameStart :=
  congrArg _ (State.whenLinked_of_linked h _)

end

/-! ### Lines in the line store, rows in the newest record -/

/-- What a line reads of the store after a line time: its own line at the write position, the old lines elsewhere (R8). -/
theorem readPixel_writeLine {st : LineStore} (h : storeWf st = true) (k : Nat) (l : Line) (place column : Nat) :
    readPixel (writeLine st k l) place column = if place = k then l.getD column black else readPixel st place column := by
  simp only [storeWf, Bool.and_eq_true, decide_eq_true_eq] at h
  unfold readPixel
  split
  · rename_i e
    rw [e, readLine_writeLine_self _ _ _ h.1]
  · rename_i e
    rw [readLine_writeLine_other _ _ e]

theorem readPixel_writeLine_stored {st : LineStore} (h : storeWf st = true) (k : Nat) (ps : List Pixel) {place column : Nat}
    (hc : column < 3840) : readPixel (writeLine st k (storedLine ps)) place column =
      if place = k then ps.getD column black else readPixel st place column := by
  rw [readPixel_writeLine h, getD_storedLine ps hc]

theorem updateNewest_append (g : FrameRec → FrameRec) (older : List FrameRec) (f : FrameRec) :
    updateNewest g (older ++ [f]) = older ++ [g f] := by
  induction older with
  | nil => rfl
  | cons x xs ih => cases xs <;> simp_all [updateNewest]

theorem updateNewest_of_fixed {g : FrameRec → FrameRec} {frames : List FrameRec} (h : ∀ f ∈ frames.getLast?, g f = f) :
    updateNewest g frames = frames := by
  rcases frames.eq_nil_or_concat with rfl | ⟨older, f, rfl⟩
  · rfl
  · rw [List.concat_eq_append] at h ⊢
    rw [updateNewest_append, h f (by simp)]

/-- Settles O8: the line's record is the newest, and the line's place the write position. -/
theorem otherInputLinesExtendOrEndTheFrame : Obligations.OtherInputLinesExtendOrEndTheFrame := by
  refine ⟨fun s ps hl hst _ hprev => ?_, fun s hl hst _ => ?_⟩
  · have e : exec (.inputActiveLine ps) s = .next (s.setWarp (s.warp.nextActive (storedLine ps))) := by
      rw [exec_inputActiveLine hl, State.activeLine, if_neg hprev]
    refine ⟨_, e, ?_, fun older f hf hr => ?_, fun hr => ?_⟩
    · unfold Warp.nextActive
      split <;> rfl
    · have hrec : s.warp.receiving = true := s.warp.receiving_iff.2 ⟨f, by simp [hf], hr⟩
      rw [Warp.nextActive, if_pos hrec, hf, updateNewest_append]
      exact ⟨by simp [Warp.takeLine, FrameRec.addRow, Config.frameRows, hr],
        fun place column _ hc => readPixel_writeLine_stored hst _ _ hc⟩
    · have hrec : ¬ s.warp.receiving = true := fun h => by
        obtain ⟨f, hf, hfr⟩ := s.warp.receiving_iff.1 h
        exact hr f hf hfr
      rw [Warp.nextActive, if_neg hrec]
      exact ⟨rfl, fun place column _ _ => readPixel_writeLine hst _ _ _ _⟩
  · refine ⟨_, exec_plainBlankingLine hl, rfl, fun place column _ _ => readPixel_writeLine hst _ _ _ _, fun older f hf hr => ?_, fun hr => ?_⟩
    · show updateNewest FrameRec.endRows s.warp.frames = _
      rw [hf, updateNewest_append, FrameRec.endRows, if_pos hr]
    · exact updateNewest_of_fixed fun f hf => if_neg (hr f hf)

/-! ### Frame starts -/

/-- The end of a recall in SWITCHING does nothing where none is (R160). -/
theorem State.endSwitching_of_not {s : State} (h : ∀ x ∈ s.motion.executing, x.req.phase ≠ .switching) : s.endSwitching = s := by
  unfold State.endSwitching
  split
  · rfl
  · exact if_neg (h _ ‹_›)

/-- A frame start, where the recall that it would end is none in SWITCHING: the line stored, the counts afresh (R4, R13,
R124, R171). -/
theorem State.beginFrame_eq (s : State) (l : Line)
    (h : ∀ x ∈ s.motion.executing, x.req.phase = .switching → ∀ f ∈ s.warp.frames, f.output = .output) :
    s.beginFrame l = (s.setWarp (s.warp.startFrame l)).formAnswer.rearm := by
  have e : (if s.warp.overtakes then (s.setWarp (s.warp.startFrame l)).endSwitching else s.setWarp (s.warp.startFrame l))
      = s.setWarp (s.warp.startFrame l) := by
    split
    · rename_i ho
      obtain ⟨f, hf, hw⟩ := s.warp.overtakes_iff.1 ho
      refine State.endSwitching_of_not fun x hx hs => ?_
      simp [h x hx hs f hf] at hw
    · rfl
  exact congrArg (fun t : State => t.formAnswer.rearm) e

/-- The end of an output frame writes the statistics and the list of records alone (R12, R49). -/
theorem State.endOutput_eq (s : State) (b : Bool) :
    s.endOutput b = (s.setStats (s.endOutput b).stats).setWarp
      { s.warp with frames := s.warp.frames.filter FrameRec.isWaiting } := by
  unfold State.endOutput
  split
  · rename_i h
    rw [find?_isOutput_eq_none h]
    rfl
  · rfl

/-- The grid latch writes the two pointers and the flags alone (R18). -/
theorem State.latch_eq (s : State) : s.latch = { s with
    warp := { s.warp with
      active := match s.warp.choice with
        | none => s.warp.active
        | some c => c.slot
      choice := none }
    chan := { s.chan with flags := if s.warp.choice.isSome then s.chan.flags ||| 0x002 else s.chan.flags } } := by
  unfold State.latch
  split
  · rename_i h
    simp only [h, Option.isSome_none, Bool.false_eq_true, if_false]
    rw [← h]
  · rename_i h
    simp [h]
    rfl

theorem State.startDueFirst_linked (s : State) : s.startDueFirst.linked = s.linked := by
  have key : ∀ t : State, t.outputFrameStart.linked = t.linked := fun t => by
    unfold State.outputFrameStart
    split
    · have h := State.endSwitching_frame ((t.endOutput false).enterOutput.latch.setStats
        (t.endOutput false).enterOutput.latch.stats.beginFrame)
      rw [State.startOutput_eq, State.linked, State.live, h.resetAsserted, h.locked, State.latch_eq, State.enterOutput,
        State.endOutput_eq]
      rfl
    · rfl
  exact key (s.setLineTime (s.warp.lineTime + 1))

section

variable {s : State} {older : List FrameRec} {f : FrameRec} (hf : s.warp.frames = older ++ [f])
  (hout : ∀ g ∈ older, g.output = .output) (hw : f.output = .waiting)
include hf hout hw

/-- Of an older record in output and a newer one that waits, the newer one waits. -/
theorem filter_isWaiting_newest : s.warp.frames.filter FrameRec.isWaiting = [f] := by
  have h : older.filter FrameRec.isWaiting = [] := List.filter_eq_nil_iff.2 fun g hg => by simp [hout g hg]
  simp [hf, h, hw]

variable (hdue : s.warp.lineTime = f.start + 160)
include hdue

omit hout in
theorem Warp.frameStartDue_newest : s.warp.frameStartDue = true :=
  s.warp.frameStartDue_iff.2 ⟨f, by simp [hf], hw, hdue⟩

/-- The record that waits goes to OUTPUT when it is due, and the older one goes (R11, R12). -/
theorem State.enterOutput_frames :
    (s.endOutput false).enterOutput.warp.frames = [{ f with output := .output, nextLine := 0 }] := by
  have e : (s.endOutput false).enterOutput.warp.frames = beginOutput s.warp.lineTime (s.warp.frames.filter FrameRec.isWaiting) := by
    simp only [State.enterOutput, State.setWarp_fields, State.endOutput_warp]
  rw [e, filter_isWaiting_newest hf hout hw]
  exact Warp.beginOutput_of_due [] f _ nofun hw hdue

theorem State.outputFrameStart_frames :
    s.outputFrameStart.warp.frames = [{ f with output := .output, nextLine := 0 }] := by
  rw [State.outputFrameStart, if_pos (Warp.frameStartDue_newest hf hw hdue), State.startOutput_eq]
  exact (State.endSwitching_warp _).1.trans ((State.latch_warp _).1.trans (State.enterOutput_frames hf hout hw hdue))

end

/-- An output frame that ends cut short leaves a record that is not valid, and the feed-forward as it is (R49, R50). -/
theorem Stats.endFrame_cut (x : Stats) (full : Bool) :
    x.endFrame false full = { x with
      apl := x.lumaSum / 8294400, coverage := x.covered, valid := false, recordNumber := x.current, accumulating := false } := rfl

/-- The end, cut short, of the output frame that an older record may have (R12, R49). -/
theorem State.endOutput_stats (s : State) :
    ((∀ f ∈ s.warp.frames, f.output = .waiting) → (s.endOutput false).stats = s.stats) ∧
    ((∃ f ∈ s.warp.frames, f.output = .output) → (s.endOutput false).stats = { s.stats with
      apl := s.stats.lumaSum / 8294400, coverage := s.stats.covered, valid := false, recordNumber := s.stats.current
      accumulating := false }) := by
  unfold State.endOutput
  split
  · rename_i h
    refine ⟨fun _ => rfl, fun ⟨f, hf, ho⟩ => ?_⟩
    exact absurd (f.isOutput_iff.2 ho) (List.find?_eq_none.1 h f hf)
  · rename_i f h
    refine ⟨fun hw => ?_, fun _ => Stats.endFrame_cut _ _⟩
    have ho := f.isOutput_iff.1 (List.find?_some h)
    rw [hw f (List.mem_of_find?_eq_some h)] at ho
    cases ho

/-- Settles O7: the frame start itself, and the output frame start that falls in its line time. -/
theorem activeLineAfterBlankingStartsFrame : Obligations.ActiveLineAfterBlankingStartsFrame := by
  refine ⟨fun s ps hl hst _ hprev hdue hsw => ?_, fun s u ps older f hl hprev hf hout hw hdue hu => ?_⟩
  · have e : exec (.inputActiveLine ps) s =
        .next ((s.setWarp (s.warp.startFrame (storedLine ps))).formAnswer.rearm) := by
      rw [exec_inputActiveLine hl, State.activeLine, if_pos hprev, State.inputFrameStart, s.startDueFirst_of_not_due hdue,
        State.beginFrame_eq s _ hsw]
    obtain ⟨c, hc, hflags, hen, htaken, hign, hent, hcount⟩ := (s.setWarp (s.warp.startFrame (storedLine ps))).formAnswer_frame
    rw [hc] at e
    exact ⟨_, e, rfl, fun place column _ hcol => readPixel_writeLine_stored hst _ _ hcol, htaken, hign, hent, hcount, hflags, hen,
      rfl⟩
  · have hlink : (s.setLineTime (s.warp.lineTime + 1)).linked = true := hl
    have hs : exec .outputFrameStart (s.setLineTime (s.warp.lineTime + 1)) = .next u := hu
    rw [exec_outputFrameStart hlink] at hs
    cases hs
    have hframes := State.outputFrameStart_frames (s := s.setLineTime (s.warp.lineTime + 1)) hf hout hw hdue
    refine ⟨hframes, ?_⟩
    have hl' : s.startDueFirst.linked = true := s.startDueFirst_linked.trans hl
    have none_due : s.startDueFirst.startDueFirst = s.startDueFirst := by
      refine s.startDueFirst.startDueFirst_of_not_due fun g hg hgw => ?_
      have hg' : g ∈ [({ f with output := .output, nextLine := 0 } : FrameRec)] := hframes ▸ hg
      rw [List.mem_singleton.1 hg'] at hgw
      cases hgw
    have e : exec (.inputActiveLine ps) s = exec (.inputActiveLine ps) s.startDueFirst := by
      rw [exec_inputActiveLine hl, exec_inputActiveLine hl', State.activeLine, State.activeLine, if_pos hprev,
        if_pos (s.startDueFirst_warp.2.1.trans hprev), State.inputFrameStart, State.inputFrameStart, none_due]
    exact e


/-- Settles O10: the older frame's end, the record's entry to OUTPUT, the latch and the statistics, step by step. -/
theorem outputFrameStartLatchesGrid : Obligations.OutputFrameStartLatchesGrid := by
  intro s older f hl hf hout hw hdue hsw
  have hstats : (s.endOutput false).stats = if older = [] then s.stats else { s.stats with
      apl := s.stats.lumaSum / 8294400, coverage := s.stats.covered, valid := false, recordNumber := s.stats.current
      accumulating := false } := by
    obtain ⟨waits, cut⟩ := s.endOutput_stats
    split
    · rename_i h
      exact waits (by simp [hf, h, hw])
    · rename_i h
      obtain ⟨g, hg⟩ := List.exists_mem_of_ne_nil _ h
      exact cut ⟨g, by simp [hf, hg], hout g hg⟩
  have hentered : (s.endOutput false).enterOutput = (s.setStats (s.endOutput false).stats).setWarp
      { s.warp with frames := [{ f with output := .output, nextLine := 0 }] } := by
    have h := State.enterOutput_frames hf hout hw hdue
    rw [State.enterOutput] at h ⊢
    rw [← h, s.endOutput_eq]
    rfl
  have hmotion : ∀ x ∈ ((s.endOutput false).enterOutput.latch.setStats
      (s.endOutput false).enterOutput.latch.stats.beginFrame).motion.executing, x.req.phase ≠ .switching := by
    rw [hentered, State.latch_eq]
    exact hsw
  rw [exec_outputFrameStart hl, State.outputFrameStart, if_pos (Warp.frameStartDue_newest hf hw hdue), State.startOutput_eq,
    State.endSwitching_of_not hmotion, hentered, State.latch_eq, hstats]
  by_cases h : older = []
  · simp [h]
    rfl
  · simp [h]
    rfl

end Sys2Proof.Machine
end

section
/-! PROOF. O11: output lines. O15: the lock of the link and the return lane. -/

namespace Sys2Proof.Machine

section

variable {s : State} {f : FrameRec} {rest : List FrameRec} (hf : s.warp.frames = f :: rest) (ho : f.output = .output)
include hf ho

theorem Warp.inOutput_oldest : s.warp.inOutput = some f := by
  rw [Warp.inOutput, hf, List.find?_cons_of_pos (by simp [ho])]

variable (hrest : ∀ g ∈ rest, g.output = .waiting)
include hrest

/-- Beside the frame in output, an output frame start is due for a record that waits (R11). -/
theorem Warp.frameStartDue_behind : s.warp.frameStartDue = true ↔ ∃ g ∈ rest, s.warp.lineTime = g.start + 160 := by
  rw [Warp.frameStartDue_iff, hf]
  constructor
  · rintro ⟨g, hg, hw, hl⟩
    rcases List.mem_cons.1 hg with rfl | hg
    · simp [ho] at hw
    · exact ⟨g, hg, hl⟩
  · rintro ⟨g, hg, hl⟩
    exact ⟨g, by simp [hg], hrest g hg, hl⟩

/-- A line counts for the frame in output alone, and the records that wait stay when that frame ends. -/
theorem produced_behind : s.warp.frames.map FrameRec.produced = { f with nextLine := f.nextLine + 1 } :: rest ∧
    (s.warp.frames.map FrameRec.produced).filter FrameRec.isWaiting = rest := by
  have e : rest.map FrameRec.produced = rest :=
    (List.map_congr_left fun g hg => g.produced_of_isWaiting (g.isWaiting_iff.2 (hrest g hg))).trans (List.map_id _)
  have hp : s.warp.frames.map FrameRec.produced = { f with nextLine := f.nextLine + 1 } :: rest := by
    rw [hf, List.map_cons, e, FrameRec.produced, if_pos (f.isOutput_iff.2 ho)]
  refine ⟨hp, ?_⟩
  rw [hp, List.filter_cons_of_neg (by simp [ho])]
  exact List.filter_eq_self.2 fun g hg => g.isWaiting_iff.2 (hrest g hg)

end

/-- Settles O11: the line of the frame in output, sent, measured and counted. -/
theorem outputLineIsMappedAndMeasured : Obligations.OutputLineIsMappedAndMeasured := by
  intro s f rest ps hl hf ho hrest htime
  have due := Warp.frameStartDue_behind hf ho hrest
  have hout : s.outputLine = if s.warp.lineDue f then s.produceLine f else s := by
    simp only [State.outputLine, Warp.inOutput_oldest hf ho]
  rw [exec_outputLine hl, hout]
  refine ⟨fun h => ?_, fun h hacc hps => ?_⟩
  · rw [if_neg]
    simp [Warp.lineDue, due.2 h]
  · have hdue : s.warp.lineDue f = true := by
      have hno : s.warp.frameStartDue = false := Bool.eq_false_iff.2 fun hd => by
        obtain ⟨g, hg, hgl⟩ := due.1 hd
        exact h g hg hgl
      simp [Warp.lineDue, hno, htime, Config.latency]
    obtain ⟨hcount, hgone⟩ := produced_behind hf ho hrest
    have hpixels : s.outputPixels f f.nextLine = ps := hps.symm
    have hsend : s.sendLine f = { s with
        warp := { s.warp with vout := .line ps, frames := { f with nextLine := f.nextLine + 1 } :: rest }
        stats := { s.stats with
          lumaSum := s.stats.lumaSum + (ps.map fun q => luma q.pixel).sum
          covered := s.stats.covered + (ps.filter fun q => !q.border).length } } := by
      rw [State.sendLine, hpixels, hcount, Stats.accumulate, if_pos hacc]
      rfl
    rw [if_pos hdue, State.produceLine_eq]
    refine ⟨fun hn => ?_, fun hn => ⟨_, ?_, rfl⟩⟩
    · rw [if_neg (by omega), hsend]
      rfl
    · have hlast : (s.sendLine f).warp.inOutput = some { f with nextLine := f.nextLine + 1 } := by
        refine Warp.inOutput_oldest (rest := rest) ?_ ho
        rw [hsend]
      rw [if_pos (by omega), State.endOutput, hlast, hsend]
      rw [hcount] at hgone
      simp only [State.setWarp, State.setStats, Stats.endFrame, Bool.true_and, decide_eq_true_eq, hgone]
      rfl

/-! ### The lock of the link and the return lane -/

/-- What the loss of lock does before the answer on the lane is cut off (R12, R14). -/
def State.darken (s : State) : State :=
  ((s.setLocked false).setStats (s.endOutput false).stats).setWarp { s.warp with frames := [], previous := none, vout := .nothing }

theorem State.lockLost_eq (s : State) : s.lockLost = s.darken.answerCut := by
  have e : (s.setLocked false).endOutput false = ((s.setLocked false).setStats (s.endOutput false).stats).setWarp
      { s.warp with frames := s.warp.frames.filter FrameRec.isWaiting } := by
    rw [(s.setLocked false).endOutput_eq]
    congr 2
    simp only [State.endOutput, State.setLocked_fields]
    split <;> rfl
  rw [State.lockLost, e]
  rfl

/-- The blocks' reset values do not rest on what the video path and the statistics were (R129, R130). -/
theorem State.applyReset_darken (s : State) : s.darken.applyReset = (s.setLocked false).applyReset := by
  simp only [State.applyReset, State.abandonBus, State.drawFreeIf]
  change State.judgeComparator (State.resetBlocks (if s.temps.flight.isSome = true then _ else _)) =
    State.judgeComparator (State.resetBlocks (if s.temps.flight.isSome = true then _ else _))
  split <;> rfl

theorem State.laneHoldsReset_iff (s : State) :
    s.laneHoldsReset = true ↔ s.ctl.resetPending = true ∧ ∃ a, s.chan.lane = some a ∧ a.holdsReset = true := by
  simp [State.laneHoldsReset, Option.any_eq_true]

theorem State.setResetAsserted_false {s : State} (h : s.resetAsserted = false) : s.setResetAsserted false = s := by
  rw [← h]
  rfl

theorem State.linked_iff (s : State) : s.linked = true ↔ s.resetAsserted = false ∧ s.locked = true := by
  simp [State.linked, State.live]

theorem exec_linkLockLost {s : State} (h : s.linked = true) : exec .linkLockLost s = .next s.darken.answerCut := by
  rw [← State.lockLost_eq]
  exact congrArg _ (if_pos h)

/-- Settles O15: the loss of lock with and without the entry of a pending reset on the lane, the regain, and the answer's
end. -/
theorem linkLockAndReturnLane : Obligations.LinkLockAndReturnLane := by
  refine ⟨fun s hr => ⟨fun hlock hno => ?_, fun hlock => ?_⟩, fun s a hl ha => ⟨fun hno => ?_, fun hp hh => ?_⟩⟩
  · obtain ⟨waits, cut⟩ := s.endOutput_stats
    refine ⟨(s.endOutput false).stats, ?_, waits, cut⟩
    have hlane : ¬ s.darken.laneHoldsReset = true := fun h => by
      obtain ⟨hp, a, ha, hh⟩ := s.darken.laneHoldsReset_iff.1 h
      rcases hno with hno | hno
      · exact absurd hp (by simp [State.darken, hno])
      · exact absurd hh (by simp [hno a ha])
    rw [exec_linkLockLost (s.linked_iff.2 ⟨hr, hlock⟩), State.answerCut, if_neg hlane]
    rfl
  · have h : (s.live && !s.locked) = true := by simp [State.live, hr, hlock]
    exact congrArg _ (if_pos h)
  · have hlane : ¬ s.laneHoldsReset = true := fun h => by
      obtain ⟨hp, b, hb, hh⟩ := s.laneHoldsReset_iff.1 h
      simp_all
    have e : exec .answerSent s = .next s.answerSent := congrArg _ (State.whenLinked_of_linked hl _)
    rw [e, State.answerSent, if_pos (by simp [ha]), if_neg hlane]
    rfl
  · obtain ⟨hr, -⟩ := s.linked_iff.1 hl
    have hlane : s.laneHoldsReset = true := s.laneHoldsReset_iff.2 ⟨hp, a, ha, hh⟩
    have e : exec .answerSent s = .next s.answerSent := congrArg _ (State.whenLinked_of_linked hl _)
    have release : ∀ u : State, u.resetAsserted = false → exec .resetNReleased u = .next u.applyReset := fun u hu =>
      congrArg (fun v : State => Host.Outcome.next v.applyReset) (State.setResetAsserted_false hu)
    refine ⟨?_, ?_⟩
    · rw [e, release s hr, State.answerSent, if_pos (by simp [ha]), if_pos hlane]
    · have hdark : s.darken.laneHoldsReset = true := hlane
      rw [exec_linkLockLost hl, release (s.setLocked false) hr, ← State.applyReset_darken, State.answerCut, if_pos hdark]

end Sys2Proof.Machine
end

section
/-! PROOF. O12 to O14: the mapping of an output pixel. -/

namespace Sys2Proof.Machine

/-! ### Interpolation (R20) -/

/-- The sum of four corner values with the weights of R20, which sum to 57,600. -/
def weightedSum (fu fv : Nat) (p00 p10 p01 p11 : Int) : Int :=
  (240 - fu : Int) * (240 - fv) * p00 + (fu : Int) * (240 - fv) * p10 + (240 - fu : Int) * fv * p01 + (fu : Int) * fv * p11

theorem interpolate_eq {fu fv : Nat} (hu : fu ≤ 239) (hv : fv ≤ 239) (p00 p10 p01 p11 : Int) :
    interpolate fu fv p00 p10 p01 p11 = (weightedSum fu fv p00 p10 p01 p11 + 28800) / 57600 := by
  have eu : ((240 - fu : Nat) : Int) = 240 - fu := by omega
  have ev : ((240 - fv : Nat) : Int) = 240 - fv := by omega
  simp only [interpolate, weightedSum, Nat.cast_mul, eu, ev]

/-- Larger corner values have a larger weighted sum. -/
theorem weightedSum_mono {fu fv : Nat} (hu : fu ≤ 239) (hv : fv ≤ 239) {p00 p10 p01 p11 q00 q10 q01 q11 : Int}
    (h00 : p00 ≤ q00) (h10 : p10 ≤ q10) (h01 : p01 ≤ q01) (h11 : p11 ≤ q11) :
    weightedSum fu fv p00 p10 p01 p11 ≤ weightedSum fu fv q00 q10 q01 q11 := by
  have hu0 : (0 : Int) ≤ fu := by omega
  have hv0 : (0 : Int) ≤ fv := by omega
  have hu1 : (0 : Int) ≤ 240 - fu := by omega
  have hv1 : (0 : Int) ≤ 240 - fv := by omega
  unfold weightedSum
  gcongr

/-- A value common to all four corners, plus what each row of the grid and each column adds over a cell. -/
theorem weightedSum_affine (fu fv : Nat) (a b c : Int) :
    weightedSum fu fv a (a + 240 * b) (a + 240 * c) (a + 240 * b + 240 * c) = 57600 * (a + b * fu + c * fv) := by
  unfold weightedSum
  ring

/-- Rounding the mean to the nearest keeps it within whole bounds (R20). -/
theorem rounded_mem {sum lo hi : Int} (h1 : 57600 * lo ≤ sum) (h2 : sum ≤ 57600 * hi) :
    lo ≤ (sum + 28800) / 57600 ∧ (sum + 28800) / 57600 ≤ hi := by
  omega

/-- The interpolated value lies within any range that holds its four corners (R20). -/
theorem interpolate_mem {fu fv : Nat} (hu : fu ≤ 239) (hv : fv ≤ 239) {p00 p10 p01 p11 lo hi : Int}
    (h : ∀ p ∈ [p00, p10, p01, p11], lo ≤ p ∧ p ≤ hi) :
    lo ≤ interpolate fu fv p00 p10 p01 p11 ∧ interpolate fu fv p00 p10 p01 p11 ≤ hi := by
  simp only [List.forall_mem_cons, List.not_mem_nil, false_imp_iff, implies_true, and_true] at h
  obtain ⟨⟨a0, a1⟩, ⟨b0, b1⟩, ⟨c0, c1⟩, d0, d1⟩ := h
  have const : ∀ a : Int, weightedSum fu fv a a a a = 57600 * a := fun a => by
    simpa using weightedSum_affine fu fv a 0 0
  rw [interpolate_eq hu hv]
  exact rounded_mem (const lo ▸ weightedSum_mono hu hv a0 b0 c0 d0) (const hi ▸ weightedSum_mono hu hv a1 b1 c1 d1)

/-- The source position in a cell (R19, R20). -/
theorem gridPosition_cell (pts : Vector Point 170) (c r : Nat) {fu fv : Nat} (hu : fu ≤ 239) (hv : fv ≤ 239) :
    gridPosition pts (240 * c + fu) (240 * r + fv) =
      ⟨interpolate fu fv (pointAt pts c r).x (pointAt pts (c + 1) r).x (pointAt pts c (r + 1)).x (pointAt pts (c + 1) (r + 1)).x,
        interpolate fu fv (pointAt pts c r).y (pointAt pts (c + 1) r).y (pointAt pts c (r + 1)).y
          (pointAt pts (c + 1) (r + 1)).y⟩ := by
  have h : ∀ n f : Nat, f ≤ 239 → (240 * n + f) / 240 = n ∧ (240 * n + f) % 240 = f := fun n f hf => by omega
  obtain ⟨hc, hfu⟩ := h c fu hu
  obtain ⟨hr, hfv⟩ := h r fv hv
  simp only [gridPosition, hc, hfu, hr, hfv]

/-! ### Sampling (R22) -/

/-- A blend never leaves the range of a component, so that nothing is cut off (R22). -/
theorem blend_toNat {ax ay : Nat} (hx : ax ≤ 15) (hy : ay ≤ 15) (p00 p10 p01 p11 : LaneWord) :
    (blend ax ay p00 p10 p01 p11).toNat = ((16 - ax) * (16 - ay) * p00.toNat + ax * (16 - ay) * p10.toNat
      + (16 - ax) * ay * p01.toNat + ax * ay * p11.toNat + 128) / 256 := by
  have weights : (16 - ax) * (16 - ay) + ax * (16 - ay) + (16 - ax) * ay + ax * ay = 256 := by
    obtain ⟨m, hm⟩ : ∃ m, 16 - ax = m := ⟨_, rfl⟩
    obtain ⟨n, hn⟩ : ∃ n, 16 - ay = n := ⟨_, rfl⟩
    rw [hm, hn]
    have h1 : m + ax = 16 := by omega
    have h2 : n + ay = 16 := by omega
    calc m * n + ax * n + m * ay + ax * ay = (m + ax) * (n + ay) := by ring
      _ = 256 := by rw [h1, h2]
  have top : ∀ (w : Nat) (p : LaneWord), w * p.toNat ≤ w * 1023 := fun w p => Nat.mul_le_mul_left w (by omega)
  have t00 := top ((16 - ax) * (16 - ay)) p00
  have t10 := top (ax * (16 - ay)) p10
  have t01 := top ((16 - ax) * ay) p01
  have t11 := top (ax * ay) p11
  rw [blend, BitVec.toNat_ofNat, Nat.mod_eq_of_lt]
  omega

theorem isBorder_iff (p : Point) : isBorder p = true ↔ p.x < 0 ∨ p.y < 0 ∨ 61424 < p.x ∨ 34544 < p.y := by
  simp [isBorder, or_assoc]

/-- Settles O12: the mean of a cell's corners, and the four source pixels of a position. -/
theorem mappingInterpolatesAndSamples : Obligations.MappingInterpolatesAndSamples := by
  refine ⟨fun pts c r fu fv _ _ hu hv coord hcoord p00 p10 p01 p11 mean h00 h10 h01 h11 hmean => ?_,
    fun grid src u v X Y hpos => ⟨fun hb => ?_, fun xi ax yi ay hX hY hax hay hX1 hY1 => ?_⟩⟩
  · have hm : mean = interpolate fu fv p00 p10 p01 p11 := by rw [hmean, interpolate_eq hu hv, weightedSum]
    refine ⟨?_, ?_, ?_, ?_, fun hr => hm ▸ interpolate_mem hu hv hr⟩
    · simp only [sourcePosition, gridPosition_cell pts c r hu hv]
      rcases List.mem_cons.1 hcoord with rfl | hcoord
      · simp only [hm, h00, h10, h01, h11]
      · rw [List.mem_singleton.1 hcoord] at h00 h10 h01 h11 ⊢
        simp only [hm, h00, h10, h01, h11]
    · rw [hm]
      exact (interpolate_mem hu hv (hi := max (max p00 p10) (max p01 p11)) (by simp)).1
    · rw [hm]
      exact (interpolate_mem hu hv (lo := min (min p00 p10) (min p01 p11)) (by simp)).2
    · rintro rfl rfl
      simp only [Nat.cast_zero, zero_mul, mul_zero, add_zero, sub_zero] at hmean
      omega
  · simp only [mapPixel, hpos, (isBorder_iff ⟨X, Y⟩).2 hb, if_true]
    rfl
  · have hin : ¬ isBorder ⟨X, Y⟩ = true := fun h => by
      have := (isBorder_iff _).1 h
      simp only at this
      omega
    have ex : (X / 16).toNat = xi ∧ (X % 16).toNat = ax ∧ min (xi + 1) 3839 = if xi = 3839 then 3839 else xi + 1 := by
      refine ⟨by omega, by omega, ?_⟩
      split <;> omega
    have ey : (Y / 16).toNat = yi ∧ (Y % 16).toNat = ay ∧ min (yi + 1) 2159 = if yi = 2159 then 2159 else yi + 1 := by
      refine ⟨by omega, by omega, ?_⟩
      split <;> omega
    obtain ⟨ex, eax, ex1⟩ := ex
    obtain ⟨ey, eay, ey1⟩ := ey
    simp only [mapPixel, hpos, if_neg hin, sample, ex, eax, ex1, ey, eay, ey1, true_and]
    intro component hc
    simp only [List.mem_cons, List.not_mem_nil, or_false] at hc
    rcases hc with rfl | rfl | rfl <;> exact blend_toNat hax hay _ _ _ _

/-! ### The identity and the displacement window (R23, R24) -/

/-- Settles O13: a source position on a whole pixel is that pixel. -/
theorem identityMappingGivesInputUnchanged : Obligations.IdentityMappingGivesInputUnchanged := by
  intro grid src u v hu hv hgrid
  have hpos : sourcePosition grid u v = ⟨16 * u, 16 * v⟩ := by
    cases grid with
    | none => rfl
    | some pts =>
      obtain ⟨c, fu, rfl, hfu⟩ : ∃ c fu, u = 240 * c + fu ∧ fu ≤ 239 := ⟨u / 240, u % 240, by omega, by omega⟩
      obtain ⟨r, fv, rfl, hfv⟩ : ∃ r fv, v = 240 * r + fv ∧ fv ≤ 239 := ⟨v / 240, v % 240, by omega, by omega⟩
      have corner := fun i j hi hj => hgrid pts rfl i j hi hj
      rw [sourcePosition, gridPosition_cell pts c r hfu hfv, corner c r (by omega) (by omega),
        corner (c + 1) r (by omega) (by omega), corner c (r + 1) (by omega) (by omega),
        corner (c + 1) (r + 1) (by omega) (by omega), interpolate_eq hfu hfv, interpolate_eq hfu hfv]
      have sx := weightedSum_affine fu fv (16 * (240 * c)) 16 0
      have sy := weightedSum_affine fu fv (16 * (240 * r)) 0 16
      have next : ∀ n : Int, 16 * (240 * (n + 1)) = 16 * (240 * n) + 240 * 16 := fun n => by ring
      simp only [mul_zero, add_zero] at sx sy
      simp only [Nat.cast_add, Nat.cast_one, next, sx, sy, Point.mk.injEq]
      push_cast
      omega
  have hin : ¬ isBorder ⟨16 * u, 16 * v⟩ = true := fun h => by
    have := (isBorder_iff _).1 h
    simp only at this
    omega
  have whole : ∀ p00 p10 p01 p11 : LaneWord, blend 0 0 p00 p10 p01 p11 = p00 := fun p00 p10 p01 p11 => by
    apply BitVec.eq_of_toNat_eq
    rw [blend_toNat (by omega) (by omega)]
    omega
  refine ⟨hpos, ?_⟩
  have ex : ((16 * u : Int) / 16).toNat = u ∧ ((16 * u : Int) % 16).toNat = 0 := by omega
  have ey : ((16 * v : Int) / 16).toNat = v ∧ ((16 * v : Int) % 16).toNat = 0 := by omega
  simp only [mapPixel, hpos, if_neg hin, sample, ex, ey, whole]

/-- Under a grid inside the displacement window a source row lies within 159 rows of the output row and less than one more
(R24, R34). -/
theorem sourcePosition_window {grid : Option (Vector Point 170)} {u v : Nat} (hu : u < 3840) (hv : v < 2160)
    (h : ∀ pts ∈ grid, ∀ i j : Nat, i ≤ 16 → j ≤ 9 →
      -2544 ≤ (pointAt pts i j).y - 3840 * j ∧ (pointAt pts i j).y - 3840 * j ≤ 2559) :
    16 * (v : Int) - 2544 ≤ (sourcePosition grid u v).y ∧ (sourcePosition grid u v).y ≤ 16 * v + 2559 := by
  cases grid with
  | none =>
    simp only [sourcePosition]
    omega
  | some pts =>
    obtain ⟨c, fu, rfl, hfu⟩ : ∃ c fu, u = 240 * c + fu ∧ fu ≤ 239 := ⟨u / 240, u % 240, by omega, by omega⟩
    obtain ⟨r, fv, rfl, hfv⟩ : ∃ r fv, v = 240 * r + fv ∧ fv ≤ 239 := ⟨v / 240, v % 240, by omega, by omega⟩
    have h00 := h pts rfl c r (by omega) (by omega)
    have h10 := h pts rfl (c + 1) r (by omega) (by omega)
    have h01 := h pts rfl c (r + 1) (by omega) (by omega)
    have h11 := h pts rfl (c + 1) (r + 1) (by omega) (by omega)
    push_cast at h01 h11
    rw [sourcePosition, gridPosition_cell pts c r hfu hfv]
    simp only
    rw [interpolate_eq hfu hfv]
    apply rounded_mem
    · refine le_trans (le_of_eq ?_) (weightedSum_mono hfu hfv (p00 := 3840 * r - 2544) (p10 := 3840 * r - 2544 + 240 * 0)
        (p01 := 3840 * r - 2544 + 240 * 16) (p11 := 3840 * r - 2544 + 240 * 0 + 240 * 16) (by omega) (by omega) (by omega)
        (by omega))
      rw [weightedSum_affine]
      push_cast
      ring
    · refine le_trans (weightedSum_mono hfu hfv (q00 := 3840 * r + 2559) (q10 := 3840 * r + 2559 + 240 * 0)
        (q01 := 3840 * r + 2559 + 240 * 16) (q11 := 3840 * r + 2559 + 240 * 0 + 240 * 16) (by omega) (by omega) (by omega)
        (by omega)) (le_of_eq ?_)
      rw [weightedSum_affine]
      push_cast
      ring

/-- Settles O14: the rows that the sampling of a position in the window reads. -/
theorem windowBoundsRowsAddressed : Obligations.WindowBoundsRowsAddressed := by
  intro grid src src' u v hu hv hgrid hsrc
  have hwin := sourcePosition_window hu hv hgrid
  unfold mapPixel
  generalize sourcePosition grid u v = p at hwin ⊢
  by_cases hb : isBorder p = true
  · simp only [hb, if_true]
  · have hin : 0 ≤ p.x ∧ 0 ≤ p.y ∧ p.x ≤ 61424 ∧ p.y ≤ 34544 := by
      rw [isBorder_iff] at hb
      omega
    have same : ∀ row col : Nat, row = (p.y / 16).toNat ∨ row = min ((p.y / 16).toNat + 1) 2159 → col < 3840 →
        src row col = src' row col := fun row col hrow hcol => hsrc row col (by omega) (by omega) (by omega) hcol
    have hx0 : (p.x / 16).toNat < 3840 := by omega
    have hx1 : min ((p.x / 16).toNat + 1) 3839 < 3840 := by omega
    simp only [if_neg hb, sample, same _ _ (.inl rfl) hx0, same _ _ (.inl rfl) hx1, same _ _ (.inr rfl) hx0,
      same _ _ (.inr rfl) hx1]

end Sys2Proof.Machine
end

section
/-! PROOF. O25: the commands of the grid store beside WRITE_GRID and COMMIT_GRID. -/

namespace Sys2Proof.Machine

/-! ### Numbers in packets (R178) -/

theorem index_of_le {n : Nat} {b : Byte} (h : n ≤ b.toNat) : index n b = none := dif_neg (Nat.not_lt.2 h)

theorem index_of_eq {n : Nat} {b : Byte} (k : Fin n) (h : b.toNat = k.val) : index n b = some k := by
  have hk : b.toNat < n := h ▸ k.isLt
  rw [index, dif_pos hk]
  exact congrArg some (Fin.ext h)

theorem flagByte_eq (b : Bool) : flagByte b = [if b then 1 else 0] := by cases b <;> rfl

/-! ### Packets that are taken (R167, R170) -/

/-- A packet that is taken and whose owner changes nothing leaves its answer alone. -/
theorem State.takePacket_same {s : State} (h : s.takes) (tag : Byte) {run : Owner} {r : Reply}
    (hr : run s.countTaken = (s.countTaken, r)) : s.takePacket tag run = s.onlyAnswered tag r.result r.data := by
  rw [s.takePacket_of_takes h, s.carryOut_of_same tag run r hr]

/-- A packet that is taken leaves its owner's work and its answer. -/
theorem State.takePacket_work {s : State} (h : s.takes) (tag : Byte) {run : Owner} {t : State} {r : Reply}
    (hr : run s.countTaken = (t, r)) : s.takePacket tag run = t.addEntry tag r := by
  rw [s.takePacket_of_takes h, State.carryOut, hr]

/-- Both answers, taken or not, of a refusal by the grid store. -/
theorem State.takePacket_answer {s : State} (h : s.takes) (tag : Byte) {run : Owner} {r : Result}
    (hr : run s.countTaken = answer r s.countTaken) : s.takePacket tag run = s.onlyAnswered tag r [] :=
  State.takePacket_same h tag hr

/-! ### A slot's progress (R27, R182) -/

theorem Slot.firstUnwritten_none {x : Slot} (h : x.firstUnwritten = none) (k : Fin 170) : x.written.get k = true := by
  have := List.find?_eq_none.1 h k.val (List.mem_range.2 k.isLt)
  simpa [Vector.getD, Vector.get_eq_getElem] using this

theorem Slot.firstUnwritten_some {x : Slot} {n : Nat} (h : x.firstUnwritten = some n) :
    ∃ k : Fin 170, k.val = n ∧ x.written.get k = false ∧ ∀ j : Fin 170, j < k → x.written.get j = true := by
  obtain ⟨hn, hmem, hbefore⟩ := List.find?_range_eq_some.1 h
  refine ⟨⟨n, List.mem_range.1 hmem⟩, rfl, ?_, fun j hj => ?_⟩
  · simpa [Vector.getD, Vector.get_eq_getElem, List.mem_range.1 hmem] using hn
  · simpa [Vector.getD, Vector.get_eq_getElem] using hbefore j.val hj

/-- The progress that GRID_INFO sends reports the written count and the first unwritten index (R27, R178). -/
theorem Slot.progress_reports (x : Slot) : x.reports x.progress := by
  cases h : x.firstUnwritten with
  | none => exact ⟨0xFF, by simp [Slot.progress, Slot.writtenCount, byte, orNone, h], .inl ⟨Slot.firstUnwritten_none h, rfl⟩⟩
  | some n =>
    obtain ⟨k, rfl, hk⟩ := Slot.firstUnwritten_some h
    refine ⟨BitVec.ofNat 8 k.val, by simp [Slot.progress, Slot.writtenCount, byte, orNone, h], .inr ⟨k, ?_, hk⟩⟩
    rw [BitVec.toNat_ofNat]
    omega

/-! ### The owners of the four commands -/

theorem eraseGrid_of_index {slot : Byte} {n : Fin 4} (h : index 4 slot = some n) (s : State) : eraseGrid slot s =
    if s.isProtected n then answer .refusedProtected s else (s.setSlot n (s.slot n).erase, .ok) := by
  simp only [eraseGrid, h]

theorem selectGrid_of_index {slot : Byte} {n : Fin 4} (hs : slot ≠ 0xFF) (h : index 4 slot = some n) (s : State) :
    selectGrid slot s = if (s.slot n).state = .valid then (s.selectChoice (some n), .ok) else answer .refusedState s := by
  simp only [selectGrid, indexOrNone, if_neg hs, h, Option.map_some]

theorem selectGrid_none (s : State) : selectGrid 0xFF s = (s.selectChoice none, .ok) := rfl

theorem selectGrid_of_le {slot : Byte} (hs : slot ≠ 0xFF) (h : 4 ≤ slot.toNat) (s : State) :
    selectGrid slot s = answer .refusedRange s := by
  simp only [selectGrid, indexOrNone, if_neg hs, index_of_le h, Option.map_none]

/-- Settles O25, command by command: each refusal leaves its answer alone, and each carried-out command leaves its owner's
work and its answer. -/
theorem gridSlotCommands : Obligations.GridSlotCommands := by
  refine ⟨fun s tag slot ht => ⟨fun hle => ⟨?_, fun hff => ?_⟩, fun n hn => ?_, ?_⟩,
    fun s tag slot idx ht => ⟨fun hle => ?_, fun hle => ?_, fun n hn => ⟨fun k point hk hp => ?_, ?_⟩⟩⟩
  · exact congrArg _ (State.takePacket_answer ht tag (by simp only [eraseGrid, index_of_le hle]))
  · exact congrArg _ (State.takePacket_answer ht tag (selectGrid_of_le hff hle _))
  · have hi := index_of_eq n hn
    have hff : slot ≠ 0xFF := by
      rintro rfl
      have h255 : (0xFF : Byte).toNat = 255 := rfl
      omega
    have hprot : s.countTaken.isProtected n = true ↔ s.warp.active = some n ∨ ∃ c, s.warp.choice = some c ∧ c.slot = some n :=
      s.countTaken.isProtected_iff n
    refine ⟨fun hp => ?_, fun ha hc => ?_, fun hv => ?_, fun hv => ?_⟩
    · refine congrArg _ (State.takePacket_answer ht tag ?_)
      rw [eraseGrid_of_index hi, if_pos (hprot.2 (by simpa using hp))]
    · refine congrArg _ (State.takePacket_work ht tag (?_ : _ = (s.countTaken.setSlot n (s.slot n).erase, .ok)))
      rw [eraseGrid_of_index hi, if_neg]
      · rfl
      · rw [hprot]
        rintro (h | ⟨c, hc', h⟩)
        · exact ha h
        · exact hc c hc' h
    · refine congrArg _ (State.takePacket_work ht tag (?_ : _ = (s.countTaken.selectChoice (some n), .ok)))
      rw [selectGrid_of_index hff hi, if_pos]
      exact hv
    · refine congrArg _ (State.takePacket_answer ht tag ?_)
      rw [selectGrid_of_index hff hi, if_neg]
      exact hv
  · rintro rfl
    exact congrArg _ (State.takePacket_work ht tag (selectGrid_none _))
  · refine congrArg _ (State.takePacket_answer ht tag ?_)
    rcases hle with hle | hle
    · simp only [readGrid, index_of_le hle]
    · simp only [readGrid, index_of_le hle]
      cases index 4 slot <;> rfl
  · exact congrArg _ (State.takePacket_answer ht tag (by simp only [gridInfo, index_of_le hle]))
  · refine congrArg _ (State.takePacket_same ht tag (r := .okWith _) ?_)
    simp only [readGrid, index_of_eq n hn, index_of_eq k hk, flagByte_eq]
    subst hp
    rfl
  · refine ⟨_, (s.slot n).progress_reports, congrArg _ (State.takePacket_same ht tag (r := .okWith _) ?_)⟩
    simp only [gridInfo, index_of_eq n hn, flagByte_eq, State.isActive, decide_eq_true_eq, byte, List.append_assoc,
      List.cons_append, List.nil_append]
    rfl

end Sys2Proof.Machine
end

section
/-! PROOF. O17: a control line does what a blanking line and its packet's command do. -/

namespace Sys2Proof.Machine

/-! ### Fields of a payload, read back (R178, R181, R182) -/

theorem word_of_bytes (w : BitVec 16) : w.extractLsb' 8 8 ++ w.extractLsb' 0 8 = w := BitVec.extractLsb'_append_extractLsb'

theorem join_bytes {w : Nat} (start len : Nat) (x : BitVec w) :
    x.extractLsb' (start + 8) len ++ x.extractLsb' start 8 = x.extractLsb' start (len + 8) :=
  BitVec.extractLsb'_append_extractLsb'_eq_extractLsb' rfl

theorem word_of_three_bytes (w : BitVec 24) : w.extractLsb' 16 8 ++ w.extractLsb' 8 8 ++ w.extractLsb' 0 8 = w := by
  rw [join_bytes 8 8, join_bytes 0 16]
  exact BitVec.extractLsb'_eq_self

theorem word_of_five_bytes (w : BitVec 40) :
    w.extractLsb' 32 8 ++ w.extractLsb' 24 8 ++ w.extractLsb' 16 8 ++ w.extractLsb' 8 8 ++ w.extractLsb' 0 8 = w := by
  rw [join_bytes 24 8, join_bytes 16 16, join_bytes 8 24, join_bytes 0 32]
  exact BitVec.extractLsb'_eq_self

theorem wordsOf_flatMap (values : List (BitVec 16)) : wordsOf (values.flatMap wordBytes) = values := by
  induction values with
  | nil => rfl
  | cons v vs ih => exact congrArg₂ List.cons (word_of_bytes v) ih

theorem pointsOf_flatMap (points : List RawPoint) : pointsOf (points.flatMap pointBytes) = points := by
  induction points with
  | nil => rfl
  | cons q qs ih =>
    have hx : (q.x ++ q.y).extractLsb' 20 20 = q.x :=
      (BitVec.extractLsb'_append_eq_of_le (Nat.le_refl 20)).trans BitVec.extractLsb'_eq_self
    have hy : (q.x ++ q.y).extractLsb' 0 20 = q.y :=
      (BitVec.extractLsb'_append_eq_of_add_le (Nat.le_refl 20)).trans BitVec.extractLsb'_eq_self
    have e := word_of_five_bytes (q.x ++ q.y)
    have head : pointsOf (pointBytes q ++ qs.flatMap pointBytes) = q :: pointsOf (qs.flatMap pointBytes) := by
      simp only [pointBytes, List.cons_append, List.nil_append, pointsOf]
      rw [e, hx, hy]
    rw [List.flatMap_cons, head, ih]

/-- A packet command's payload is read back as the command (R182). -/
theorem readCommand_packetOf {i : Instr} {tag : Byte} {code : Nat} {payload : List Byte}
    (h : packetOf i = some (tag, code, payload)) : readCommand tag code payload = some i := by
  cases i <;> cases h
  case readLight page | readStatus page | readZone page | readFan page | readAxis page | readMotion page =>
    fin_cases page <;> rfl
  case writeGrid points => exact congrArg (fun ps => some (Instr.writeGrid tag _ _ _ ps)) (pointsOf_flatMap points)
  case writeThermistorTableFirst values => exact congrArg (fun vs => some (Instr.writeThermistorTableFirst tag _ vs)) (wordsOf_flatMap values)
  case writeThermistorTableSecond values => exact congrArg (fun vs => some (Instr.writeThermistorTableSecond tag _ vs)) (wordsOf_flatMap values)
  case setLight | setLightRamp | setTripComparator | writeZone | setThermalLimits | writeFan | setInstall | writeAxis | moveAxis
      | stepAxis | storePreset | ackEvents | setEventEnable =>
    simp [readCommand, byteAt, wordAt, wordBytes, word_of_bytes, word_of_three_bytes]
  all_goals rfl

/-- The packet of a well-formed command has a one-byte code, the payload length that its code requires, and fits R168's
largest length (R168, R169, R182). -/
theorem packetOf_fits {i : Instr} {tag : Byte} {code : Nat} {payload : List Byte} (hw : i.wf = true)
    (h : packetOf i = some (tag, code, payload)) :
    code < 256 ∧ requiredLength code payload = some payload.length ∧ payload.length ≤ 48 := by
  have enc : Laws.Encoding.Statement i → payload.length ≤ 48 →
      code < 256 ∧ requiredLength code payload = some payload.length ∧ payload.length ≤ 48 := fun e hl =>
    ⟨(e tag code payload hw h).1, (e tag code payload hw h).2, hl⟩
  cases i
  case writeGrid points =>
    refine enc (Laws.Encoding.writeGrid _ _ _ _ _) ?_
    simp only [Instr.wf, Bool.and_eq_true, decide_eq_true_eq] at hw
    cases h
    rw [List.length_append, Laws.Encoding.flatMap_pointBytes_length]
    simp only [List.length_cons, List.length_nil]
    omega
  case writeThermistorTableFirst values =>
    refine enc (Laws.Encoding.writeThermistorTableFirst _ _ _) ?_
    simp only [Instr.wf, decide_eq_true_eq] at hw
    cases h
    rw [List.length_cons, Laws.Encoding.flatMap_wordBytes_length]
    omega
  case writeThermistorTableSecond values =>
    refine enc (Laws.Encoding.writeThermistorTableSecond _ _ _) ?_
    simp only [Instr.wf, decide_eq_true_eq] at hw
    cases h
    rw [List.length_cons, Laws.Encoding.flatMap_wordBytes_length]
    omega
  case readLight page | readStatus page | readZone page | readFan page | readAxis page | readMotion page =>
    cases h
    fin_cases page <;> exact ⟨by decide, rfl, Nat.le_of_ble_eq_true rfl⟩
  all_goals
    cases h
    all_goals exact ⟨by decide, rfl, Nat.le_of_ble_eq_true rfl⟩

/-! ### Packets read back (R168, R169, R179) -/

theorem byteAt_append {p q : List Byte} {k : Nat} (h : k < p.length) : byteAt (p ++ q) k = byteAt p k := by
  simp [byteAt, List.getD_eq_getElem?_getD, List.getElem?_append_left h]

theorem byteAt_append_right (p q : List Byte) (k : Nat) : byteAt (p ++ q) (p.length + k) = byteAt q k := by
  rw [byteAt, byteAt, List.getD_eq_getElem?_getD, List.getElem?_append_right (Nat.le_add_right _ _), Nat.add_sub_cancel_left,
    List.getD_eq_getElem?_getD]

/-- The bytes of a packet, with whatever follows them on the line, pass the checks and are the command (R168, R169). -/
theorem readPacket_packetBytes {i : Instr} {tag : Byte} {code : Nat} {payload : List Byte} (hw : i.wf = true)
    (h : packetOf i = some (tag, code, payload)) (extra : List Byte) :
    readPacket (packetBytes tag code payload ++ extra) = .command tag i := by
  obtain ⟨hcode, hreq, hlen⟩ := packetOf_fits hw h
  have hread := readCommand_packetOf h
  obtain ⟨body, hbody⟩ : ∃ body, [tag, BitVec.ofNat 8 code, BitVec.ofNat 8 payload.length] ++ payload = body := ⟨_, rfl⟩
  have hb : body.length = 3 + payload.length := by
    rw [← hbody, List.length_append]
    rfl
  have hbytes : packetBytes tag code payload ++ extra = body ++ (wordBytes (crc16 body) ++ extra) := by
    rw [← List.append_assoc, ← hbody]
    rfl
  have at_body : ∀ k < 3 + payload.length, byteAt (packetBytes tag code payload ++ extra) k = byteAt body k := fun k hk => by
    rw [hbytes, byteAt_append (hb ▸ hk)]
  have htag : byteAt (packetBytes tag code payload ++ extra) 0 = tag := rfl
  have hcode' : (byteAt (packetBytes tag code payload ++ extra) 1).toNat = code := Nat.mod_eq_of_lt hcode
  have hlen' : (byteAt (packetBytes tag code payload ++ extra) 2).toNat = payload.length := Nat.mod_eq_of_lt (by omega)
  have htake : (packetBytes tag code payload ++ extra).take (3 + payload.length) = body := by
    rw [hbytes, List.take_left' hb]
  have hpayload : ((packetBytes tag code payload ++ extra).drop 3).take payload.length = payload := by
    rw [hbytes, ← hbody]
    exact List.take_left
  have hcrc : wordAt (packetBytes tag code payload ++ extra) (3 + payload.length) = crc16 body := by
    have after_body : ∀ k, byteAt (packetBytes tag code payload ++ extra) (3 + payload.length + k) =
        byteAt (wordBytes (crc16 body) ++ extra) k := fun k => by rw [hbytes, ← hb, byteAt_append_right]
    rw [wordAt, after_body 1, ← Nat.add_zero (3 + payload.length), after_body 0]
    exact word_of_bytes _
  have hcheck : passesCheck (packetBytes tag code payload ++ extra) = true := by
    have hfits : 5 + payload.length ≤ (packetBytes tag code payload ++ extra).length := by
      rw [hbytes, List.length_append, List.length_append, hb]
      simp only [wordBytes, List.length_cons, List.length_nil]
      omega
    simp only [passesCheck, hlen', htake, hcrc, Bool.and_eq_true, decide_eq_true_eq]
    exact ⟨⟨hlen, hfits⟩, trivial⟩
  simp only [readPacket, hcheck, if_true, htag, hcode', hlen', hpayload, hreq, hread]

theorem lineBytes_controlWords (bytes : List Byte) (after : List LaneWord) :
    lineBytes (controlWords bytes ++ after) = bytes ++ after.map (·.setWidth 8) := by
  have e : (controlWords bytes ++ after).drop 6 = bytes.map (·.setWidth 10) ++ after := rfl
  rw [lineBytes, e, List.map_append, List.map_map]
  congr 1
  refine (List.map_congr_left fun b _ => ?_).trans (List.map_id _)
  simp [BitVec.setWidth_setWidth_of_le]

theorem isControlLine_controlWords (bytes : List Byte) (after : List LaneWord) :
    isControlLine (controlWords bytes ++ after) = true := decide_eq_true (by rfl)

end Sys2Proof.Machine
end

section
namespace Sys2Proof.Machine

/-! ### What an owner leaves of the control channel (R170) -/

/-- The control channel but for its event flags and their enables stands as it was. -/
def ChanKept (s t : State) : Prop := { t.chan with flags := s.chan.flags, enables := s.chan.enables } = s.chan

theorem ChanKept.refl (s : State) : ChanKept s s := rfl

theorem ChanKept.of_flags {s t : State} (h : { t.chan with flags := s.chan.flags } = s.chan) : ChanKept s t := by
  unfold ChanKept
  rw [← h]

theorem State.changeState_chanKept (s : State) (new : OpState) : ChanKept s (s.changeState new) :=
  .of_flags (s.changeState_frame new).1.entries

theorem State.judgeComparator_chanKept (s : State) : ChanKept s s.judgeComparator := by
  rcases s.judgeComparator_cases with ⟨-, -, e⟩ | ⟨-, -, e⟩ | ⟨-, e⟩ <;> rw [e]
  · rcases (s.setComparator { s.temps.comparator with state := .tripped }).trip_cases .comparator with ⟨-, e⟩ | ⟨-, k, -⟩
    · rw [e]
      exact .refl s
    · exact .of_flags k.entries
  · exact .refl s
  · exact .refl s

theorem enqueue_chanKept (tag : Byte) (j : Job) (s : State) : ChanKept s (enqueue tag j s).1 := by
  unfold enqueue
  split
  · exact .refl s
  · split
    · exact .refl s
    · exact .of_flags (s.append (.fresh tag j)).pump_frame.chan

/-- Every owner's work leaves the counts, the answers and the return lane (R170). -/
theorem ownerOf_chanKept (i : Instr) (s : State) : ChanKept s (ownerOf i s).1 := by
  cases i
  case writeGrid | commitGrid | eraseGrid | selectGrid =>
    simp only [ownerOf, writeGrid, commitGrid, eraseGrid, selectGrid, answer]
    repeat' split
    all_goals exact .refl s
  case lightOn =>
    simp only [ownerOf, lightOn, tryLight, answer]
    repeat' split
    all_goals first | exact .refl s | exact s.changeState_chanKept .lit
  case lightOff => exact iteInduction (motive := ChanKept s) (fun _ => s.changeState_chanKept _) fun _ => .refl s
  case clearTrip =>
    simp only [ownerOf, clearTrip]
    repeat' split
    all_goals first | exact .refl s | exact s.changeState_chanKept .cooldown
  case setTripComparator =>
    simp only [ownerOf, setTripComparator, answer]
    repeat' split
    all_goals first | exact .refl s | exact State.judgeComparator_chanKept _
  case moveAxis | stepAxis | home | recallPreset =>
    simp only [ownerOf, moveAxis, stepAxis, home, recallPreset, answer]
    repeat' split
    all_goals first | exact .refl s | exact enqueue_chanKept _ _ s
  case stopMotion => exact .of_flags s.stopMotion_frame.chan
  all_goals exact (ownerOf_plain _ s rfl).chan

/-! ### The data of an answer (R180) -/

theorem page8_length (bytes : List Byte) : (page8 bytes).length = 8 := by simp [page8]

theorem orNone_length (x : Option Nat) : (orNone x).length = 1 := by cases x <;> rfl

theorem tempBytes_length (x : Option Int) : (tempBytes x).length = 2 := by cases x <;> rfl

theorem runOnBytes_length (x : Option Nat) : (runOnBytes x).length = 2 := by cases x <;> rfl

theorem progress_length (x : Slot) : x.progress.length = 2 := by simp [Slot.progress, byte, orNone_length]

theorem enqueue_data (tag : Byte) (j : Job) (s : State) : (enqueue tag j s).2.data.length ≤ 8 := by
  unfold enqueue
  repeat' split
  all_goals exact Nat.le_of_ble_eq_true rfl

theorem tryLight_data (s : State) : (tryLight s).2.data.length ≤ 8 := by
  unfold tryLight
  split
  · simp [Reply.hot, byte, orNone_length]
  · exact Nat.zero_le _

/-- An owner answers with at most eight data bytes (R170, R180). -/
theorem ownerOf_data (i : Instr) (s : State) : (ownerOf i s).2.data.length ≤ 8 := by
  cases i
  case readLight | readStatus => exact (page8_length _).le
  case lightOn =>
    simp only [ownerOf, lightOn, answer]
    split <;> first | exact tryLight_data s | exact Nat.zero_le _
  case moveAxis | stepAxis | home | recallPreset =>
    simp only [ownerOf, moveAxis, stepAxis, home, recallPreset, answer]
    repeat' split
    all_goals first | exact enqueue_data _ _ s | exact Nat.zero_le _
  case readZone | readFan | readAxis | readMotion =>
    simp only [ownerOf, readZone, readFan, readAxis, readMotion, answer]
    repeat' split
    all_goals first | exact (page8_length _).le | exact Nat.zero_le _
  case writeGrid | commitGrid | gridInfo | readGrid =>
    simp only [ownerOf, writeGrid, commitGrid, gridInfo, readGrid, answer]
    repeat' split
    all_goals simp [Reply.plain, Reply.okWith, byte, flagByte, progress_length, Point.bytes, pointBytes]
  case readPoll | readSource | readThermistorTable | readTripComparator =>
    simp only [ownerOf, readPoll, readSource, readTable, readTripComparator, answer]
    repeat' split
    all_goals simp [Reply.plain, Reply.okWith, byte, flagByte, PollEntry.bytes, Source.bytes, tempBytes_length, orNone_length,
      beSigned16, be16]
  case readState | clearTrip | stopMotion | readPreset | ackEvents =>
    simp only [ownerOf, readState, clearTrip, stopMotion, readPreset, ackEvents, answer]
    repeat' split
    all_goals simp [Reply.plain, Reply.ok, Reply.okWith, Reply.hot, byte, flagByte, StateCtl.report, runOnBytes_length,
      orNone_length, Preset.bytes, be16]
  case lightOff => exact Nat.zero_le _
  case setLight | setLightRamp | writePoll | assignSource | writeChannel | setTripComparator | writeZone | setThermalLimits
      | writeFan | clearFan | setInstall | engineReset | writeAxis | erasePreset | setEventEnable | eraseGrid | selectGrid
      | writeThermistorTableFirst | writeThermistorTableSecond | storePreset =>
    simp only [ownerOf, setLight, setLightRamp, writePoll, assignSource, writeChannel, setTripComparator, writeZone,
      setThermalLimits, writeFan, clearFan, setInstall, engineReset, writeAxis, erasePreset, setEventEnable, eraseGrid,
      selectGrid, writeTableFirst, writeTableSecond, refuseStaging, storePreset, storeExplicit, storeCurrent, answer]
    repeat' split
    all_goals exact Nat.zero_le _
  all_goals exact Nat.zero_le _

/-- A packet that is taken is counted and answered with its tag (R167, R170). -/
theorem carryOut_chan (s : State) (tag : Byte) (i : Instr) :
    (s.carryOut tag (ownerOf i)).chan.taken = s.chan.taken + 1 ∧ (s.carryOut tag (ownerOf i)).chan.ignored = s.chan.ignored ∧
    (s.carryOut tag (ownerOf i)).chan.entries = s.chan.entries ++ [{ tag := tag, reply := (ownerOf i s.countTaken).2 }] := by
  have h := ownerOf_chanKept i s.countTaken
  refine ⟨(congrArg ChanState.taken h :), (congrArg ChanState.ignored h :), ?_⟩
  exact congrArg (· ++ [({ tag := tag, reply := (ownerOf i s.countTaken).2 } : Entry)]) (congrArg ChanState.entries h :)

/-- Settles O17: the line's words spell the packet, the packet its command, and the command's row is that packet's. -/
theorem controlLineCarriesItsCommand : Obligations.ControlLineCarriesItsCommand := by
  intro i bytes pixels after s hw henc hwords
  obtain ⟨⟨tag, code, payload⟩, hp, rfl⟩ : ∃ x, packetOf i = some x ∧ packetBytes x.1 x.2.1 x.2.2 = bytes := by
    simpa [encode, Option.map_eq_some_iff] using henc
  have hline : s.controlLine pixels = s.blankingLine.takePacket tag (ownerOf i) := by
    have h : lineWords pixels = controlWords (packetBytes tag code payload) ++ after := hwords
    rw [State.controlLine, h, if_pos (isControlLine_controlWords _ _), lineBytes_controlWords, readPacket_packetBytes hw hp]
    rfl
  refine ⟨s.whenLinked State.blankingLine, s.whenLinked fun s => s.controlLine pixels, rfl, rfl, ?_, fun ht => ?_⟩
  · rw [exec_packet_of_wf hw hp]
    cases hl : s.linked
    · have e : ∀ f : State → State, s.whenLinked f = s := fun f => if_neg (by simp [hl])
      rw [e, e, State.takePacket, e]
    · rw [State.whenLinked_of_linked hl, State.whenLinked_of_linked hl, hline]
  · obtain ⟨hr, hl, -, -⟩ := id ht
    have htakes : s.blankingLine.takes := ht
    obtain ⟨htaken, hign, hent⟩ := carryOut_chan s.blankingLine tag i
    rw [State.whenLinked_of_linked (s.linked_iff.2 ⟨hr, hl⟩), hline, State.takePacket_of_takes htakes]
    exact ⟨htaken, hign, _, hent, rfl, ownerOf_data i _⟩

end Sys2Proof.Machine
end

section
/-! PROOF. O5: the release of RESET_N. -/

namespace Sys2Proof.Machine

/-- The bus controller's part of a reset: the sweep ends, the lines are let go, and nothing else changes (R89). -/
theorem State.abandonBus_eq (s : State) : s.abandonBus = { s with
    temps := { s.temps with sweeping := false, sweepList := [], flight := none, wire := s.temps.abandonedWire s.freeCount }
    freeCount := if s.temps.flight.isSome then s.freeCount + 1 else s.freeCount } := by
  unfold State.abandonBus State.drawFreeIf
  split <;> rfl

/-- What a reset leaves on the two lines ends with their release; with nothing in flight it is the release alone (R89). -/
theorem Temps.abandonedWire_released (t : Temps) (k : Nat) :
    (t.abandonedWire k).getLast? = some .release ∧ (t.flight = none → t.abandonedWire k = [.release]) := by
  unfold Temps.abandonedWire
  split
  · exact ⟨rfl, fun _ => rfl⟩
  · rename_i f h
    exact ⟨by simp [Flight.cutWire], fun h' => by simp [h] at h'⟩

/-- The blocks right after the release, before the comparator judges its code (R129, R130). -/
def State.released (s : State) : State := (s.setResetAsserted false).abandonBus.resetBlocks

theorem exec_resetNReleased (s : State) : exec .resetNReleased s = .next s.released.judgeComparator := rfl

theorem State.released_watched (s : State) : s.released.temps.watchedCode = (s.temps.pinCode[0]).toNat := by
  simp only [State.released, State.abandonBus_eq]
  rfl

theorem State.released_comparator (s : State) : s.released.temps.comparator = ⟨.c0, 600, .released⟩ := rfl

/-- The comparator at the release: from RELEASED at code 600, it trips on a code of 600 or below and on no other (R86, R130). -/
theorem State.released_judged (s : State) : s.released.judgeComparator =
    if (s.temps.pinCode[0]).toNat ≤ 600 then (s.released.setComparator ⟨.c0, 600, .tripped⟩).trip .comparator
    else s.released := by
  have cases := s.released.judgeComparator_cases
  simp only [s.released_watched, s.released_comparator] at cases
  rcases cases with ⟨-, hle, e⟩ | ⟨ht, -⟩ | ⟨⟨-, hlt⟩ | ⟨ht, -⟩, e⟩
  · rw [e, if_pos hle]
  · cases ht
  · rw [e, if_neg (Nat.not_le.mpr hlt)]
  · cases ht

/-- A slot of a grid store that has been reset (R27, R44). -/
theorem Slot.reset_values (n : Fin 4) : ((Vector.replicate 4 Slot.reset)[n]).state = .empty ∧
    ((Vector.replicate 4 Slot.reset)[n]).clampCount = 0 ∧
    ∀ k : Fin 170, ((Vector.replicate 4 Slot.reset)[n]).points.get k = ⟨0, 0⟩ ∧
      ((Vector.replicate 4 Slot.reset)[n]).written.get k = false := by
  have h : (Vector.replicate 4 Slot.reset)[n] = Slot.reset := Vector.getElem_replicate ..
  rw [h]
  refine ⟨rfl, rfl, fun k => ⟨?_, ?_⟩⟩
  · rw [Slot.reset, Vector.get_eq_getElem, Vector.getElem_replicate]
  · rw [Slot.reset, Vector.get_eq_getElem, Vector.getElem_replicate]

/-- Settles O5: the release lets the bus go, gives every block its reset record and has the comparator judge pin TH0; where that
trips, the trip acts on the reset records, whose every field is a constant. -/
theorem resetReleaseGivesResetValues : Obligations.ResetReleaseGivesResetValues := by
  refine ⟨fun s hcode => ?_, fun s hcode => ?_⟩
  · obtain ⟨hlast, hnone⟩ := s.temps.abandonedWire_released s.freeCount
    rw [exec_resetNReleased, s.released_judged, if_neg (Nat.not_le.mpr hcode)]
    refine ⟨_, rfl, ?_⟩
    rw [State.released, State.abandonBus_eq]
    refine ⟨rfl, rfl, rfl, rfl, rfl, rfl, fun _ _ => rfl, rfl, rfl, rfl, fun n => ?_, rfl, rfl, fun n => ?_, rfl, rfl, rfl, rfl,
      rfl, hlast, hnone, rfl, fun ch => by cases ch <;> rfl, rfl, rfl, rfl, rfl, rfl, fun k => ?_, rfl, rfl, rfl, rfl, rfl, rfl,
      rfl, fun f => by cases f <;> rfl, rfl, rfl, rfl, fun a => by cases a <;> rfl, rfl, rfl, rfl, rfl, rfl, fun n => ?_, rfl, rfl⟩
    · exact Slot.reset_values n
    · exact Vector.getElem_replicate ..
    · fin_cases k <;> rfl
    · exact Vector.getElem_replicate ..
  · have trip_alone : (0 : BitVec 12) ||| EventFlag.trip.mask = 0x100 := by decide
    rw [exec_resetNReleased, s.released_judged, if_pos hcode]
    refine ⟨_, rfl, ?_⟩
    rw [State.released, State.abandonBus_eq]
    refine ⟨rfl, rfl, rfl, rfl, rfl, rfl, fun f => ?_, trip_alone, rfl, fun a => by cases a <;> rfl, rfl, rfl⟩
    cases f <;> exact ⟨rfl, rfl, rfl⟩

end Sys2Proof.Machine
end

section
/-! PROOF. O53: what an entry to TRIPPED does to the motion requests, and the four ways into it. -/

namespace Sys2Proof.Machine

/-! ### How requests end (R161, R164) -/

theorem Light.reform_lightEn (l : Light) : l.reform.lightEn = l.lightEn := by
  rw [Light.reform_eq]

theorem Light.release_lightEn (l : Light) : l.release.lightEn = l.lightEn := by
  unfold Light.release
  split
  · exact Light.reform_lightEn _
  · rfl

/-- Releasing the blank hold changes the hold and the light's level, and nothing else of what a trip shows. -/
theorem State.releaseHold_values (s : State) :
    s.releaseHold.motion = { s.motion with blankHold := false } ∧ s.releaseHold.axisH = s.axisH ∧
    s.releaseHold.axisV = s.axisV ∧ s.releaseHold.warp = s.warp ∧ s.releaseHold.chan = s.chan ∧
    s.releaseHold.light.lightEn = s.light.lightEn := by
  unfold State.releaseHold
  split
  · exact ⟨rfl, rfl, rfl, rfl, rfl, s.light.release_lightEn⟩
  · rename_i h
    have hold : s.motion.blankHold = false := by simpa using h
    refine ⟨?_, rfl, rfl, rfl, rfl, rfl⟩
    rw [← hold]

/-- A request's end put in front of a history, which keeps eight entries (R164). -/
def State.putFirst (s : State) (res : MotionResult) (history : List HistEntry) (r : Request) : List HistEntry :=
  (s.histEntry r res :: history).take 8

theorem State.putFirst_congr {s t : State} (h : t.axisH.position = s.axisH.position) (v : t.axisV.position = s.axisV.position)
    (res : MotionResult) : t.putFirst res = s.putFirst res := by
  unfold State.putFirst State.histEntry
  rw [h, v]

/-- A flag survives the raising of any flag. -/
theorem ChanState.flag_raise_mono {c : ChanState} {e : EventFlag} (h : c.flag e = true) (d : EventFlag) : (c.raise d).flag e = true := by
  by_cases hd : e = d
  · rw [hd, ChanState.flag_raise]
  · rw [c.flag_raise_of_ne hd, h]

/-- The ends of a list of requests stand in the history, the last one first, and touch nothing else but MOTION_DONE. -/
theorem State.endAll_values (res : MotionResult) (rs : List Request) (s : State) :
    (s.endAll res rs).motion = { s.motion with history := rs.foldl (s.putFirst res) s.motion.history } ∧
    (s.endAll res rs).axisH = s.axisH ∧ (s.endAll res rs).axisV = s.axisV ∧ (s.endAll res rs).warp = s.warp ∧
    (s.chan.flag .motionDone = true → (s.endAll res rs).chan.flag .motionDone = true) := by
  induction rs generalizing s with
  | nil => exact ⟨rfl, rfl, rfl, rfl, id⟩
  | cons r rs ih =>
    obtain ⟨motion, axisH, axisV, warp, done⟩ := ih (s.record r res)
    exact ⟨motion, axisH, axisV, warp, fun _ => done (ChanState.flag_raise ..)⟩

/-- The end of the executing request `x` (R157, R161, R164). -/
theorem State.endRequest_values {s : State} {x : Executing} (hx : s.motion.executing = some x) (res : MotionResult) :
    (s.endRequest res).motion = { s.motion with
      executing := none, railTimer := none, blankHold := false, history := s.putFirst res s.motion.history x.req } ∧
    (s.endRequest res).axisH = s.axisH ∧ (s.endRequest res).axisV = s.axisV ∧ (s.endRequest res).warp = s.warp ∧
    (s.endRequest res).chan.flag .motionDone = true := by
  obtain ⟨motion, axisH, axisV, warp, chan, -⟩ := (s.record x.req res).releaseHold_values
  have eq : s.endRequest res = (s.record x.req res).releaseHold.setMotion
      { (s.record x.req res).releaseHold.motion with executing := none, railTimer := none } := by
    rw [State.endRequest, hx]
  rw [eq]
  refine ⟨?_, axisH, axisV, warp, ?_⟩
  · exact congrArg (fun m : Motion => { m with executing := none, railTimer := none }) motion
  · exact (congrArg (ChanState.flag · .motionDone) chan).trans (ChanState.flag_raise ..)

/-! ### Stop requests to the axes of a request (R145, R146, R163) -/

theorem Axis.stopRequest_position (x : Axis) : x.stopRequest.1.position = x.position := by
  cases hs : x.state with
  | approach => rw [Axis.stopRequest, hs]; dsimp only; split <;> rfl
  | seek | release => rw [Axis.stopRequest, hs]; rfl
  | off | idle | moving | stopping => rw [Axis.stopRequest, hs]

/-- The axis as a stop request leaves it where it is in motion or waits for its approach leg. -/
def Axis.stoppedAside (x : Axis) : Axis := if x.busy then x.stopRequest.1 else x

theorem Axis.stoppedAside_position (x : Axis) : x.stoppedAside.position = x.position := by
  unfold Axis.stoppedAside
  split
  · exact x.stopRequest_position
  · rfl

/-- An axis that is neither in motion nor waits has no stop request to obey. -/
theorem Axis.stopRequest_of_not_busy {x : Axis} (h : x.busy = false) : x.stopRequest.1 = x := by
  cases hs : x.state with
  | off | idle => rw [Axis.stopRequest, hs]
  | seek | release | moving | stopping => simp [Axis.busy, Axis.inMotion, hs] at h
  | approach => cases hl : x.leg <;> simp [Axis.busy, Axis.inMotion, Axis.waits, hs, hl] at h

theorem Axis.stoppedAside_cases (x : Axis) : x.StopRequestedTo x.stoppedAside := by
  unfold Axis.stoppedAside
  split
  · exact x.stopRequest_cases
  · rename_i h
    have idle : x.stopRequest.1 = x := Axis.stopRequest_of_not_busy (by simpa using h)
    have asked := x.stopRequest_cases
    rwa [idle] at asked

/-- The stop requests of a request's end reach the axes it has handed work to, and nothing else. -/
theorem State.stopRequestAxes_eq (s : State) (x : Executing) : s.stopRequestAxes x = { s with
    axisH := if x.hWork = .active then s.axisH.stoppedAside else s.axisH
    axisV := if x.vWork = .active then s.axisV.stoppedAside else s.axisV } := by
  have one : ∀ (t : State) (a : AxisId), t.stopAside a = t.setAxis a (t.axis a).stoppedAside := fun t a => by
    unfold State.stopAside Axis.stoppedAside
    split
    · rfl
    · cases a <;> rfl
  unfold State.stopRequestAxes
  by_cases hh : x.hWork = .active <;> by_cases hv : x.vWork = .active <;> simp only [hh, hv, if_true, if_false, one] <;> rfl

/-! ### The queue's part of an entry to TRIPPED (R163) -/

/-- The pending choice after the withdrawal that goes with the end of the request `x`. -/
theorem State.withdrawIfSwitching_eq (s : State) (x : Executing) : s.withdrawIfSwitching x = { s with
    warp := { s.warp with choice :=
      if x.req.phase = .switching ∧ s.warp.choice.any (fun k => decide (k.origin = .recall x.req.tag)) = true then none
      else s.warp.choice } } := by
  have same : s.warp.choice.any (fun k => k.ofRecall x.req.tag) =
    s.warp.choice.any (fun k => decide (k.origin = .recall x.req.tag)) := rfl
  unfold State.withdrawIfSwitching State.withdraw
  rw [same]
  by_cases hp : x.req.phase = .switching
  · by_cases hc : s.warp.choice.any (fun k => decide (k.origin = .recall x.req.tag)) = true
    · rw [if_pos hp, if_pos hc, if_pos ⟨hp, hc⟩]
      rfl
    · rw [if_pos hp, if_neg hc, if_neg fun h => hc h.2]
  · rw [if_neg hp, if_neg fun h => hp h.1]

/-- The end of the executing request `x` at an entry to TRIPPED (R163). -/
def State.abortExecuting (s : State) (x : Executing) : State :=
  ((s.withdrawIfSwitching x).endRequest .abortedTrip).stopRequestAxes x

theorem State.abortMotion_of_none {s : State} (h : s.motion.executing = none) :
    s.abortMotion = s.releaseHold.flushQueue .abortedTrip := by
  rw [State.abortMotion, h]

theorem State.abortMotion_of_some {s : State} {x : Executing} (h : s.motion.executing = some x) :
    s.abortMotion = (s.abortExecuting x).releaseHold.flushQueue .abortedTrip := by
  rw [State.abortMotion, h]
  rfl

theorem State.abortExecuting_values {s : State} {x : Executing} (hx : s.motion.executing = some x) :
    (s.abortExecuting x).motion = { s.motion with
      executing := none, railTimer := none, blankHold := false, history := s.putFirst .abortedTrip s.motion.history x.req } ∧
    (s.abortExecuting x).warp = { s.warp with choice :=
      if x.req.phase = .switching ∧ s.warp.choice.any (fun k => decide (k.origin = .recall x.req.tag)) = true then none
      else s.warp.choice } ∧
    (s.abortExecuting x).chan.flag .motionDone = true ∧
    ∀ a : AxisId, (s.abortExecuting x).axis a = if x.work a = .active then (s.axis a).stoppedAside else s.axis a := by
  have running : (s.withdrawIfSwitching x).motion.executing = some x := by rw [State.withdrawIfSwitching_eq, hx]
  obtain ⟨motion, axisH, axisV, warp, done⟩ := State.endRequest_values running .abortedTrip
  rw [State.withdrawIfSwitching_eq] at motion axisH axisV warp done
  rw [State.abortExecuting, State.stopRequestAxes_eq, State.withdrawIfSwitching_eq]
  refine ⟨motion, warp, done, fun a => ?_⟩
  cases a
  · exact congrArg (fun y : Axis => if x.hWork = .active then y.stoppedAside else y) axisH
  · exact congrArg (fun y : Axis => if x.vWork = .active then y.stoppedAside else y) axisV

/-- What the motion queue makes of state `s` at an entry to TRIPPED. -/
structure State.AbortedFrom (s t : State) : Prop where
  queue : t.motion.queue = []
  executing : t.motion.executing = none
  blankHold : t.motion.blankHold = false
  presets : t.motion.presets = s.motion.presets
  idle : s.motion.executing = none → t.axisH = s.axisH ∧ t.axisV = s.axisV ∧ t.warp = s.warp ∧
    t.motion.history = s.motion.queue.foldl (s.putFirst .abortedTrip) s.motion.history
  busy : ∀ x : Executing, s.motion.executing = some x →
    t.chan.flag .motionDone = true ∧ t.motion.railTimer = none ∧
    t.motion.history = s.motion.queue.foldl (s.putFirst .abortedTrip) (s.putFirst .abortedTrip s.motion.history x.req) ∧
    t.warp = { s.warp with choice :=
      if x.req.phase = .switching ∧ s.warp.choice.any (fun k => decide (k.origin = .recall x.req.tag)) = true then none
      else s.warp.choice } ∧
    ∀ a : AxisId, (x.work a ≠ .active → t.axis a = s.axis a) ∧ (x.work a = .active → (s.axis a).StopRequestedTo (t.axis a))

/-- The blank hold released and the queue flushed: the last two steps of an abort. -/
theorem State.flushHeld_values (s : State) :
    (s.releaseHold.flushQueue .abortedTrip).motion = { s.motion with
      queue := [], blankHold := false, history := s.motion.queue.foldl (s.putFirst .abortedTrip) s.motion.history } ∧
    (s.releaseHold.flushQueue .abortedTrip).axisH = s.axisH ∧ (s.releaseHold.flushQueue .abortedTrip).axisV = s.axisV ∧
    (s.releaseHold.flushQueue .abortedTrip).warp = s.warp ∧
    (s.chan.flag .motionDone = true → (s.releaseHold.flushQueue .abortedTrip).chan.flag .motionDone = true) := by
  obtain ⟨motion, axisH, axisV, warp, chan, -⟩ := s.releaseHold_values
  obtain ⟨motion', axisH', axisV', warp', done'⟩ := s.releaseHold.endAll_values .abortedTrip s.releaseHold.motion.queue
  have entries : s.releaseHold.putFirst .abortedTrip = s.putFirst .abortedTrip :=
    State.putFirst_congr (congrArg Axis.position axisH) (congrArg Axis.position axisV) _
  rw [entries] at motion'
  refine ⟨(congrArg (fun m : Motion => { m with queue := [] }) motion').trans ?_, axisH'.trans axisH, axisV'.trans axisV, warp'.trans warp, fun h => done' (chan ▸ h)⟩
  rw [motion]

/-- An entry to TRIPPED ends the executing request and then the queued ones (R163). -/
theorem State.abortMotion_abortedFrom (s : State) : s.AbortedFrom s.abortMotion := by
  cases hx : s.motion.executing with
  | none =>
    obtain ⟨motion, axisH, axisV, warp, -⟩ := s.flushHeld_values
    rw [State.abortMotion_of_none hx]
    exact ⟨by rw [motion], by rw [motion, hx], by rw [motion], by rw [motion], fun _ => ⟨axisH, axisV, warp, by rw [motion]⟩,
      fun x h => by rw [hx] at h; cases h⟩
  | some x =>
    obtain ⟨motion, warp, done, axes⟩ := State.abortExecuting_values hx
    obtain ⟨motion', axisH', axisV', warp', done'⟩ := (s.abortExecuting x).flushHeld_values
    have stands : ∀ a, ((s.abortExecuting x).axis a).position = (s.axis a).position := fun a => by
      rw [axes a]
      split
      · exact (s.axis a).stoppedAside_position
      · rfl
    have entries : (s.abortExecuting x).putFirst .abortedTrip = s.putFirst .abortedTrip :=
      State.putFirst_congr (stands .h) (stands .v) _
    rw [motion, entries] at motion'
    rw [State.abortMotion_of_some hx]
    refine ⟨by rw [motion'], by rw [motion'], by rw [motion'], by rw [motion'], fun h => (by rw [hx] at h; cases h), fun y hy => ?_⟩
    obtain rfl : x = y := Option.some.inj (hx.symm.trans hy)
    refine ⟨done' done, by rw [motion'], by rw [motion'], warp'.trans warp, fun a => ?_⟩
    have axis : ((s.abortExecuting x).releaseHold.flushQueue .abortedTrip).axis a =
        if x.work a = .active then (s.axis a).stoppedAside else s.axis a := by
      rw [← axes a]
      cases a
      · exact axisH'
      · exact axisV'
    rw [axis]
    exact ⟨fun h => if_neg h, fun h => by rw [if_pos h]; exact (s.axis a).stoppedAside_cases⟩

end Sys2Proof.Machine
end

section
/-! PROOF. O53: the four ways into TRIPPED. -/

namespace Sys2Proof.Machine

/-! ### A trip (R117, R121, R163) -/

/-- LIGHT_EN is no work of the motion queue: holds and releases move the level only (R56, R57). -/
theorem lightEn_closed (b : Bool) : QueueClosed (fun s => s.light.lightEn = b) where
  axis _ a _ h := by cases a <;> exact h
  motion _ _ _ _ h := h
  done _ h := h
  endstop _ h := h
  homeFail _ h := h
  unhold s h := s.releaseHold_values.2.2.2.2.2.trans h
  hold s j h := by
    unfold State.takeHold
    split
    · split
      · exact (Light.reform_lightEn _).trans h
      · exact h
    all_goals exact h
  place _ _ _ _ h := h
  unplace _ h := h

/-- Two states with the same motion requests, axes and pending choice, as far as a trip reads them. -/
structure State.SameWork (s t : State) : Prop where
  queue : t.motion.queue = s.motion.queue
  executing : t.motion.executing = s.motion.executing
  history : t.motion.history = s.motion.history
  presets : t.motion.presets = s.motion.presets
  axisH : t.axisH = s.axisH
  axisV : t.axisV = s.axisV
  warp : t.warp = s.warp

theorem State.SameWork.trans {s t u : State} (h : s.SameWork t) (k : t.SameWork u) : s.SameWork u :=
  ⟨k.queue.trans h.queue, k.executing.trans h.executing, k.history.trans h.history, k.presets.trans h.presets,
    k.axisH.trans h.axisH, k.axisV.trans h.axisV, k.warp.trans h.warp⟩

theorem State.SameWork.of_eq {s t : State} (motion : t.motion = s.motion) (axisH : t.axisH = s.axisH) (axisV : t.axisV = s.axisV)
    (warp : t.warp = s.warp) : s.SameWork t :=
  ⟨congrArg Motion.queue motion, congrArg Motion.executing motion, congrArg Motion.history motion,
    congrArg Motion.presets motion, axisH, axisV, warp⟩

/-- The hand-offs of a departure leave the motion requests and LIGHT_EN alone (R117). -/
theorem State.leave_sameWork (s : State) (old : OpState) :
    s.SameWork (s.leave old) ∧ (s.leave old).light.lightEn = s.light.lightEn := by
  cases old with
  | lit =>
    obtain ⟨motion, axisH, axisV, warp, -, lightEn⟩ := s.releaseHold_values
    exact ⟨⟨(congrArg Motion.queue motion :), (congrArg Motion.executing motion :), (congrArg Motion.history motion :),
      (congrArg Motion.presets motion :), axisH, axisV, warp⟩, lightEn⟩
  | standby => exact ⟨.of_eq rfl rfl rfl rfl, rfl⟩
  | cooldown => exact ⟨.of_eq rfl rfl rfl rfl, rfl⟩
  | tripped => exact ⟨.of_eq rfl rfl rfl rfl, rfl⟩

theorem State.AbortedFrom.of_sameWork {s u t : State} (w : s.SameWork u) (h : u.AbortedFrom t) : s.AbortedFrom t := by
  obtain ⟨queue, executing, history, presets, axisH, axisV, warp⟩ := w
  have entries : u.putFirst .abortedTrip = s.putFirst .abortedTrip :=
    State.putFirst_congr (congrArg Axis.position axisH) (congrArg Axis.position axisV) _
  have axes : ∀ a, u.axis a = s.axis a := fun a => by
    cases a
    · exact axisH
    · exact axisV
  refine ⟨h.queue, h.executing, h.blankHold, h.presets.trans presets, fun hs => ?_, fun x hx => ?_⟩
  · have idle := h.idle (executing.trans hs)
    rwa [axisH, axisV, warp, queue, history, entries] at idle
  · have busy := h.busy x (executing.trans hx)
    simp only [axes] at busy
    rwa [warp, queue, history, entries] at busy

/-- What a trip makes of state `s`. -/
structure State.TrippedFrom (s t : State) : Prop where
  op : t.ctl.op = .tripped
  flag : t.chan.flag .trip = true
  lightEn : t.light.lightEn = false
  aborted : s.AbortedFrom t

theorem State.TrippedFrom.of_eq {s u t : State} (h : u.TrippedFrom t) (motion : u.motion = s.motion) (axisH : u.axisH = s.axisH)
    (axisV : u.axisV = s.axisV) (warp : u.warp = s.warp) : s.TrippedFrom t := by
  obtain ⟨op, flag, lightEn, aborted⟩ := h
  exact ⟨op, flag, lightEn, aborted.of_sameWork (.of_eq motion axisH axisV warp)⟩

/-- What comes after a trip and leaves these blocks alone leaves the trip's account as it is. -/
theorem State.TrippedFrom.after {s t u : State} (h : s.TrippedFrom t) (op : u.ctl.op = t.ctl.op)
    (flags : u.chan.flags = t.chan.flags) (light : u.light = t.light) (motion : u.motion = t.motion)
    (axisH : u.axisH = t.axisH) (axisV : u.axisV = t.axisV) (warp : u.warp = t.warp) : s.TrippedFrom u := by
  have flag : ∀ e, u.chan.flag e = t.chan.flag e := fun e => congrArg (BitVec.getLsbD · e.bit) flags
  have axes : ∀ a, u.axis a = t.axis a := fun a => by
    cases a
    · exact axisH
    · exact axisV
  obtain ⟨tripped, raised, dark, queue, executing, blankHold, presets, idle, busy⟩ := h
  refine ⟨op.trans tripped, (flag _).trans raised, (congrArg Light.lightEn light).trans dark, ?_⟩
  rw [← motion] at queue executing blankHold presets
  refine ⟨queue, executing, blankHold, presets, ?_, ?_⟩
  · rwa [axisH, axisV, warp, motion]
  · simp only [axes, flag]
    rwa [warp, motion]

/-- A trip from any state but TRIPPED. -/
theorem State.trip_trippedFrom {s : State} (h : s.ctl.op ≠ .tripped) (cause : TripCause) : s.TrippedFrom (s.trip cause) := by
  let w := (s.setCtl { s.ctl with lastTrip := cause }).writeOp .tripped
  let v := (w.leave s.ctl.op).fullFans
  have eq : s.trip cause = v.abortMotion.raise .trip := by rw [State.trip, if_neg h]; rfl
  have entered : s.SameWork w ∧ w.light.lightEn = false := ⟨.of_eq rfl rfl rfl rfl, Light.reform_lightEn _⟩
  have left := w.leave_sameWork s.ctl.op
  have same : s.SameWork v := (entered.1.trans left.1).trans (.of_eq rfl rfl rfl rfl)
  obtain ⟨-, -, ctl⟩ := (s.trip_cases cause).resolve_left fun k => h k.1
  have ⟨aborted, dark⟩ : s.AbortedFrom v.abortMotion ∧ v.abortMotion.light.lightEn = false :=
    ⟨v.abortMotion_abortedFrom.of_sameWork same, (lightEn_closed false).abortMotion (left.2.trans entered.2)⟩
  refine ⟨congrArg StateCtl.op ctl, ?_, ?_, ?_⟩ <;> rw [eq]
  · exact ChanState.flag_raise ..
  · exact dark
  · obtain ⟨queue, executing, blankHold, presets, idle, busy⟩ := aborted
    refine ⟨queue, executing, blankHold, presets, idle, fun x hx => ?_⟩
    obtain ⟨done, rest⟩ := busy x hx
    exact ⟨ChanState.flag_raise_mono done _, rest⟩

theorem State.whenLive_of_live {s : State} (h : s.resetAsserted = false) (f : State → State) : s.whenLive f = f s :=
  if_pos (by rw [State.live, h]; rfl)

/-! ### The comparator (R86, R87) -/

/-- A released comparator that sees a code at its threshold or below trips the part. -/
theorem State.judgeComparator_trippedFrom {s : State} (op : s.ctl.op ≠ .tripped) (released : s.temps.comparator.state = .released)
    (low : s.temps.watchedCode ≤ s.temps.comparator.threshold) : s.TrippedFrom s.judgeComparator := by
  rcases s.judgeComparator_cases with ⟨-, -, e⟩ | ⟨tripped, -, -⟩ | ⟨⟨-, high⟩ | ⟨tripped, -⟩, -⟩
  · rw [e]
    exact (State.trip_trippedFrom (by exact op) .comparator).of_eq rfl rfl rfl rfl
  · rw [released] at tripped
    cases tripped
  · exact absurd low (Nat.not_le.mpr high)
  · rw [released] at tripped
    cases tripped

theorem Temps.watchedCode_setPinCode (s : State) (code : BitVec 12) :
    (s.setPinCode s.temps.comparator.channel code).temps.watchedCode = code.toNat := by
  simp [State.setPinCode, State.setTemps, Temps.watchedCode]

theorem comparatorTrip_trippedFrom {s : State} {code : BitVec 12} (live : s.resetAsserted = false) (op : s.ctl.op ≠ .tripped)
    (released : s.temps.comparator.state = .released) (low : code.toNat ≤ s.temps.comparator.threshold) :
    ∃ t, exec (.comparatorTrip ⟨s.temps.comparator.channel, code⟩) s = .next t ∧ s.TrippedFrom t := by
  let u := s.setPinCode s.temps.comparator.channel code
  have shown : exec (.comparatorTrip ⟨s.temps.comparator.channel, code⟩) s = .next u.judgeComparator :=
    congrArg _ (State.whenLive_of_live (s := u) live _)
  have watched : u.temps.watchedCode ≤ u.temps.comparator.threshold := (Temps.watchedCode_setPinCode s code).trans_le low
  exact ⟨_, shown, (State.judgeComparator_trippedFrom (s := u) op released watched).of_eq rfl rfl rfl rfl⟩

theorem Channel.ofCode_code {b : Byte} {ch : Channel} (h : b.toNat = ch.code) : Channel.ofCode b = some ch := by
  rw [Channel.ofCode, h]
  cases ch <;> rfl

theorem setTripComparator_trippedFrom {s : State} {tag channel : Byte} {threshold : BitVec 16} {ch : Channel} (takes : s.takes)
    (op : s.ctl.op ≠ .tripped) (hch : channel.toNat = ch.code) (range : threshold.toNat ≤ 4031)
    (low : (s.temps.pinCode[ch.idx]).toNat ≤ threshold.toNat) :
    ∃ t, exec (.setTripComparator tag channel threshold) s = .next t ∧ s.TrippedFrom t := by
  let u := s.countTaken.setComparator { channel := ch, threshold := threshold.toNat, state := .released }
  have judged : setTripComparator channel threshold s.countTaken = (u.judgeComparator, .ok) := by
    simp only [setTripComparator, Channel.ofCode_code hch, if_pos range]
    exact if_neg op
  have tripped : u.TrippedFrom u.judgeComparator := State.judgeComparator_trippedFrom op rfl low
  have taken : exec (.setTripComparator tag channel threshold) s = .next (u.judgeComparator.addEntry tag .ok) :=
    congrArg _ (State.takePacket_work takes tag judged)
  have from_s : s.TrippedFrom u.judgeComparator := tripped.of_eq rfl rfl rfl rfl
  exact ⟨_, taken, from_s.after rfl rfl rfl rfl rfl rfl rfl⟩

/-! ### The loss of F0 (R110, R111, R122) -/

theorem stallTimerExpiry_trippedFrom {s : State} (live : s.resetAsserted = false) (lit : s.ctl.op = .lit)
    (turning : (s.fan .f0).state = .running ∨ (s.fan .f0).state = .kick) (retry : (s.fan .f0).retry = 3) :
    ∃ t, exec (.stallTimerExpiry .f0) s = .next t ∧ s.TrippedFrom t := by
  let u := (s.raise .fanFault).setFan .f0 ((s.raise .fanFault).fan .f0).enterFailed
  have stalled : s.stallExpired .f0 = s.stall .f0 := by
    rcases turning with h | h <;> rw [State.stallExpired, h]
  have lost : s.stall .f0 = u.trip .fanLoss := by
    rw [State.stall, retry, if_neg (Nat.lt_irrefl 3)]
    exact if_pos lit
  have shown : exec (.stallTimerExpiry .f0) s = .next (u.trip .fanLoss) := by
    rw [← lost, ← stalled]
    exact congrArg _ (State.whenLive_of_live live _)
  have op : u.ctl.op ≠ .tripped := fun h => by cases lit.symm.trans h
  exact ⟨_, shown, (State.trip_trippedFrom op .fanLoss).of_eq rfl rfl rfl rfl⟩

/-! ### A zone's temperature (R93, R102) -/

theorem State.judgeDerate_zones (s : State) : s.judgeDerate.zoneCtl.zones = s.zoneCtl.zones := by
  unfold State.judgeDerate
  split
  · simp [State.setCeiling]
  · split <;> rfl

theorem Zone.formDemand_temp (x : Zone) (op : OpState) (sat : Bool) (load : Nat) :
    (x.formDemand op sat load).temp = x.temp ∧ (x.formDemand op sat load).trip = x.trip := by
  unfold Zone.formDemand
  split
  · exact ⟨rfl, rfl⟩
  · split <;> exact ⟨rfl, rfl⟩

/-- After the zone controller's part of a tick a zone's temperature is the highest of its readings (R93). -/
theorem State.zoneTick_zone (s : State) (z : ZoneId) :
    (s.zoneTick.zone z).temp = (s.zoneReadings z).max? ∧ (s.zoneTick.zone z).trip = (s.zone z).trip := by
  let u := s.copyMode.senseZones
  have formed : s.zoneTick.zone z = u.formDemands.zone z :=
    congrArg (fun zones : Vector Zone 3 => zones[z.idx]) (State.judgeDerate_zones _)
  have demanded : u.formDemands.zone z = (u.zone z).formDemand u.ctl.op (u.saturated (u.zone z).mask) (u.load (u.zone z).basis) :=
    ZoneCtl.each_zones ..
  have sensed : u.zone z = (s.zone z).sense (s.zoneReadings z) := by
    simp only [u, State.senseZones, State.zone, State.raiseIf_fields, State.setZoneCtl_fields, ZoneCtl.each_zones]
    rfl
  obtain ⟨temp, trip⟩ := (u.zone z).formDemand_temp u.ctl.op (u.saturated (u.zone z).mask) (u.load (u.zone z).basis)
  rw [formed, demanded, temp, trip, sensed]
  exact ⟨rfl, rfl⟩

/-- The zone controller's part of a tick touches neither the motion requests nor the operating state. -/
theorem State.zoneTick_values (s : State) : s.zoneTick.motion = s.motion ∧ s.zoneTick.axisH = s.axisH ∧
    s.zoneTick.axisV = s.axisV ∧ s.zoneTick.ctl = s.ctl := by
  have derate : ∀ t : State, t.judgeDerate.motion = t.motion ∧ t.judgeDerate.axisH = t.axisH ∧
      t.judgeDerate.axisV = t.axisV ∧ t.judgeDerate.ctl = t.ctl := fun t => by
    unfold State.judgeDerate
    split
    · simp [State.setCeiling]
    · split <;> exact ⟨rfl, rfl, rfl, rfl⟩
  simp [State.zoneTick, State.reformThermal, derate, State.formDemands, State.senseZones, State.copyMode]

/-- An OK source of a zone that stands at its trip threshold or above trips the zone at the next tick (R93, R102). -/
theorem State.zoneTick_zoneTrips {s : State} {z : ZoneId} {n : Fin 12} {T : Int} (zone : (s.source n).zone = some z)
    (ok : (s.source n).state = .ok) (good : (s.source n).lastGood = some T) (hot : (s.zone z).trip ≤ T) :
    s.zoneTick.zoneTrips z = true := by
  have reading : T ∈ s.zoneReadings z :=
    List.mem_filterMap.2 ⟨s.source n, Vector.mem_toList_iff.2 (Vector.getElem_mem n.isLt), by rw [if_pos ⟨zone, ok⟩, good]⟩
  obtain ⟨temp, trip⟩ := s.zoneTick_zone z
  cases hm : (s.zoneReadings z).max? with
  | none =>
    rw [List.max?_eq_none_iff] at hm
    rw [hm] at reading
    cases reading
  | some m =>
    have highest : T ≤ m := (List.max?_eq_some_iff.1 hm).2 T reading
    rw [State.zoneTrips, temp, hm, trip]
    exact decide_eq_true (hot.trans highest)

theorem State.judgeDigital_of_tripped {s : State} (h : s.ctl.op = .tripped) (zs : List ZoneId) : s.judgeDigital zs = s := by
  induction zs with
  | nil => rfl
  | cons z zs ih =>
    have none : (if s.zoneTrips z then s.trip (.zone z) else s) = s := by
      split
      · rw [State.trip, if_pos h]
      · rfl
    rw [State.judgeDigital, none, ih]

/-- A tripping zone among the zones judged trips the part; the first one does, and the others change nothing. -/
theorem State.judgeDigital_trippedFrom {s : State} {z : ZoneId} {zs : List ZoneId} (op : s.ctl.op ≠ .tripped)
    (trips : s.zoneTrips z = true) (mem : z ∈ zs) : s.TrippedFrom (s.judgeDigital zs) := by
  induction zs with
  | nil => cases mem
  | cons y ys ih =>
    rw [State.judgeDigital]
    split
    · have tripped := State.trip_trippedFrom op (.zone y)
      rwa [State.judgeDigital_of_tripped tripped.op]
    · rename_i other
      refine ih ((List.mem_cons.1 mem).resolve_left fun same => other ?_)
      rw [← same, trips]

/-- With nothing executing and nothing queued the motion queue has nothing to go on with. -/
theorem State.proceed_of_idle {s : State} (executing : s.motion.executing = none) (queue : s.motion.queue = []) : s.proceed = s := by
  have stays : s.carryOn carryFuel = s := by rw [carryFuel, State.carryOn, executing]
  rw [State.proceed, stays, State.pump, queue]
  rfl

/-- After a trip the rest of the control tick, from the fan drivers on, leaves the trip's account as it is. -/
theorem State.TrippedFrom.restOfTick {s t : State} (h : s.TrippedFrom t) :
    s.TrippedFrom t.fanTick.sourceTick.judgeRunOn.proceed := by
  have fans : t.fanTick = t.handDemands.fullFans := if_pos h.op
  have noRunOn : t.handDemands.fullFans.sourceTick.judgeRunOn = t.handDemands.fullFans.sourceTick :=
    if_neg fun k => by cases h.op.symm.trans k.1
  have still : t.handDemands.fullFans.sourceTick.proceed = t.handDemands.fullFans.sourceTick :=
    State.proceed_of_idle h.aborted.executing h.aborted.queue
  rw [fans, noRunOn, still]
  exact h.after rfl rfl rfl rfl rfl rfl rfl

theorem controlTick_trippedFrom {s : State} {z : ZoneId} {n : Fin 12} {T : Int} (live : s.resetAsserted = false)
    (op : s.ctl.op ≠ .tripped) (zone : (s.source n).zone = some z) (ok : (s.source n).state = .ok)
    (good : (s.source n).lastGood = some T) (hot : (s.zone z).trip ≤ T) :
    ∃ t, exec .controlTick s = .next t ∧ s.TrippedFrom t := by
  obtain ⟨motion, axisH, axisV, ctl⟩ := s.zoneTick_values
  have op' : s.zoneTick.ctl.op ≠ .tripped := by rwa [ctl]
  have listed : z ∈ ZoneId.all := by cases z <;> decide
  have judged : s.zoneTick.TrippedFrom (s.zoneTick.judgeDigital ZoneId.all) :=
    State.judgeDigital_trippedFrom op' (State.zoneTick_zoneTrips zone ok good hot) listed
  have tripped := judged.of_eq motion axisH axisV s.zoneTick_warp.1
  have shown : exec .controlTick s = .next (s.whenLive State.controlTick) := rfl
  rw [State.whenLive_of_live live, State.controlTick] at shown
  refine ⟨_, shown, ?_⟩
  exact tripped.restOfTick

/-- Settles O53: each of the four causes takes the part to TRIPPED by one trip, from a state whose motion requests, axes and
pending choice are those of `s`; what the trip then does to the requests is the queue's abort (R163). -/
theorem tripAbortsMotionRequests : Obligations.TripAbortsMotionRequests := by
  intro s c ended aborted live op cause hended haborted
  have ⟨t, shown, tripped⟩ : ∃ t, exec c s = .next t ∧ s.TrippedFrom t := by
    rcases cause with ⟨code, rfl, released, low⟩ | ⟨tag, channel, threshold, ch, takes, rfl, hch, range, low⟩ |
      ⟨z, n, T, rfl, zone, ok, good, hot⟩ | ⟨rfl, lit, turning, retry⟩
    · exact comparatorTrip_trippedFrom live op released low
    · exact setTripComparator_trippedFrom takes op hch range low
    · exact controlTick_trippedFrom live op zone ok good hot
    · exact stallTimerExpiry_trippedFrom live lit turning retry
  subst hended haborted
  obtain ⟨op', flag, lightEn, queue, executing, blankHold, presets, idle, busy⟩ := tripped
  exact ⟨t, shown, op', flag, lightEn, queue, executing, blankHold, presets, idle, busy⟩

end Sys2Proof.Machine
end

section
/-! PROOF. O23 and O24: WRITE_GRID and COMMIT_GRID. -/

namespace Sys2Proof.Machine

/-! ### Points and flags that a write names (R33) -/

/-- Points `k` to `k + qs.length - 1` hold the carried points; every other keeps its value (R33). -/
theorem get_storePoints_eq (pts : Vector Point 170) (k : Nat) (qs : List RawPoint) (j : Fin 170) :
    (storePoints pts k qs).get j = if j.val < k then pts.get j else (qs[j.val - k]?.map pointOf).getD (pts.get j) := by
  induction qs generalizing pts k with
  | nil => simp [storePoints]
  | cons q qs ih =>
    rw [storePoints, ih, Vector.get_eq_getElem, Vector.get_eq_getElem, Vector.getElem_setIfInBounds]
    rcases Nat.lt_trichotomy j.val k with h | h | h
    · simp [h, h.ne', Nat.lt_succ_of_lt h]
    · simp [h]
    · have hsub : j.val - k = j.val - (k + 1) + 1 := by omega
      simp [h.ne, Nat.not_lt.2 h, Nat.not_lt.2 h.le, hsub]

/-- Flags `k` to `k + qs.length - 1` are set; every other keeps its value (R33). -/
theorem get_markWritten_eq (w : Vector Bool 170) (k : Nat) (qs : List RawPoint) (j : Fin 170) :
    (markWritten w k qs).get j = if k ≤ j.val ∧ j.val < k + qs.length then true else w.get j := by
  induction qs generalizing w k with
  | nil => rw [markWritten, if_neg (by simp)]
  | cons q qs ih =>
    rw [markWritten, ih, Vector.get_eq_getElem, Vector.get_eq_getElem, Vector.getElem_setIfInBounds, List.length_cons]
    rcases eq_or_ne k j.val with h | h
    · simp [h]
    · rw [if_neg h]
      exact if_congr (by omega) rfl rfl

/-- A point that the write carries is stored and marked written (R33). -/
theorem Slot.write_named (x : Slot) {first : Nat} {points : List RawPoint} {k : Fin 170} {q : RawPoint}
    (hk : first ≤ k.val) (hq : points[k.val - first]? = some q) :
    (x.write first points).points.get k = pointOf q ∧ (x.write first points).written.get k = true := by
  obtain ⟨hlt, -⟩ := List.getElem?_eq_some_iff.1 hq
  refine ⟨(get_storePoints_eq _ _ _ k).trans ?_, (get_markWritten_eq _ _ _ k).trans ?_⟩
  · rw [if_neg (Nat.not_lt.2 hk), hq, Option.map_some, Option.getD_some]
  · rw [if_pos ⟨hk, by omega⟩]

/-- A point that the write does not name keeps its value and its flag (R33). -/
theorem Slot.write_unnamed (x : Slot) {first : Nat} {points : List RawPoint} {k : Fin 170}
    (hk : k.val < first ∨ first + points.length ≤ k.val) :
    (x.write first points).points.get k = x.points.get k ∧ (x.write first points).written.get k = x.written.get k := by
  refine ⟨(get_storePoints_eq _ _ _ k).trans ?_, (get_markWritten_eq _ _ _ k).trans (if_neg (by omega))⟩
  rcases hk with hk | hk
  · rw [if_pos hk]
  · rw [List.getElem?_eq_none (by omega), Option.map_none, Option.getD_none, ite_self]

/-! ### WRITE_GRID as its owner takes it (R32) -/

theorem pointInRange_iff (q : RawPoint) : pointInRange q = true ↔
    -65536 ≤ q.x.toInt ∧ q.x.toInt ≤ 65535 ∧ -65536 ≤ q.y.toInt ∧ q.y.toInt ≤ 65535 := by
  simp [pointInRange, within, and_assoc]

theorem writeGridInRange_iff (first count : Nat) (points : List RawPoint) : writeGridInRange first count points = true ↔
    1 ≤ count ∧ count ≤ 8 ∧ first + count ≤ 170 ∧
      ∀ q ∈ points, -65536 ≤ q.x.toInt ∧ q.x.toInt ≤ 65535 ∧ -65536 ≤ q.y.toInt ∧ q.y.toInt ≤ 65535 := by
  simp only [writeGridInRange, Bool.and_eq_true, decide_eq_true_eq, List.all_eq_true, pointInRange_iff, and_assoc]

theorem exec_writeGrid_of_length {count : Byte} {points : List RawPoint} (h : points.length = count.toNat)
    (tag slot first : Byte) (s : State) :
    exec (.writeGrid tag slot first count points) s = .next (s.takePacket tag (writeGrid slot first count points)) :=
  congrArg (fun run => Host.Outcome.next (s.takePacket tag run)) (if_pos h)

theorem exec_writeGrid_of_length_ne {count : Byte} {points : List RawPoint} (h : points.length ≠ count.toNat)
    (tag slot first : Byte) (s : State) :
    exec (.writeGrid tag slot first count points) s = .next (s.takePacket tag (answer .badLength)) :=
  congrArg (fun run => Host.Outcome.next (s.takePacket tag run)) (if_neg h)

theorem writeGrid_of_not_inRange {slot first count : Byte} {points : List RawPoint}
    (h : 4 ≤ slot.toNat ∨ writeGridInRange first.toNat count.toNat points = false) (s : State) :
    writeGrid slot first count points s = answer .refusedRange s := by
  rw [writeGrid]
  cases hi : index 4 slot with
  | none => rfl
  | some n =>
    have hr : writeGridInRange first.toNat count.toNat points = false :=
      h.resolve_left fun hle => by simp [index_of_le hle] at hi
    simp only [hr, Bool.not_false, if_true]

theorem writeGrid_of_inRange {slot first count : Byte} {points : List RawPoint} {n : Fin 4} (hi : index 4 slot = some n)
    (hr : writeGridInRange first.toNat count.toNat points = true) (s : State) : writeGrid slot first count points s =
      if s.isProtected n then answer .refusedProtected s
      else (s.setSlot n ((s.slot n).write first.toNat points), .okWith ((s.slot n).write first.toNat points).progress) := by
  simp only [writeGrid, hi, hr, Bool.not_true, Bool.false_eq_true, if_false]

/-- Settles O23: the three refusals leave their answer alone, and a write that is taken leaves the written slot, whose
points and flags are those of `Slot.write`. -/
theorem writeGridStoresAllOrNothing : Obligations.WriteGridStoresAllOrNothing := by
  intro s tag slot first count points ht
  refine ⟨fun hl => ?_, fun hl => ⟨fun hout => ?_, fun n hn hpos h8 h170 hpts => ?_⟩⟩
  · rw [exec_writeGrid_of_length_ne hl]
    exact congrArg _ (State.takePacket_answer ht tag rfl)
  · rw [exec_writeGrid_of_length hl]
    refine congrArg _ (State.takePacket_answer ht tag (writeGrid_of_not_inRange ?_ _))
    refine hout.imp_right fun hout => Bool.eq_false_iff.2 fun hin => ?_
    obtain ⟨hpos, h8, h170, hpts⟩ := (writeGridInRange_iff _ _ _).1 hin
    rcases hout with h | h | h | ⟨q, hq, h⟩
    · omega
    · omega
    · omega
    · have := hpts q hq
      omega
  · rw [exec_writeGrid_of_length hl]
    have hrun := writeGrid_of_inRange (index_of_eq n hn) ((writeGridInRange_iff _ _ _).2 ⟨hpos, h8, h170, hpts⟩) s.countTaken
    have hprot : s.countTaken.isProtected n = true ↔ s.warp.active = some n ∨ ∃ c, s.warp.choice = some c ∧ c.slot = some n :=
      s.countTaken.isProtected_iff n
    refine ⟨fun hp => ?_, fun ha hc => ?_⟩
    · exact congrArg _ (State.takePacket_answer ht tag (hrun.trans (if_pos (hprot.2 hp))))
    · have hfree : ¬ s.countTaken.isProtected n = true := fun hp =>
        (hprot.1 hp).elim ha fun ⟨c, hc', h⟩ => hc c hc' h
      refine ⟨(s.slot n).write first.toNat points, _, ?_, Slot.progress_reports _, rfl, rfl, fun k =>
        ⟨fun q hk hq => Slot.write_named _ hk hq, fun hk => Slot.write_unnamed _ (hl ▸ hk)⟩⟩
      exact congrArg _ (State.takePacket_work ht tag (hrun.trans (if_neg hfree)))

/-! ### Points as a commit leaves them (R34) -/

theorem Slot.full_iff (x : Slot) : x.full = true ↔ ∀ k : Fin 170, x.written.get k = true := by
  refine ⟨fun h => Slot.written_of_full h, fun h => List.all_eq_true.2 fun b hb => ?_⟩
  obtain ⟨k, hk, rfl⟩ := Vector.mem_iff_getElem.1 (Vector.mem_toList_iff.1 hb)
  exact h ⟨k, hk⟩

theorem Slot.commit_written (x : Slot) : x.commit.written = x.written := by simp only [Slot.commit]

theorem Slot.commit_get (x : Slot) (k : Fin 170) : x.commit.points.get k = commitPoint k.val (x.points.get k) := by
  simp only [Slot.commit, Slot.committedPoints, Vector.get_eq_getElem, Vector.getElem_ofFn]

/-- The nearest Y whose displacement from grid row `j` lies in the window (R34). -/
theorem clampY_eq (j : Nat) (y : Int) : clampY j y =
    if y - 3840 * (j : Int) < -2544 then 3840 * (j : Int) - 2544
    else if 2559 < y - 3840 * (j : Int) then 3840 * (j : Int) + 2559 else y := by
  simp only [clampY, clampInt, Config.minDisplacement, Config.maxDisplacement]
  split_ifs <;> omega

/-- The clamp count is the number of points whose Y differs after the commit (R34). -/
theorem Slot.changedCount_eq (x : Slot) :
    x.changedCount = (List.finRange 170).countP fun k => (x.commit.points.get k).y ≠ (x.points.get k).y := by
  rw [Slot.changedCount, ← List.map_coe_finRange_eq_range, List.countP_map]
  refine List.countP_congr fun k _ => ?_
  have hget : x.points.getD k.val ⟨0, 0⟩ = x.points.get k := by
    simp [Vector.getD, Vector.get_eq_getElem]
  rw [Function.comp_apply, hget, commitChanges, Slot.commit_get]

/-! ### COMMIT_GRID as its owner takes it (R34) -/

theorem commitGrid_of_le {slot : Byte} (h : 4 ≤ slot.toNat) (s : State) : commitGrid slot s = answer .refusedRange s := by
  simp only [commitGrid, index_of_le h]

theorem commitGrid_of_not_loading {slot : Byte} {n : Fin 4} (hi : index 4 slot = some n) {s : State}
    (hs : (s.slot n).state ≠ .loading) : commitGrid slot s = answer .refusedState s := by
  simp only [commitGrid, hi, if_pos hs]

theorem commitGrid_of_loading {slot : Byte} {n : Fin 4} (hi : index 4 slot = some n) {s : State}
    (hs : (s.slot n).state = .loading) : commitGrid slot s =
      if (s.slot n).full then (s.setSlot n (s.slot n).commit,
        { result := if (s.slot n).changedCount = 0 then .ok else .okClamped, data := byte (s.slot n).changedCount })
      else (s, { result := .refusedIncomplete, data := (s.slot n).progress }) := by
  simp only [commitGrid, hi, hs, ne_eq, not_true_eq_false, if_false]
  cases (s.slot n).full <;> rfl

/-- Settles O24: the three refusals leave their answer alone, and a commit that is taken leaves the committed slot, whose
points are those of `commitPoint`. -/
theorem commitGridClampsIntoWindow : Obligations.CommitGridClampsIntoWindow := by
  refine fun s tag slot ht => ⟨fun hle => ?_, fun n hn => ⟨fun hs => ?_, fun hs hgap => ?_, fun hs hall => ?_⟩⟩
  · exact congrArg _ (State.takePacket_answer ht tag (commitGrid_of_le hle _))
  · exact congrArg _ (State.takePacket_answer ht tag (commitGrid_of_not_loading (index_of_eq n hn) hs))
  · obtain ⟨k, hk⟩ := hgap
    have hfull : ¬ (s.slot n).full = true := fun hf => by simp [Slot.written_of_full hf k] at hk
    have hrun := commitGrid_of_loading (s := s.countTaken) (index_of_eq n hn) hs
    exact ⟨_, (s.slot n).progress_reports, congrArg _ (State.takePacket_same ht tag (hrun.trans (if_neg hfull)))⟩
  · have hrun := commitGrid_of_loading (s := s.countTaken) (index_of_eq n hn) hs
    refine ⟨(s.slot n).commit, ?_, rfl, (s.slot n).commit_written, (s.slot n).changedCount_eq, fun k j hj => ?_⟩
    · exact congrArg _ (State.takePacket_work ht tag (hrun.trans (if_pos ((Slot.full_iff _).2 hall))))
    · subst hj
      rw [Slot.commit_get]
      exact ⟨rfl, clampY_eq _ _⟩

end Sys2Proof.Machine
end

section
/-! PROOF. O55: the light drive's invariant, taken apart into what every write of a limiter brings about in the light
record and what the limiters themselves are; and what leaves all that it reads as it is. -/

namespace Sys2Proof.Machine

/-! ### The invariant's two parts (R54 to R58) -/

/-- The light record as every write of a limiter leaves it (R55, R58, R61). -/
structure Light.Formed (l : Light) : Prop where
  target : l.target = l.lowest
  governing : l.governing = l.governor
  safety : l.applied ≤ l.safety
  motion : l.applied ≤ l.motion
  buffer : l.pwmBuffer = l.applied

/-- The limiters, the ramp step and the blank level fit the operating state, the thermal ceilings and the blank hold
(R52 to R57, R60). -/
structure State.LimitersFit (s : State) : Prop where
  safety : s.light.safety = if s.ctl.op = .lit then 4095 else 0
  lit : s.light.lightEn = true → s.ctl.op = .lit
  enabled : s.resetAsserted = false → s.ctl.op = .lit → s.light.lightEn = true
  thermal : s.light.thermal = s.thermalCeiling
  held : s.light.motionHeld = s.motion.blankHold
  free : s.light.motionHeld = false → s.light.motion = 4095
  user : s.light.user ≤ 4095
  motion : s.light.motion ≤ 4095
  blankLevel : s.light.blankLevel ≤ 4095
  rampStep : 1 ≤ s.light.rampStep ∧ s.light.rampStep ≤ 4095
  ceiling : s.zoneCtl.ceiling ≤ 4095

theorem State.thermalCeiling_le (s : State) : s.thermalCeiling ≤ s.zoneCtl.ceiling := by
  simp only [State.thermalCeiling]
  split <;> split <;> omega

/-- The invariant is both parts, with a blank hold in LIT alone. -/
theorem State.lightOk_iff (s : State) :
    s.LightOk ↔ s.light.Formed ∧ s.LimitersFit ∧ (s.motion.blankHold = true → s.ctl.op = .lit) := by
  constructor
  · rintro ⟨target, governing, onSafety, onMotion, buffer, safety, lit, enabled, thermal, held, free, holdLit,
      ⟨user, -, motion, -⟩, blankLevel, low, high, ceiling⟩
    exact ⟨⟨target, governing, onSafety, onMotion, buffer⟩,
      ⟨safety, lit, enabled, thermal, held, free, user, motion, blankLevel, ⟨low, high⟩, ceiling⟩, holdLit⟩
  · rintro ⟨f, l, holdLit⟩
    have thermal : s.light.thermal ≤ 4095 := l.thermal ▸ s.thermalCeiling_le.trans l.ceiling
    have safety : s.light.safety ≤ 4095 := by
      rw [l.safety]
      split <;> omega
    exact ⟨f.target, f.governing, f.safety, f.motion, f.buffer, l.safety, l.lit, l.enabled, l.thermal, l.held, l.free, holdLit,
      ⟨l.user, thermal, l.motion, safety⟩, l.blankLevel, l.rampStep.1, l.rampStep.2, l.ceiling⟩

/-- The light drive's invariant is met: by the reset state, among others. -/
theorem State.reset_lightOk : State.reset.LightOk := by decide

/-! ### Limiters written (R55, R58) -/

/-- Forming the target anew writes no limiter, and neither the ramp step nor the blank level nor LIGHT_EN (R55, R58). -/
theorem Light.reform_limiters (l : Light) :
    l.reform.user = l.user ∧ l.reform.thermal = l.thermal ∧ l.reform.motion = l.motion ∧ l.reform.motionHeld = l.motionHeld ∧
    l.reform.safety = l.safety ∧ l.reform.rampStep = l.rampStep ∧ l.reform.blankLevel = l.blankLevel ∧
    l.reform.lightEn = l.lightEn := by
  rw [Light.reform_eq]
  exact ⟨rfl, rfl, rfl, rfl, rfl, rfl, rfl, rfl⟩

theorem Light.reform_formed {l : Light} (buffer : l.pwmBuffer = l.applied) : l.reform.Formed := by
  obtain ⟨onSafety, onMotion⟩ := l.reform_bounded
  obtain ⟨-, -, motion, -, safety, -⟩ := l.reform_limiters
  refine ⟨?_, ?_, safety ▸ onSafety, motion ▸ onMotion, ?_⟩ <;> rw [Light.reform_eq]
  · rfl
  · rfl
  · dsimp only
    rw [buffer]

theorem Light.ramp_formed {l : Light} (h : l.Formed) : l.ramp.Formed := by
  have least := l.lowest_le
  obtain ⟨target, governing, onSafety, onMotion, buffer⟩ := h
  unfold Light.ramp
  split
  · exact ⟨target, governing, by simp only [Light.setApplied]; omega, by simp only [Light.setApplied]; omega, rfl⟩
  · split
    · exact ⟨target, governing, by simp only [Light.setApplied]; omega, by simp only [Light.setApplied]; omega, rfl⟩
    · exact ⟨target, governing, onSafety, onMotion, rfl⟩

/-- Limiters that fit still fit once the target is formed anew, and the light record is then as a write leaves it. -/
theorem State.LimitersFit.reform {s : State} {l : Light} (h : (s.setLight l).LimitersFit) (buffer : l.pwmBuffer = l.applied) :
    (s.setLight l.reform).light.Formed ∧ (s.setLight l.reform).LimitersFit := by
  obtain ⟨user, thermal, motion, motionHeld, safety, rampStep, blankLevel, lightEn⟩ := l.reform_limiters
  exact ⟨Light.reform_formed buffer, safety.trans h.safety, (lightEn ▸ h.lit :), (lightEn ▸ h.enabled :), thermal.trans h.thermal,
    motionHeld.trans h.held, (motionHeld ▸ motion ▸ h.free :), user.trans_le h.user, motion.trans_le h.motion,
    blankLevel.trans_le h.blankLevel, (rampStep ▸ h.rampStep :), h.ceiling⟩

/-! ### What the invariant reads -/

/-- All that the light drive's invariant reads is as it was. -/
structure LightKept (s t : State) : Prop where
  light : t.light = s.light
  op : t.ctl.op = s.ctl.op
  asserted : t.resetAsserted = s.resetAsserted
  hold : t.motion.blankHold = s.motion.blankHold
  ceiling : t.zoneCtl.ceiling = s.zoneCtl.ceiling
  inForce : t.thermalCeiling = s.thermalCeiling

theorem LightKept.refl (s : State) : LightKept s s := ⟨rfl, rfl, rfl, rfl, rfl, rfl⟩

theorem LightKept.trans {s t u : State} (h : LightKept s t) (k : LightKept t u) : LightKept s u :=
  ⟨k.light.trans h.light, k.op.trans h.op, k.asserted.trans h.asserted, k.hold.trans h.hold, k.ceiling.trans h.ceiling,
    k.inForce.trans h.inForce⟩

theorem State.LightOk.kept {s t : State} (h : s.LightOk) (k : LightKept s t) : t.LightOk := by
  obtain ⟨light, op, asserted, hold, ceiling, inForce⟩ := k
  rw [State.lightOk_iff] at h ⊢
  obtain ⟨f, l, holdLit⟩ := h
  refine ⟨light ▸ f, ⟨?_, ?_, ?_, ?_, ?_, ?_, ?_, ?_, ?_, ?_, ?_⟩, ?_⟩ <;> simp only [light, op, asserted, hold, ceiling, inForce]
  · exact l.safety
  · exact l.lit
  · exact l.enabled
  · exact l.thermal
  · exact l.held
  · exact l.free
  · exact l.user
  · exact l.motion
  · exact l.blankLevel
  · exact l.rampStep
  · exact l.ceiling
  · exact holdLit

/-- The thermal ceilings in force rest on the ceilings' values, the blind flags, and the CAP fans that are FAILED (R54). -/
theorem State.thermalCeiling_congr {s t : State} (ceiling : t.zoneCtl.ceiling = s.zoneCtl.ceiling)
    (blindCap : t.zoneCtl.blindCap = s.zoneCtl.blindCap) (lossCap : t.zoneCtl.lossCap = s.zoneCtl.lossCap)
    (blind : ∀ z, (t.zone z).blind = (s.zone z).blind)
    (failed : ∀ f, lossAction f = .cap → ((t.fan f).state = .failed ↔ (s.fan f).state = .failed)) :
    t.thermalCeiling = s.thermalCeiling := by
  have anyBlind : t.anyBlind = s.anyBlind := by simp only [State.anyBlind, blind]
  have capLost : t.capLost = s.capLost := by
    refine List.any_congr rfl fun f => ?_
    by_cases h : lossAction f = .cap
    · simp only [failed f h]
    · simp only [h, decide_false, Bool.false_and]
  simp only [State.thermalCeiling, ceiling, blindCap, lossCap, anyBlind, capLost]

/-- A change outside the light drive, the zones and the fans keeps what the invariant reads. -/
theorem LightKept.of_blocks {s t : State} (light : t.light = s.light) (ctl : t.ctl.op = s.ctl.op)
    (asserted : t.resetAsserted = s.resetAsserted) (motion : t.motion.blankHold = s.motion.blankHold)
    (zoneCtl : t.zoneCtl = s.zoneCtl) (fanDrv : t.fanDrv = s.fanDrv) : LightKept s t :=
  ⟨light, ctl, asserted, motion, congrArg ZoneCtl.ceiling zoneCtl,
    State.thermalCeiling_congr (congrArg ZoneCtl.ceiling zoneCtl) (congrArg ZoneCtl.blindCap zoneCtl)
      (congrArg ZoneCtl.lossCap zoneCtl) (fun _ => by rw [State.zone, zoneCtl, State.zone])
      fun _ _ => by rw [State.fan, fanDrv, State.fan]⟩

/-- A change of the fans that neither fails a CAP fan nor brings one back keeps it too (R54). -/
theorem LightKept.of_fans {s : State} {d : FanDrv}
    (failed : ∀ f : FanId, lossAction f = .cap → (d.fans[f.idx].state = .failed ↔ (s.fan f).state = .failed)) :
    LightKept s (s.setFanDrv d) :=
  ⟨rfl, rfl, rfl, rfl, rfl, State.thermalCeiling_congr rfl rfl rfl (fun _ => rfl) failed⟩

theorem LightKept.each_fan {s : State} {g : FanId → Fan → Fan}
    (failed : ∀ f x, (g f x).state = .failed ↔ x.state = .failed) : LightKept s (s.setFanDrv (s.fanDrv.each g)) :=
  .of_fans fun f _ => by rw [FanDrv.each_fans]; exact failed f _

theorem LightKept.set_fan {s : State} {f : FanId} {x : Fan}
    (failed : lossAction f = .cap → (x.state = .failed ↔ (s.fan f).state = .failed)) : LightKept s (s.setFan f x) := by
  refine .of_fans fun g hg => ?_
  change ((s.setFan f x).fan g).state = .failed ↔ _
  by_cases e : g = f
  · subst e
    rw [State.fan_setFan]
    exact failed hg
  · rw [State.fan_setFan_of_ne _ e]

/-- A change of a zone's record that keeps its blind flag keeps it too (R54). -/
theorem LightKept.set_zone {s : State} {z : ZoneId} {x : Zone} (blind : x.blind = (s.zone z).blind) :
    LightKept s (s.setZone z x) := by
  refine ⟨rfl, rfl, rfl, rfl, rfl, State.thermalCeiling_congr rfl rfl rfl (fun y => ?_) fun _ _ => Iff.rfl⟩
  by_cases e : y = z
  · subst e
    rw [State.zone_setZone]
    exact blind
  · rw [State.zone_setZone_of_ne _ e]

/-- Whatever the zones and the fans have come to, THERMAL formed afresh brings the invariant back (R54). -/
theorem State.LightOk.reformThermal {s t : State} (h : s.LightOk) (light : t.light = s.light) (op : t.ctl.op = s.ctl.op)
    (asserted : t.resetAsserted = s.resetAsserted) (hold : t.motion.blankHold = s.motion.blankHold)
    (ceiling : t.zoneCtl.ceiling ≤ 4095) : t.reformThermal.LightOk := by
  obtain ⟨f, l, holdLit⟩ := s.lightOk_iff.1 h
  have fit : (t.setLight { t.light with thermal := t.thermalCeiling }).LimitersFit := by
    refine ⟨?_, ?_, ?_, rfl, ?_, ?_, ?_, ?_, ?_, ?_, ceiling⟩ <;> simp only [State.setLight_fields, light, op, asserted, hold]
    · exact l.safety
    · exact l.lit
    · exact l.enabled
    · exact l.held
    · exact l.free
    · exact l.user
    · exact l.motion
    · exact l.blankLevel
    · exact l.rampStep
  obtain ⟨formed, fits⟩ := fit.reform (light ▸ f.buffer)
  exact (State.lightOk_iff _).2 ⟨formed, fits, fun k => op.trans (holdLit (hold.symm.trans k))⟩

end Sys2Proof.Machine
end

section
/-! PROOF. O55: the light drive's invariant under the motion queue, the changes of operating state, trips and resets. -/

namespace Sys2Proof.Machine

/-! ### Fans that stay FAILED or not (R105 to R110) -/

/-- No requested duty fails a fan or brings a FAILED one back (R107, R111). -/
theorem Fan.act_failed (x : Fan) : x.act.state = .failed ↔ x.state = .failed := by
  rcases x.act_cases with ⟨-, -, e⟩ | ⟨hs, -, e⟩ | ⟨hs, -, e⟩ | ⟨-, -, e⟩ | ⟨-, e⟩ <;> rw [e]
  · simp [Fan.enterKick, hs]
  · simp [Fan.enterOff, hs]
  · rfl

theorem Fan.full_failed (x : Fan) : x.full.state = .failed ↔ x.state = .failed := by
  unfold Fan.full
  dsimp only
  split
  · rename_i hs
    simp [Fan.enterKick, hs]
  · rw [Fan.act_failed]

theorem FanDrv.formed_failed (d : FanDrv) (capLost : Bool) (f : FanId) (x : Fan) :
    (d.formed capLost f x).state = .failed ↔ x.state = .failed := by
  rw [FanDrv.formed, Fan.act_failed]

theorem Fan.kickExpired_failed (x : Fan) : x.kickExpired.state = .failed ↔ x.state = .failed := by
  unfold Fan.kickExpired
  split
  · rename_i hs
    split <;> simp [Fan.enterOff, Fan.enterRunning, hs]
  · rfl

theorem Fan.pauseExpired_failed (x : Fan) : x.pauseExpired.state = .failed ↔ x.state = .failed := by
  unfold Fan.pauseExpired
  split
  · rename_i hs
    split <;> simp [Fan.enterOff, Fan.enterKick, hs]
  · rfl

theorem Fan.clearExpired_state (x : Fan) : x.clearExpired.state = x.state := by
  unfold Fan.clearExpired
  split <;> rfl

theorem State.formFans_lightKept (s : State) : LightKept s s.formFans :=
  .each_fan fun f x => s.fanDrv.formed_failed s.capLost f x

theorem State.fullFans_lightKept (s : State) : LightKept s s.fullFans := .each_fan fun _ x => x.full_failed

/-! ### The blank hold (R56, R161) -/

/-- A release of the blank hold leaves the light record formed, the limiters fitting, and nothing held. -/
theorem State.LimitersFit.releaseHold {s : State} (f : s.light.Formed) (l : s.LimitersFit) :
    s.releaseHold.light.Formed ∧ s.releaseHold.LimitersFit ∧ s.releaseHold.motion.blankHold = false := by
  unfold State.releaseHold
  split
  · rename_i hold
    have released : s.light.release = ({ s.light with motion := Config.fullLevel, motionHeld := false } : Light).reform :=
      if_pos (l.held.trans hold)
    rw [released]
    have fit : ((s.setMotion { s.motion with blankHold := false }).setLight
        { s.light with motion := Config.fullLevel, motionHeld := false }).LimitersFit :=
      ⟨l.safety, l.lit, l.enabled, l.thermal, rfl, fun _ => rfl, l.user, le_rfl, l.blankLevel, l.rampStep, l.ceiling⟩
    obtain ⟨formed, fits⟩ := fit.reform f.buffer
    exact ⟨formed, fits, rfl⟩
  · rename_i hold
    exact ⟨f, l, Bool.not_eq_true _ ▸ hold⟩

theorem State.LightOk.releaseHold {s : State} (h : s.LightOk) : s.releaseHold.LightOk := by
  obtain ⟨f, l, -⟩ := s.lightOk_iff.1 h
  obtain ⟨formed, fits, free⟩ := l.releaseHold f
  exact (State.lightOk_iff _).2 ⟨formed, fits, fun k => by cases free.symm.trans k⟩

/-- A recall takes the blank hold in LIT alone, with MOTION at the blank level (R56, R158). -/
theorem State.LightOk.takeHold {s : State} (h : s.LightOk) (j : Job) : (s.takeHold j).LightOk := by
  unfold State.takeHold
  split
  · split
    · rename_i lit
      obtain ⟨f, l, -⟩ := s.lightOk_iff.1 h
      have fit : ((s.setMotion { s.motion with blankHold := true }).setLight
          { s.light with motion := s.light.blankLevel, motionHeld := true }).LimitersFit :=
        ⟨l.safety, l.lit, l.enabled, l.thermal, rfl, nofun, l.user, l.blankLevel, l.blankLevel, l.rampStep, l.ceiling⟩
      obtain ⟨formed, fits⟩ := fit.reform f.buffer
      exact (State.lightOk_iff _).2 ⟨formed, fits, fun _ => lit.2⟩
    · exact h
  all_goals exact h

/-- Everything the motion queue does keeps the light drive's invariant: it takes and releases the blank hold alone. -/
theorem lightOk_queueClosed : QueueClosed State.LightOk where
  axis s a x h := h.kept (.of_blocks (by simp) (by simp) (by simp) (by simp) (by simp) (by simp))
  motion s m hold _ h := h.kept (.of_blocks rfl rfl rfl hold rfl rfl)
  done s h := h.kept (.of_blocks rfl rfl rfl rfl rfl rfl)
  endstop s h := h.kept (.of_blocks rfl rfl rfl rfl rfl rfl)
  homeFail s h := h.kept (.of_blocks rfl rfl rfl rfl rfl rfl)
  unhold s h := h.releaseHold
  hold s j h := h.takeHold j
  place s n tag _ h := h.kept (.of_blocks rfl rfl rfl rfl rfl rfl)
  unplace s h := h.kept (.of_blocks rfl rfl rfl rfl rfl rfl)

namespace State.LightOk

variable {s : State}

/-! ### Changes of operating state, trips and resets (R57, R116, R117, R121) -/

/-- The operating state written, with SAFETY and LIGHT_EN, leaves all but the blank hold's place in LIT. -/
theorem writeOp (h : s.LightOk) (new : OpState) : (s.writeOp new).light.Formed ∧ (s.writeOp new).LimitersFit := by
  obtain ⟨f, l, -⟩ := s.lightOk_iff.1 h
  have fit : ((s.writeOp new).setLight
      { s.light with safety := if decide (new = .lit) then Config.fullLevel else 0, lightEn := decide (new = .lit) }).LimitersFit :=
    ⟨by simp only [decide_eq_true_eq]; rfl, fun k => of_decide_eq_true k, fun _ k => decide_eq_true k, l.thermal, l.held, l.free,
      l.user, l.motion, l.blankLevel, l.rampStep, l.ceiling⟩
  exact fit.reform f.buffer

/-- At a departure from LIT the blank hold is released; in every other state there is none (R117). -/
theorem leave (h : s.LightOk) (new : OpState) : ((s.writeOp new).leave s.ctl.op).LightOk := by
  obtain ⟨formed, fits⟩ := h.writeOp new
  by_cases lit : s.ctl.op = .lit
  · rw [lit]
    obtain ⟨formed, fits, free⟩ := fits.releaseHold formed
    exact (State.lightOk_iff _).2 ⟨formed, fits, fun k => by cases free.symm.trans k⟩
  · have written : (s.writeOp new).LightOk :=
      (State.lightOk_iff _).2 ⟨formed, fits, fun k => absurd ((s.lightOk_iff.1 h).2.2 k) lit⟩
    cases op : s.ctl.op with
    | standby => exact written
    | lit => exact absurd op lit
    | cooldown => exact written
    | tripped => exact written.kept (State.formFans_lightKept _)

theorem clearIntegrators (h : s.LightOk) : s.clearIntegrators.LightOk := by
  refine h.kept ⟨rfl, rfl, rfl, rfl, rfl, State.thermalCeiling_congr rfl rfl rfl (fun z => ?_) fun _ _ => Iff.rfl⟩
  change ((s.zoneCtl.each fun _ x => { x with acc := 0 }).zones[z.idx]).blind = _
  rw [ZoneCtl.each_zones]
  rfl

theorem arrive (h : s.LightOk) (new : OpState) : (s.arrive new).LightOk := by
  cases new with
  | standby => exact h.clearIntegrators.kept (.of_blocks rfl rfl rfl rfl rfl rfl)
  | lit => exact lightOk_queueClosed.pump h
  | cooldown => exact lightOk_queueClosed.pump h
  | tripped =>
    exact (lightOk_queueClosed.abortMotion (h.kept s.fullFans_lightKept)).kept (.of_blocks rfl rfl rfl rfl rfl rfl)

theorem changeState (h : s.LightOk) (new : OpState) : (s.changeState new).LightOk := (h.leave new).arrive new

theorem trip (h : s.LightOk) (cause : TripCause) : (s.trip cause).LightOk := by
  have named : (s.setCtl { s.ctl with lastTrip := cause }).LightOk := h.kept (.of_blocks rfl rfl rfl rfl rfl rfl)
  unfold State.trip
  split
  · exact h
  · exact named.changeState .tripped

theorem judgeComparator (h : s.LightOk) : s.judgeComparator.LightOk := by
  have judged (c : Comparator) : (s.setComparator c).LightOk := h.kept (.of_blocks rfl rfl rfl rfl rfl rfl)
  rcases s.judgeComparator_cases with ⟨-, -, e⟩ | ⟨-, -, e⟩ | ⟨-, e⟩ <;> rw [e]
  · exact (judged _).trip .comparator
  · exact judged _
  · exact h

theorem judgeDigital (h : s.LightOk) (zs : List ZoneId) : (s.judgeDigital zs).LightOk := by
  induction zs generalizing s with
  | nil => exact h
  | cons z zs ih => exact ih (iteInduction (motive := State.LightOk) (fun _ => h.trip _) fun _ => h)

/-- A reset leaves the light drive at its reset values, whatever went before (R52, R129, R130). -/
theorem applyReset (s : State) : s.applyReset.LightOk := by
  refine judgeComparator ?_
  have fresh : (State.reset.setResetAsserted s.abandonBus.resetAsserted).LightOk := by
    cases s.abandonBus.resetAsserted <;> decide
  exact fresh.kept (.of_blocks rfl rfl rfl rfl rfl rfl)

/-- RESET_N asserted takes LIGHT_EN away, and nothing else that the invariant reads (R52, R130). -/
theorem assertReset (h : s.LightOk) : s.assertReset.LightOk := by
  obtain ⟨f, l, holdLit⟩ := s.lightOk_iff.1 h
  let dark := (s.setLight { s.light with lightEn := false, pwmLevel := 0 }).setResetAsserted true
  have dimmed : dark.LightOk := (State.lightOk_iff _).2 ⟨⟨f.target, f.governing, f.safety, f.motion, f.buffer⟩,
    ⟨l.safety, nofun, nofun, l.thermal, l.held, l.free, l.user, l.motion, l.blankLevel, l.rampStep, l.ceiling⟩, holdLit⟩
  have fans : LightKept dark (dark.setFanDrv (dark.fanDrv.each fun _ x => { x with pwmLevel := 0 })) := .each_fan fun _ _ => Iff.rfl
  refine dimmed.kept (fans.trans (.of_blocks ?_ ?_ ?_ ?_ ?_ ?_)) <;> simp [State.assertReset, State.abandonBus, dark]

/-! ### Fans that stall (R110, R111) -/

theorem failFan (h : s.LightOk) (f : FanId) : (s.failFan f).LightOk := by
  unfold State.failFan
  cases e : lossAction f with
  | trip =>
    have failed : (s.setFan f (s.fan f).enterFailed).LightOk := h.kept (.set_fan fun c => by cases e.symm.trans c)
    exact iteInduction (motive := State.LightOk) (fun _ => failed.trip _) fun _ => failed
  | cap => exact h.reformThermal rfl rfl rfl rfl (s.lightOk_iff.1 h).2.1.ceiling

theorem stall (h : s.LightOk) {f : FanId} (works : (s.fan f).state ≠ .failed) : (s.stall f).LightOk := by
  have raised : (s.raise .fanFault).LightOk := h.kept (.of_blocks rfl rfl rfl rfl rfl rfl)
  refine iteInduction (motive := State.LightOk) (fun _ => raised.kept (.set_fan fun _ => iff_of_false ?_ works)) fun _ => raised.failFan f
  unfold Fan.tryAgain
  dsimp only
  split <;> simp [Fan.enterKick, Fan.enterPause]

theorem stallExpired (h : s.LightOk) (f : FanId) : (s.stallExpired f).LightOk := by
  unfold State.stallExpired
  split
  · rename_i hs
    exact h.stall fun k => by cases hs.symm.trans k
  · rename_i hs
    exact h.stall fun k => by cases hs.symm.trans k
  all_goals exact h

end State.LightOk

end Sys2Proof.Machine
end

section
/-! PROOF. O55: the light drive's invariant under the control tick, the owners of the packet commands and the events, and
so under every step. -/

namespace Sys2Proof.Machine

/-! ### What never reaches the light drive -/

theorem State.applyReading_lightKept (s : State) (n : Fin 12) (r : Reading) : LightKept s (s.applyReading n r) := by
  apply LightKept.of_blocks <;> simp [State.applyReading]

theorem State.endFlight_lightKept (s : State) (f : Flight) (r : Reading) (wire : List SbSignal) :
    LightKept s (s.endFlight f r wire) := by
  unfold State.endFlight
  dsimp only
  split
  · exact .of_blocks rfl rfl rfl rfl rfl rfl
  · exact (s.applyReading_lightKept _ _).trans (.of_blocks rfl rfl rfl rfl rfl rfl)

theorem State.cutFlight_lightKept (s : State) (f : Flight) (o : ReadOutcome) (p : SbPlace) : LightKept s (s.cutFlight f o p) := by
  have due : LightKept s (s.setTemps { s.temps with recoveryDue := true }) := .of_blocks rfl rfl rfl rfl rfl rfl
  have ended := due.trans (State.endFlight_lightKept _ f (.bad o) (f.cutWire p s.freeCount))
  exact ended.trans (.of_blocks rfl rfl rfl rfl rfl rfl)

theorem State.takeConversion_lightKept (s : State) (ch : Channel) (code : BitVec 12) :
    LightKept s (s.takeConversion ch code) := by
  unfold State.takeConversion
  split
  · exact .refl s
  · exact s.applyReading_lightKept _ _

theorem State.advanceScan_lightKept (s : State) (ch : Channel) : LightKept s (s.advanceScan ch) := by
  unfold State.advanceScan
  split
  · exact .of_blocks rfl rfl rfl rfl rfl rfl
  · exact .refl s

theorem State.stopBegun_lightKept (s : State) (e : SbEnd) : LightKept s (s.stopBegun e) := by
  unfold State.stopBegun
  split
  · exact .refl s
  · exact s.endFlight_lightKept _ _ _

theorem State.cutBegun_lightKept (s : State) (o : ReadOutcome) (p : SbPlace) : LightKept s (s.cutBegun o p) := by
  unfold State.cutBegun
  split
  · exact .refl s
  · exact s.cutFlight_lightKept _ _ _

theorem State.addStretch_lightKept (s : State) (micros : Nat) : LightKept s (s.addStretch micros) := by
  unfold State.addStretch
  split
  · exact .refl s
  · dsimp only
    split
    · exact s.cutFlight_lightKept _ _ _
    · exact .of_blocks rfl rfl rfl rfl rfl rfl

theorem State.recoveryDone_lightKept (s : State) : LightKept s s.recoveryDone := by
  unfold State.recoveryDone
  split
  · exact .refl s
  · exact .of_blocks rfl rfl rfl rfl rfl rfl

theorem State.recoveryAbandoned_lightKept (s : State) : LightKept s s.recoveryAbandoned := by
  unfold State.recoveryAbandoned
  split
  · exact .refl s
  · exact s.cutFlight_lightKept _ _ _

theorem State.endOutput_lightKept (s : State) (b : Bool) : LightKept s (s.endOutput b) := by
  unfold State.endOutput
  split
  · exact .refl s
  · exact .of_blocks rfl rfl rfl rfl rfl rfl

theorem State.latch_lightKept (s : State) : LightKept s s.latch := by
  unfold State.latch
  split
  · exact .refl s
  · exact .of_blocks rfl rfl rfl rfl rfl rfl

/-- Whether a command's owner leaves alone the light drive, the thermal ceilings, the operating state and the motion
queue's requests. -/
def sparesLight : Instr → Bool
  | .setLight .. | .setLightRamp .. | .setThermalLimits .. | .clearFan .. | .lightOn .. | .lightOff .. | .clearTrip ..
  | .setTripComparator .. | .moveAxis .. | .stepAxis .. | .home .. | .recallPreset .. | .stopMotion .. => false
  | _ => true

/-- Such an owner keeps what the light drive's invariant reads, whether it refuses, reads or writes (R170). -/
theorem ownerOf_lightKept (i : Instr) (s : State) (hi : sparesLight i = true) : LightKept s (ownerOf i s).1 := by
  cases i
  case readGrid | gridInfo | readPoll | readThermistorTable | readZone | readFan | readPreset | readMotion =>
    simp only [ownerOf, readGrid, gridInfo, readPoll, readTable, readZone, readFan, readPreset, readMotion, answer]
    split <;> exact .refl s
  case assignSource | writePoll | engineReset | erasePreset | ackEvents | setEventEnable =>
    simp only [ownerOf, assignSource, writePoll, engineReset, erasePreset, ackEvents, setEventEnable, answer]
    split <;> exact .of_blocks rfl rfl rfl rfl rfl rfl
  case writeChannel | setInstall =>
    simp only [ownerOf, writeChannel, setInstall, answer]
    split
    · split <;> exact .of_blocks rfl rfl rfl rfl rfl rfl
    · exact .refl s
  case writeZone =>
    simp only [ownerOf, writeZone, answer]
    split
    · split
      · exact .set_zone rfl
      · exact .refl s
    · exact .refl s
  case writeFan =>
    simp only [ownerOf, writeFan, answer]
    split
    · split
      · exact .set_fan fun _ => Iff.rfl
      · exact .refl s
    · exact .refl s
  case writeThermistorTableFirst =>
    simp only [ownerOf, writeTableFirst]
    split
    · exact .of_blocks rfl rfl rfl rfl rfl rfl
    · split <;> exact .of_blocks rfl rfl rfl rfl rfl rfl
  case writeThermistorTableSecond | writeGrid | commitGrid | eraseGrid | selectGrid =>
    simp only [ownerOf, writeTableSecond, Machine.writeGrid, Machine.commitGrid, Machine.eraseGrid, Machine.selectGrid, answer]
    repeat' split
    all_goals exact .of_blocks rfl rfl rfl rfl rfl rfl
  case readSource =>
    simp only [ownerOf, readSource, answer]
    split
    · exact .refl s
    · split <;> exact .of_blocks rfl rfl rfl rfl rfl rfl
  case writeAxis =>
    simp only [ownerOf, writeAxis, answer]
    split
    · split
      · split
        · exact .refl s
        · apply LightKept.of_blocks <;> simp
      · exact .refl s
    · exact .refl s
  case readAxis =>
    simp only [ownerOf, readAxis, answer]
    split
    · exact .refl s
    · split <;> apply LightKept.of_blocks <;> simp
  case storePreset =>
    simp only [ownerOf, storePreset, storeExplicit, storeCurrent, answer]
    split
    · exact .of_blocks rfl rfl rfl rfl rfl rfl
    · split <;> exact .of_blocks rfl rfl rfl rfl rfl rfl
    · exact .refl s
  all_goals first | contradiction | exact .refl s

namespace State.LightOk

variable {s : State}

/-! ### The control tick and the silence counter -/

/-- The zone controller's part of a tick leaves the derate ceiling within its range, and forms THERMAL last (R54, R93 to
R100). -/
theorem zoneTick (h : s.LightOk) : s.zoneTick.LightOk := by
  have derate : ∀ t : State, t.judgeDerate.light = t.light ∧ t.judgeDerate.ctl = t.ctl ∧
      t.judgeDerate.resetAsserted = t.resetAsserted ∧ t.judgeDerate.motion = t.motion ∧
      (t.zoneCtl.ceiling ≤ 4095 → t.judgeDerate.zoneCtl.ceiling ≤ 4095) := fun t => by
    unfold State.judgeDerate
    split
    · simp [State.setCeiling, Config.derateStep, Config.derateFloor]
      omega
    · split <;> simp [State.setCeiling, Config.fullLevel]
  have sensed : s.copyMode.senseZones.formDemands.light = s.light ∧ s.copyMode.senseZones.formDemands.ctl = s.ctl ∧
      s.copyMode.senseZones.formDemands.resetAsserted = s.resetAsserted ∧
      s.copyMode.senseZones.formDemands.motion = s.motion ∧
      s.copyMode.senseZones.formDemands.zoneCtl.ceiling = s.zoneCtl.ceiling := by
    simp [State.formDemands, State.senseZones, State.copyMode, ZoneCtl.each]
  obtain ⟨light, ctl, asserted, motion, ceiling⟩ := derate s.copyMode.senseZones.formDemands
  obtain ⟨light', ctl', asserted', motion', ceiling'⟩ := sensed
  exact h.reformThermal (light.trans light') (by rw [ctl, ctl']) (asserted.trans asserted') (by rw [motion, motion'])
    (ceiling (ceiling'.trans_le (s.lightOk_iff.1 h).2.1.ceiling))

theorem fanTick (h : s.LightOk) : s.fanTick.LightOk := by
  have handed : s.handDemands.LightOk := h.kept (.of_fans fun _ _ => Iff.rfl)
  unfold State.fanTick
  dsimp only
  split
  · exact handed.kept (State.fullFans_lightKept _)
  · exact handed.kept (State.formFans_lightKept _)

theorem judgeRunOn (h : s.LightOk) : s.judgeRunOn.LightOk := by
  unfold State.judgeRunOn
  split
  · exact h.changeState _
  · exact h

theorem controlTick (h : s.LightOk) : s.controlTick.LightOk := by
  have sources (t : State) (ht : t.LightOk) : t.sourceTick.LightOk := ht.kept (.of_blocks rfl rfl rfl rfl rfl rfl)
  have fans := (h.zoneTick.judgeDigital ZoneId.all).fanTick
  unfold State.controlTick
  exact lightOk_queueClosed.proceed (sources _ fans).judgeRunOn

theorem silenceExpires (h : s.LightOk) : s.silenceExpires.LightOk := by
  have lost : ((s.setCtl { s.ctl with silence := Config.silenceLimit, armed := false }).raise .linkLost).LightOk :=
    h.kept (.of_blocks rfl rfl rfl rfl rfl rfl)
  exact iteInduction (motive := State.LightOk) (fun _ => applyReset _) fun _ =>
    lightOk_queueClosed.endSwitching (iteInduction (motive := State.LightOk) (fun _ => lost.changeState _) fun _ => lost)

theorem silenceCounts (h : s.LightOk) : s.silenceCounts.LightOk := by
  unfold State.silenceCounts
  split
  · split
    · exact h.silenceExpires
    · exact h.kept (.of_blocks rfl rfl rfl rfl rfl rfl)
  · exact h

/-! ### The light drive's own events (R59, R61) -/

theorem rampTick (h : s.LightOk) : (s.setLight s.light.ramp).LightOk := by
  obtain ⟨f, l, holdLit⟩ := s.lightOk_iff.1 h
  have kept : ∃ n, s.light.ramp = s.light.setApplied n := by
    unfold Light.ramp
    split
    · exact ⟨_, rfl⟩
    · split <;> exact ⟨_, rfl⟩
  have formed := Light.ramp_formed f
  obtain ⟨n, e⟩ := kept
  rw [e] at formed ⊢
  exact (State.lightOk_iff _).2 ⟨formed, ⟨l.safety, l.lit, l.enabled, l.thermal, l.held, l.free, l.user, l.motion,
    l.blankLevel, l.rampStep, l.ceiling⟩, holdLit⟩

theorem pwmBoundary (h : s.LightOk) : (s.setLight s.light.pwmBoundary).LightOk := by
  obtain ⟨f, l, holdLit⟩ := s.lightOk_iff.1 h
  exact (State.lightOk_iff _).2 ⟨⟨f.target, f.governing, f.safety, f.motion, f.buffer⟩, ⟨l.safety, l.lit, l.enabled, l.thermal,
    l.held, l.free, l.user, l.motion, l.blankLevel, l.rampStep, l.ceiling⟩, holdLit⟩

/-! ### The owners of the packet commands -/

theorem setLight (h : s.LightOk) (level : BitVec 16) : (Machine.setLight level s).1.LightOk := by
  unfold Machine.setLight
  split
  · rename_i le
    obtain ⟨f, l, holdLit⟩ := s.lightOk_iff.1 h
    have fit : (s.setLight { s.light with user := level.toNat }).LimitersFit :=
      ⟨l.safety, l.lit, l.enabled, l.thermal, l.held, l.free, le, l.motion, l.blankLevel, l.rampStep, l.ceiling⟩
    obtain ⟨formed, fits⟩ := fit.reform f.buffer
    exact (State.lightOk_iff _).2 ⟨formed, fits, holdLit⟩
  · exact h

theorem setLightRamp (h : s.LightOk) (rampStep blankLevel : BitVec 16) : (Machine.setLightRamp rampStep blankLevel s).1.LightOk := by
  unfold Machine.setLightRamp
  split
  · rename_i inRange
    simp only [rampInRange, Bool.and_eq_true, decide_eq_true_eq] at inRange
    obtain ⟨⟨low, high⟩, blank⟩ := inRange
    obtain ⟨f, l, holdLit⟩ := s.lightOk_iff.1 h
    exact (State.lightOk_iff _).2 ⟨⟨f.target, f.governing, f.safety, f.motion, f.buffer⟩, ⟨l.safety, l.lit, l.enabled, l.thermal,
      l.held, l.free, l.user, l.motion, blank, ⟨low, high⟩, l.ceiling⟩, holdLit⟩
  · exact h

theorem setThermalLimits (h : s.LightOk) (blindCap lossCap : BitVec 16) : (Machine.setThermalLimits blindCap lossCap s).1.LightOk := by
  unfold Machine.setThermalLimits
  split
  · exact h.reformThermal rfl rfl rfl rfl (s.lightOk_iff.1 h).2.1.ceiling
  · exact h

theorem clearFan (h : s.LightOk) (fan : Byte) : (Machine.clearFan fan s).1.LightOk := by
  unfold Machine.clearFan State.clearFan
  split
  · exact h
  · dsimp only
    split
    · exact h.reformThermal rfl rfl rfl rfl (s.lightOk_iff.1 h).2.1.ceiling
    · exact h

theorem tryLight (h : s.LightOk) : (Machine.tryLight s).1.LightOk := by
  unfold Machine.tryLight
  split
  · exact h
  · exact h.changeState .lit

theorem setTripComparator (h : s.LightOk) (channel : Byte) (threshold : BitVec 16) :
    (Machine.setTripComparator channel threshold s).1.LightOk := by
  unfold Machine.setTripComparator
  split
  · exact h
  · split
    · exact h
    · split
      · have set (c : Comparator) : (s.setComparator c).LightOk := h.kept (.of_blocks rfl rfl rfl rfl rfl rfl)
        exact (set _).judgeComparator
      · exact h

theorem enqueue (h : s.LightOk) (tag : Byte) (j : Job) : (Machine.enqueue tag j s).1.LightOk := by
  unfold Machine.enqueue
  split
  · exact h
  · split
    · exact h
    · exact lightOk_queueClosed.pump (h.kept (.of_blocks rfl rfl rfl rfl rfl rfl))

/-- What the owner of a packet command does keeps the invariant (R170). -/
theorem ownerOf (h : s.LightOk) (i : Instr) : (Machine.ownerOf i s).1.LightOk := by
  cases i
  case setLight level => exact h.setLight level
  case setLightRamp rampStep blankLevel => exact h.setLightRamp rampStep blankLevel
  case setThermalLimits blindCap lossCap => exact h.setThermalLimits blindCap lossCap
  case clearFan fan => exact h.clearFan fan
  case setTripComparator channel threshold => exact h.setTripComparator channel threshold
  case lightOn =>
    simp only [Machine.ownerOf, lightOn]
    split
    · exact h.tryLight
    · exact h.tryLight
    · exact h
    · exact h
  case lightOff =>
    simp only [Machine.ownerOf, lightOff]
    split
    · exact h.changeState _
    · exact h
  case clearTrip =>
    simp only [Machine.ownerOf, clearTrip]
    split
    · split
      · exact h
      · exact h.changeState .cooldown
    · exact h
  case moveAxis =>
    simp only [Machine.ownerOf, moveAxis]
    split
    · exact h
    · exact h.enqueue _ _
  case stepAxis =>
    simp only [Machine.ownerOf, stepAxis]
    split
    · exact h
    · split
      · exact h.enqueue _ _
      · exact h
  case home =>
    simp only [Machine.ownerOf, home]
    split
    · exact h
    · exact h.enqueue _ _
  case recallPreset =>
    simp only [Machine.ownerOf, recallPreset]
    split
    · exact h
    · split
      · exact h
      · exact h.enqueue _ _
  case stopMotion => exact lightOk_queueClosed.stopMotion h
  all_goals exact h.kept (ownerOf_lightKept _ _ rfl)

theorem takePacket (h : s.LightOk) (tag : Byte) {run : Owner} (owner : ∀ t, State.LightOk t → (run t).1.LightOk) :
    (s.takePacket tag run).LightOk :=
  State.takePacket_keeps h (fun _ _ ht => ht.kept (.of_blocks rfl rfl rfl rfl rfl rfl)) owner

/-- A packet command keeps the invariant (R167, R170). -/
theorem packet (h : s.LightOk) {i : Instr} (hi : (packetOf i).isSome = true) : ∃ t, Machine.exec i s = .next t ∧ t.LightOk := by
  obtain ⟨⟨tag, code, payload⟩, hp⟩ := Option.isSome_iff_exists.1 hi
  obtain ⟨run, he, hr⟩ := exec_packet hp s
  refine ⟨_, he, h.takePacket tag fun t ht => ?_⟩
  rcases hr with rfl | ⟨-, rfl⟩
  · exact ht.ownerOf i
  · exact ht

theorem receive (h : s.LightOk) (r : PacketRead) : (s.receive r).LightOk := by
  cases r with
  | badCheck tag => exact h.takePacket tag fun _ ht => ht
  | unknownCommand tag => exact h.takePacket tag fun _ ht => ht
  | badLength tag => exact h.takePacket tag fun _ ht => ht
  | command tag i => exact h.takePacket tag fun _ ht => ht.ownerOf i

/-! ### The events of the video path and of the return lane -/

theorem controlLine (h : s.LightOk) (ps : List Pixel) : (s.controlLine ps).LightOk := by
  have line : s.blankingLine.LightOk := h.kept (.of_blocks rfl rfl rfl rfl rfl rfl)
  unfold State.controlLine
  split
  · exact line.receive _
  · exact line

theorem outputFrameStart (h : s.LightOk) : s.outputFrameStart.LightOk := by
  have entered (t : State) : LightKept t t.enterOutput := .of_blocks rfl rfl rfl rfl rfl rfl
  have begun : LightKept s (s.endOutput false).enterOutput.latch :=
    ((s.endOutput_lightKept false).trans (entered _)).trans (State.latch_lightKept _)
  unfold State.outputFrameStart
  split
  · exact lightOk_queueClosed.endSwitching (h.kept (begun.trans (.of_blocks rfl rfl rfl rfl rfl rfl)))
  · exact h

theorem inputFrameStart (h : s.LightOk) (l : Line) : (s.inputFrameStart l).LightOk := by
  have counted : (s.setLineTime (s.warp.lineTime + 1)).LightOk := h.kept (.of_blocks rfl rfl rfl rfl rfl rfl)
  have due : s.startDueFirst.LightOk := counted.outputFrameStart.kept (.of_blocks rfl rfl rfl rfl rfl rfl)
  have started : (s.startDueFirst.setWarp (s.startDueFirst.warp.startFrame l)).LightOk :=
    due.kept (.of_blocks rfl rfl rfl rfl rfl rfl)
  have answers (t : State) (ht : t.LightOk) : t.formAnswer.rearm.LightOk := ht.kept (.of_blocks rfl rfl rfl rfl rfl rfl)
  unfold State.inputFrameStart State.beginFrame
  refine answers _ ?_
  split
  · exact lightOk_queueClosed.endSwitching started
  · exact started

theorem activeLine (h : s.LightOk) (ps : List Pixel) : (s.activeLine ps).LightOk := by
  unfold State.activeLine
  split
  · exact h.inputFrameStart _
  · exact h.kept (.of_blocks rfl rfl rfl rfl rfl rfl)

theorem outputLine (h : s.LightOk) : s.outputLine.LightOk := by
  unfold State.outputLine
  split
  · exact h
  · rename_i f _
    have sent : LightKept s (s.sendLine f) := .of_blocks rfl rfl rfl rfl rfl rfl
    split
    · rw [State.produceLine_eq]
      split
      · exact h.kept (sent.trans (State.endOutput_lightKept _ _))
      · exact h.kept sent
    · exact h

theorem answerCut (h : s.LightOk) : s.answerCut.LightOk := by
  unfold State.answerCut
  split
  · exact applyReset s
  · exact h.kept (.of_blocks rfl rfl rfl rfl rfl rfl)

theorem answerSent (h : s.LightOk) : s.answerSent.LightOk := by
  unfold State.answerSent
  split
  · split
    · exact applyReset s
    · exact h.kept (.of_blocks rfl rfl rfl rfl rfl rfl)
  · exact h

theorem lockLost (h : s.LightOk) : s.lockLost.LightOk := by
  rw [State.lockLost_eq]
  have darkened : s.darken.LightOk := h.kept (.of_blocks rfl rfl rfl rfl rfl rfl)
  exact darkened.answerCut

/-! ### The events of the lens axes and the comparator -/

theorem profileTick (h : s.LightOk) : s.profileTick.LightOk := by
  have ticked : ((s.setAxis .h s.axisH.tick.1).setAxis .v s.axisV.tick.1).LightOk := h.kept (.of_blocks rfl rfl rfl rfl rfl rfl)
  have q := lightOk_queueClosed
  unfold State.profileTick
  dsimp only
  split
  · exact ticked
  · exact q.proceed (q.takeEvent _ _ (q.takeEvent _ _ ticked))

theorem showLevel (h : s.LightOk) (level : PinLevel) : (s.showLevel level).LightOk := by
  have shown : (s.setPinCode level.ch level.code).LightOk := h.kept (.of_blocks rfl rfl rfl rfl rfl rfl)
  exact State.whenLive_keeps shown fun hs => hs.judgeComparator

/-! ### Every command, and every step -/

/-- Every command completes and keeps the invariant. -/
theorem exec (h : s.LightOk) (i : Instr) : ∃ t, Machine.exec i s = .next t ∧ t.LightOk := by
  have live : ∀ f : State → State, (s.LightOk → (f s).LightOk) → (s.whenLive f).LightOk := fun f hf => State.whenLive_keeps h hf
  have linked : ∀ f : State → State, (s.LightOk → (f s).LightOk) → (s.whenLinked f).LightOk :=
    fun f hf => State.whenLinked_keeps h hf
  have q := lightOk_queueClosed
  cases i
  case inputActiveLine ps => exact ⟨_, rfl, linked _ fun _ => h.activeLine ps⟩
  case controlLine ps => exact ⟨_, rfl, linked _ fun _ => h.controlLine ps⟩
  case outputLine => exact ⟨_, rfl, linked _ fun _ => h.outputLine⟩
  case outputFrameStart => exact ⟨_, rfl, linked _ fun _ => h.outputFrameStart⟩
  case plainBlankingLine => exact ⟨_, rfl, linked _ fun _ => h.kept (.of_blocks rfl rfl rfl rfl rfl rfl)⟩
  case linkLockLost =>
    refine ⟨_, rfl, ?_⟩
    split
    · exact h.lockLost
    · exact h.kept (.of_blocks rfl rfl rfl rfl rfl rfl)
  case linkLockRegained =>
    refine ⟨_, rfl, h.kept ?_⟩
    split <;> exact .of_blocks rfl rfl rfl rfl rfl rfl
  case answerSent => exact ⟨_, rfl, linked _ fun _ => h.answerSent⟩
  case resetNAsserted => exact ⟨_, rfl, live _ fun _ => h.assertReset⟩
  case resetNReleased => exact ⟨_, rfl, applyReset _⟩
  case controlTick => exact ⟨_, rfl, live _ fun _ => h.controlTick⟩
  case thermistorConversionDone ch code =>
    exact ⟨_, rfl, live _ fun _ => h.kept ((s.takeConversion_lightKept ch code).trans (State.advanceScan_lightKept _ ch))⟩
  case sbTransactionEnd e => exact ⟨_, rfl, live _ fun _ => h.kept (s.stopBegun_lightKept e)⟩
  case sbStretchLimit micros => exact ⟨_, rfl, live _ fun _ => h.kept (s.addStretch_lightKept micros)⟩
  case sbClockTimeout => exact ⟨_, rfl, live _ fun _ => h.kept (s.cutBegun_lightKept _ _)⟩
  case sbBusError => exact ⟨_, rfl, live _ fun _ => h.kept (s.cutBegun_lightKept _ _)⟩
  case sbRecoveryDone => exact ⟨_, rfl, live _ fun _ => h.kept s.recoveryDone_lightKept⟩
  case sbRecoveryAbandoned => exact ⟨_, rfl, live _ fun _ => h.kept s.recoveryAbandoned_lightKept⟩
  case comparatorTrip level => exact ⟨_, rfl, h.showLevel level⟩
  case comparatorRelease level => exact ⟨_, rfl, h.showLevel level⟩
  case rampTick => exact ⟨_, rfl, live _ fun _ => h.rampTick⟩
  case lightPwmPeriodBoundary => exact ⟨_, rfl, live _ fun _ => h.pwmBoundary⟩
  case fanPwmPeriodBoundary f => exact ⟨_, rfl, live _ fun _ => h.kept (.set_fan fun _ => Iff.rfl)⟩
  case kickTimerExpiry f => exact ⟨_, rfl, live _ fun _ => h.kept (.set_fan fun _ => Fan.kickExpired_failed _)⟩
  case pauseTimerExpiry f => exact ⟨_, rfl, live _ fun _ => h.kept (.set_fan fun _ => Fan.pauseExpired_failed _)⟩
  case retryClearTimerExpiry f =>
    exact ⟨_, rfl, live _ fun _ => h.kept (.set_fan fun _ => by rw [Fan.clearExpired_state])⟩
  case tachTimeout f => exact ⟨_, rfl, live _ fun _ => h.kept (.set_fan fun _ => Iff.rfl)⟩
  case tachEdge f e =>
    refine ⟨_, rfl, live _ fun _ => ?_⟩
    split
    · have edge : LightKept s (s.updateFan f fun x => x.edge e.micros (Config.freeSpeed s.freeCount)) := .set_fan fun _ => Iff.rfl
      refine h.kept (edge.trans ?_)
      apply LightKept.of_blocks <;> simp [State.selectedEdge]
    · exact h
  case stallTimerExpiry f => exact ⟨_, rfl, live _ fun _ => h.stallExpired f⟩
  case profileTick => exact ⟨_, rfl, live _ fun _ => h.profileTick⟩
  case endstopEdge e =>
    refine ⟨_, rfl, ?_⟩
    split
    · exact q.afterEvent _ _ (q.axis _ _ _ h)
    · exact q.axis _ _ _ h
  case endstopInactive e =>
    refine ⟨_, rfl, ?_⟩
    split
    · exact q.afterEvent _ _ (q.axis _ _ _ h)
    · exact q.axis _ _ _ h
  case railWaitTimeout => exact ⟨_, rfl, live _ fun _ => q.railTimeout h⟩
  case runOnElapsedLimit => exact ⟨_, rfl, live _ fun _ => h.kept (.of_blocks rfl rfl rfl rfl rfl rfl)⟩
  case silenceTick => exact ⟨_, rfl, live _ fun _ => h.silenceCounts⟩
  case silenceExpiry =>
    refine ⟨_, rfl, live _ fun _ => ?_⟩
    split
    · exact h.silenceExpires
    · exact h
  all_goals exact h.packet rfl

theorem millisecond (h : s.LightOk) : s.millisecond.LightOk := by
  have fans : LightKept s (s.setFanDrv (s.fanDrv.each fun _ x => x.millisecond)) := .each_fan fun _ _ => Iff.rfl
  exact State.whenLive_keeps h fun _ => h.kept (fans.trans (.of_blocks rfl rfl rfl rfl rfl rfl))

end State.LightOk

/-- Settles O55: a millisecond or the command at the front of the queue, each of which keeps the invariant. -/
theorem everyStepKeepsLight : Obligations.EveryStepKeepsLight := by
  intro s t h he
  unfold step at he
  split at he
  · cases he
    exact h.millisecond
  · rename_i i rest _
    have waits : (s.setPending rest).LightOk := h.kept (.of_blocks rfl rfl rfl rfl rfl rfl)
    obtain ⟨u, hu, ok⟩ := waits.exec i
    cases hu.symm.trans he
    exact ok

end Sys2Proof.Machine
end

section
/-! PROOF. O21: the pages of READ_STATUS and READ_LIGHT, and the commands of the state controller that change no operating
state. -/

namespace Sys2Proof.Machine

/-! ### Reports (R178, R183) -/

/-- A page shorter than eight bytes is filled up with 00h. -/
theorem page8_filled {bytes : List Byte} (fill : Nat) (h : bytes.length + fill = 8) : page8 bytes = bytes ++ List.replicate fill 0 := by
  have room : 8 - bytes.length = fill := by omega
  rw [page8, List.take_append, List.take_of_length_le (by omega), room, List.take_replicate]
  congr 2
  omega

theorem be16_toNat (w : BitVec 16) : be16 w.toNat = wordBytes w := by
  have high : BitVec.ofNat 8 (w.toNat / 256) = w.extractLsb' 8 8 := by
    apply BitVec.eq_of_toNat_eq
    rw [BitVec.toNat_ofNat, BitVec.extractLsb'_toNat, Nat.shiftRight_eq_div_pow]
  have low : BitVec.ofNat 8 w.toNat = w.extractLsb' 0 8 := by
    apply BitVec.eq_of_toNat_eq
    rw [BitVec.toNat_ofNat, BitVec.extractLsb'_toNat, Nat.shiftRight_zero]
  rw [be16, wordBytes, high, low]

/-- The three blind flags as one byte. -/
theorem State.blindByte_eq (s : State) :
    byte s.blindByte = [(if (s.zone .light).blind then 1 else 0) + (if (s.zone .panel).blind then 2 else 0) +
      (if (s.zone .air).blind then 4 else 0)] := by
  unfold State.blindByte State.isBlind
  generalize (s.zone .light).blind = light, (s.zone .panel).blind = panel, (s.zone .air).blind = air
  cases light <;> cases panel <;> cases air <;> rfl

section

variable {s : State} (takes : s.takes) (tag : Byte)
include takes

/-- READ_STATUS changes nothing but its answer (R177). -/
theorem exec_readStatus (page : Fin 3) :
    exec (.readStatus tag page) s = .next (s.onlyAnswered tag .ok (page8 (s.statusPage page))) :=
  congrArg _ (State.takePacket_same (run := readStatus page) (r := .okWith (page8 (s.statusPage page))) takes tag rfl)

/-- READ_LIGHT changes nothing but its answer (R63). -/
theorem exec_readLight (page : Fin 3) :
    exec (.readLight tag page) s = .next (s.onlyAnswered tag .ok (page8 (s.lightPage page))) :=
  congrArg _ (State.takePacket_same (run := readLight page) (r := .okWith (page8 (s.lightPage page))) takes tag rfl)

/-- READ_STATE changes nothing but its answer (R127). -/
theorem exec_readState : exec (.readState tag) s = .next (s.onlyAnswered tag .ok s.ctl.report) :=
  congrArg _ (State.takePacket_same (run := readState) (r := .okWith s.ctl.report) takes tag rfl)

end

/-! ### SET_INSTALL (R126) -/

theorem Orientation.ofCode_of_le {b : Byte} (h : 2 ≤ b.toNat) : Orientation.ofCode b = none := by
  unfold Orientation.ofCode
  split <;> first | omega | rfl

theorem Acoustic.ofCode_of_le {b : Byte} (h : 3 ≤ b.toNat) : Acoustic.ofCode b = none := by
  unfold Acoustic.ofCode
  split <;> first | omega | rfl

theorem Orientation.ofCode_code {b : Byte} {o : Orientation} (h : b.toNat = o.code) : Orientation.ofCode b = some o := by
  rw [Orientation.ofCode, h]
  cases o <;> rfl

theorem Acoustic.ofCode_code {b : Byte} {a : Acoustic} (h : b.toNat = a.code) : Acoustic.ofCode b = some a := by
  rw [Acoustic.ofCode, h]
  cases a <;> rfl

theorem setInstall_refused {orientation acoustic : Byte} {budget : BitVec 16}
    (h : 2 ≤ orientation.toNat ∨ 3 ≤ acoustic.toNat ∨ 1000 < budget.toNat) (s : State) :
    setInstall orientation acoustic budget s = answer .refusedRange s := by
  unfold setInstall
  split
  · rename_i o a ho ha
    have above : 1000 < budget.toNat := by
      rcases h with h | h | h
      · cases (Orientation.ofCode_of_le h).symm.trans ho
      · cases (Acoustic.ofCode_of_le h).symm.trans ha
      · exact h
    exact if_neg (Nat.not_le.2 above)
  · rfl

/-- Settles O21: the reports are their pages filled up to eight bytes, and each setting is its owner's work. -/
theorem statusReportsAndStateSettings : Obligations.StatusReportsAndStateSettings := by
  refine ⟨fun s tag temp takes htemp => ?_, fun s tag orientation acoustic budget takes => ?_⟩
  · have temps (z : ZoneId) : tempBytes (s.zone z).temp = temp z := by
      rw [htemp]
      cases (s.zone z).temp with
      | none => rfl
      | some t => exact be16_toNat _
    have length (z : ZoneId) : (temp z).length = 2 := by rw [← temps, tempBytes_length]
    have status0 : s.statusPage 0 = temp .light ++ temp .panel ++ temp .air ++ byte s.blindByte ++ byte s.zoneCtl.mode.code := by
      simp only [← temps]
      rfl
    simp only [exec_readStatus takes, exec_readLight takes]
    refine ⟨?_, ?_, ?_, ?_, ?_, ?_⟩
    · rw [status0, page8_filled 0 (by simp [length, byte]), s.blindByte_eq, List.replicate_zero, List.append_nil]
    · rw [page8_filled 1 rfl]
      rfl
    · rw [page8_filled 0 rfl]
      rfl
    · rw [page8_filled 0 rfl]
      rfl
    · rw [page8_filled 0 rfl, State.lightPage, flagByte_eq, List.replicate_zero, List.append_nil]
    · rw [page8_filled 2 rfl]
      rfl
  · refine ⟨fun h => ?_, fun o a ho ha hb => ?_, ?_, fun op => ?_, fun op => ?_⟩
    · exact congrArg _ (State.takePacket_answer takes tag (setInstall_refused h _))
    · refine congrArg _ (State.takePacket_work takes tag (?_ : _ = (s.countTaken.setCtl { s.ctl with
        orientation := o, acoustic := a, budget := budget.toNat }, .ok)))
      rw [setInstall, Orientation.ofCode_code ho, Acoustic.ofCode_code ha]
      exact if_pos hb
    · rw [exec_readState takes]
      refine congrArg (fun data => Host.Outcome.next (s.onlyAnswered tag .ok data)) ?_
      unfold StateCtl.report
      cases s.ctl.runOn <;> cases s.ctl.lastTrip <;> rfl
    · refine congrArg _ (State.takePacket_work takes tag (?_ : _ = (s.countTaken.setCtl { s.ctl with resetPending := true }, .ok)))
      exact if_pos op
    · refine congrArg _ (State.takePacket_answer takes tag (r := .refusedState) ?_)
      exact if_neg op

end Sys2Proof.Machine
end

section
/-! PROOF. O26: SET_LIGHT and SET_LIGHT_RAMP, a ramp tick, and the period boundaries of the PWM outputs. -/

namespace Sys2Proof.Machine

/-! ### The light record after a write (R55, R58 to R60) -/

/-- The governing limiter is the first, in the order SAFETY, MOTION, THERMAL, USER, that no other undercuts (R55). -/
theorem Light.governor_eq (l : Light) : l.governor =
    if l.safety ≤ l.motion ∧ l.safety ≤ l.thermal ∧ l.safety ≤ l.user then .safety
    else if l.motion ≤ l.thermal ∧ l.motion ≤ l.user then .motion
    else if l.thermal ≤ l.user then .thermal else .user := by
  have safety : l.safety = l.lowest ↔ l.safety ≤ l.motion ∧ l.safety ≤ l.thermal ∧ l.safety ≤ l.user := by
    simp only [Light.lowest]
    omega
  rw [Light.governor, if_congr safety rfl rfl]
  split
  · rfl
  · have motion : l.motion = l.lowest ↔ l.motion ≤ l.thermal ∧ l.motion ≤ l.user := by
      simp only [Light.lowest]
      omega
    rw [if_congr motion rfl rfl]
    split
    · rfl
    · have thermal : l.thermal = l.lowest ↔ l.thermal ≤ l.user := by
        simp only [Light.lowest]
        omega
      rw [if_congr thermal rfl rfl]

/-- Below SAFETY and MOTION a write moves the target alone, and the applied level follows by the ramp (R58, R59). -/
theorem Light.reform_of_le {l : Light} (safety : l.applied ≤ l.safety) (motion : l.applied ≤ l.motion) :
    l.reform = { l with target := l.lowest, governing := l.governor } := by
  have drop : ¬ (l.safety < l.applied ∨ l.motion < l.applied) := by omega
  rw [Light.reform_eq, if_neg drop, if_neg drop]

/-- A ramp tick sets the applied level a ramp step nearer to the target, and no further than it (R59). -/
theorem Light.ramp_eq (l : Light) : l.ramp = l.setApplied
    (if l.applied < l.target then min (l.applied + l.rampStep) l.target
      else if l.target < l.applied then max (l.applied - l.rampStep) l.target else l.applied) := by
  unfold Light.ramp
  split
  · rfl
  · split <;> rfl

theorem rampInRange_iff (rampStep blankLevel : Nat) :
    rampInRange rampStep blankLevel = true ↔ 1 ≤ rampStep ∧ rampStep ≤ 4095 ∧ blankLevel ≤ 4095 := by
  simp only [rampInRange, Bool.and_eq_true, decide_eq_true_eq, and_assoc]
  rfl

/-- Settles O26: the two commands as the light drive takes them, and the events of the ramp and of the PWM outputs. -/
theorem lightCommandsAndTicks : Obligations.LightCommandsAndTicks := by
  refine ⟨fun s tag level rampStep blankLevel takes safety motion => ⟨fun le => ?_, fun gt => ?_, fun low high blank => ?_,
    fun out => ?_⟩, fun s f applied live happlied => ⟨?_, ?_, ?_⟩⟩
  · have written : s.light.setUser level.toNat = _ :=
      Light.reform_of_le (l := { s.light with user := level.toNat }) safety motion
    rw [Light.governor_eq] at written
    have taken : setLight level s.countTaken = (s.countTaken.setLight (s.light.setUser level.toNat), .ok) := if_pos le
    rw [written] at taken
    exact congrArg _ (State.takePacket_work takes tag taken)
  · have refused : setLight level s.countTaken = answer .refusedRange s.countTaken := if_neg (Nat.not_le.2 gt)
    exact congrArg _ (State.takePacket_answer takes tag refused)
  · have taken : setLightRamp rampStep blankLevel s.countTaken =
        (s.countTaken.setLight { s.light with rampStep := rampStep.toNat, blankLevel := blankLevel.toNat }, .ok) :=
      if_pos ((rampInRange_iff _ _).2 ⟨low, high, blank⟩)
    exact congrArg _ (State.takePacket_work takes tag taken)
  · have refused : setLightRamp rampStep blankLevel s.countTaken = answer .refusedRange s.countTaken :=
      if_neg (by rw [rampInRange_iff]; omega)
    exact congrArg _ (State.takePacket_answer takes tag refused)
  · have ramped : s.light.ramp = { s.light with applied := applied, pwmBuffer := applied } := by
      rw [Light.ramp_eq, ← happlied]
      rfl
    have tick : exec .rampTick s = .next (s.setLight s.light.ramp) := congrArg _ (State.whenLive_of_live live _)
    rw [tick, ramped]
    rfl
  · refine ⟨s.setLight s.light.pwmBoundary, congrArg _ (State.whenLive_of_live live _), rfl, fun n => ?_⟩
    simp [State.lightPwmHigh, State.live, live, Light.pwmBoundary]
  · refine ⟨s.setFan f (s.fan f).pwmBoundary, congrArg _ (State.whenLive_of_live live _), State.fan_setFan .., fun g hg => ?_, rfl,
      fun n => ?_⟩
    · exact State.fan_setFan_of_ne _ hg _
    · simp [State.fanPwmHigh, State.live, live, Fan.pwmBoundary]

end Sys2Proof.Machine
end

section
/-! PROOF. O51: how an axis takes the first leg of a move, and how the executing request starts its axes on the rail. -/

namespace Sys2Proof.Machine

/-! ### First legs (R135, R136, R139) -/

/-- The axis as a move is handed to it, its first leg granted, before an end-stop can stop it (R136, R139). -/
def Axis.granted (x : Axis) (approach : Dir) (target : Nat) : Axis :=
  let goal := x.clampTarget target
  let owed := !inApproach approach x.position goal
  ({ x with state := .moving, plan := some { target := goal, clamped := decide (x.limit < target), owed := owed } } : Axis).startLeg
    (if owed then x.overshoot approach goal else goal)

section

variable {x : Axis} {approach : Dir} {target : Nat}

/-- A move to another position is granted its first leg, which an active end-stop stops at once (R135, R139). -/
theorem Axis.takeMove_of_needsLeg (needs : x.needsLeg target = true) :
    x.takeMove approach target = (x.granted approach target).checkEndstops :=
  if_neg (of_decide_eq_true needs)

/-- A move to the position the axis stands at is done at once (R139). -/
theorem Axis.takeMove_at_target (none : x.needsLeg target = false) :
    x.takeMove approach target = (x, .outcome (.done (decide (x.limit < target)))) :=
  if_pos (not_not.1 (of_decide_eq_false none))

/-- A leg away from the position runs toward its end, and as far (R134, R136). -/
theorem Axis.startLeg_eq {last : Nat} (away : last ≠ x.position) : x.startLeg last = { x with
    leg := some { dir := if x.position < last then .positive else .negative
                  left := if x.position < last then last - x.position else x.position - last }
    vel := x.vstart, acc := 0, dirPin := decide (x.position < last) } := by
  rcases Nat.lt_or_gt_of_ne away with below | above
  · have notAbove : ¬ x.position < last := by omega
    have left : distance x.position last = x.position - last := by rw [distance]; omega
    simp only [Axis.startLeg, towards, left, if_pos below, if_neg notAbove, decide_eq_false notAbove, Dir.high]
  · have notBelow : ¬ last < x.position := by omega
    have left : distance x.position last = last - x.position := by rw [distance]; omega
    simp only [Axis.startLeg, towards, left, if_neg notBelow, if_pos above, decide_eq_true above, Dir.high]

theorem inApproach_eq (approach : Dir) (position target : Nat) : inApproach approach position target =
    decide (if approach = .positive then position < target else target < position) := by
  cases approach <;> simp [inApproach]

/-- The overshoot point lies beyond the target, so that the first leg is never one of distance 0 (R139). -/
theorem Axis.firstEnd_ne_position {goal : Nat} (within : goal ≤ x.limit) (away : goal ≠ x.position) :
    (if !inApproach approach x.position goal then x.overshoot approach goal else goal) ≠ x.position := by
  split
  · rename_i owed
    cases approach <;> simp only [inApproach, Bool.not_eq_true', decide_eq_false_iff_not] at owed <;>
      simp only [Axis.overshoot] <;> omega
  · exact away

/-- The granted axis, field by field. -/
theorem Axis.granted_eq {goal firstEnd : Nat} {owed : Bool} (hgoal : goal = min target x.limit) (away : goal ≠ x.position)
    (howed : owed = !decide (if approach = .positive then x.position < goal else goal < x.position))
    (hfirst : firstEnd = if owed = false then goal else if approach = .positive then goal - x.backlash
      else min (goal + x.backlash) x.limit) :
    x.granted approach target = { x with
      state := .moving, vel := x.vstart, acc := 0
      plan := some { target := goal, clamped := decide (x.limit < target), owed := owed }
      dirPin := decide (x.position < firstEnd)
      leg := some { dir := if x.position < firstEnd then .positive else .negative
                    left := if x.position < firstEnd then firstEnd - x.position else x.position - firstEnd } } := by
  have limited : x.clampTarget target = goal := hgoal.symm
  have owes : (!inApproach approach x.position goal) = owed := by rw [howed, inApproach_eq]
  have last : (if !inApproach approach x.position goal then x.overshoot approach goal else goal) = firstEnd := by
    rw [owes, hfirst]
    cases owed <;> cases approach <;> rfl
  have apart := Axis.firstEnd_ne_position (approach := approach) (by omega : goal ≤ x.limit) away
  rw [last] at apart
  unfold Axis.granted
  dsimp only
  rw [limited, last, owes]
  exact Axis.startLeg_eq apart

theorem Axis.anyActive_iff (x : Axis) : x.anyActive = true ↔
    x.lowEnable = true ∧ x.lowLevel ≠ x.lowFalling ∨ x.highEnable = true ∧ x.highLevel ≠ x.highFalling := by
  simp only [Axis.anyActive, Axis.lowActive, Axis.highActive, inputActive, Bool.or_eq_true, Bool.and_eq_true, bne_iff_ne]

/-- A grant moves no end-stop input, so that the leg meets the end-stops that the axis stands at (R135). -/
theorem Axis.granted_anyActive (x : Axis) (approach : Dir) (target : Nat) : (x.granted approach target).anyActive = x.anyActive := rfl

/-- An axis whose first leg has begun is brought to a stop (R145). -/
theorem Axis.granted_stoppedAside (x : Axis) (approach : Dir) (target : Nat) :
    (x.granted approach target).stoppedAside = { x.granted approach target with state := .stopping, stopHoming := false } := rfl

/-- An axis that an end-stop has stopped has no stop request to obey. -/
theorem Axis.abrupt_stoppedAside (x : Axis) : x.abrupt.stoppedAside = x.abrupt := rfl

end

/-! ### A request just started, judged against the rail (R155, R157, R158) -/

/-- The part executes a request that has just started a move, with both axes in IDLE. -/
structure State.HasStarted (s : State) (x : Executing) : Prop where
  executing : s.motion.executing = some x
  running : x.req.phase = .running
  goesOn : x.req.stopReq = false
  moves : x.req.job.isHome = false
  together : x.inSequence = false
  idle : ∀ a, (s.axis a).state = .idle

/-- A leg start of an idle axis of the request: the axis as it takes its move, and what it hands back. -/
def State.startOf (s : State) (x : Executing) (a : AxisId) : Axis × AxisEvent :=
  (s.axis a).takeMove (s.approachOf a) (x.target a)

/-- The part once an end-stop has ended the executing request at the start of a leg (R135, R157, R161, R164). -/
def State.stoppedAtStart (s : State) (x : Executing) : State :=
  { s with
    light := if s.motion.blankHold then s.light.release else s.light
    motion := { s.motion with
      executing := none, railTimer := none, blankHold := false, history := s.putFirst .endstop s.motion.history x.req }
    chan := (s.chan.raise .endstop).raise .motionDone }

/-- The end of the executing request, whole (R157, R161, R164). -/
theorem State.endRequest_eq {s : State} {x : Executing} (hx : s.motion.executing = some x) (res : MotionResult) :
    s.endRequest res = { s with
      light := if s.motion.blankHold then s.light.release else s.light
      motion := { s.motion with
        executing := none, railTimer := none, blankHold := false, history := s.putFirst res s.motion.history x.req }
      chan := s.chan.raise .motionDone } := by
  have held : (s.record x.req res).motion.blankHold = s.motion.blankHold := rfl
  rw [State.endRequest, hx]
  unfold State.releaseHold
  dsimp only
  rw [held]
  cases h : s.motion.blankHold with
  | true => rfl
  | false =>
    simp only [Bool.false_eq_true, if_false]
    rw [← h]
    rfl

/-- An end-stop that stops an axis with work in hand ends the request, and the other axis is brought to a stop (R144,
R157). -/
theorem State.takeEvent_endstop {s : State} {x : Executing} {a : AxisId} (hx : s.motion.executing = some x)
    (active : x.work a = .active) (side : EndSide) :
    s.takeEvent a (.outcome (.endstop side)) = (s.stoppedAtStart x).setAxis (otherAxis a)
      (if x.work (otherAxis a) = .active then (s.axis (otherAxis a)).stoppedAside else s.axis (otherAxis a)) := by
  have noted : s.takeEvent a (.outcome (.endstop side)) =
      ((s.raise .endstop).endRequest .endstop).stopRequestAxes (x.setWork a .finished) := by
    simp only [State.takeEvent, AxisOutcome.flags, State.noteOutcome, State.raise_fields, hx, active, if_true]
  rw [noted, State.stopRequestAxes_eq, State.endRequest_eq (s := s.raise .endstop) hx]
  cases a <;> rfl

/-- Setting a flag that is set already changes nothing (R173). -/
theorem ChanState.raise_again (c : ChanState) (d e : EventFlag) : ((c.raise d).raise e).raise d = (c.raise d).raise e := by
  have masks : d.mask ||| (e.mask ||| d.mask) = d.mask ||| e.mask := by
    rw [BitVec.or_comm e.mask, ← BitVec.or_assoc, BitVec.or_self]
  simp only [ChanState.raise, BitVec.or_assoc, masks]

/-- Once the request has ended, another end-stop of its legs changes nothing. -/
theorem State.stoppedAtStart_takeEvent (s : State) (x : Executing) (b : AxisId) (y : Axis) (a : AxisId) (side : EndSide) :
    ((s.stoppedAtStart x).setAxis b y).takeEvent a (.outcome (.endstop side)) = (s.stoppedAtStart x).setAxis b y := by
  have raised : (s.stoppedAtStart x).raise .endstop = s.stoppedAtStart x :=
    congrArg (s.stoppedAtStart x).setChan (s.chan.raise_again .endstop .motionDone)
  have still : ((s.stoppedAtStart x).setAxis b y).raise .endstop = (s.stoppedAtStart x).setAxis b y := by
    cases b
    · exact congrArg (fun t => t.setAxis .h y) raised
    · exact congrArg (fun t => t.setAxis .v y) raised
  rw [State.takeEvent, AxisOutcome.flags, still]
  cases b <;> rfl

/-! ### The rail's judgement (R155, R158) -/

theorem State.carryOn_of_none {s : State} (h : s.motion.executing = none) (fuel : Nat) : s.carryOn fuel = s := by
  cases fuel with
  | zero => rfl
  | succ fuel => rw [State.carryOn, h]

namespace State.HasStarted

variable {s : State} {x : Executing} (c : s.HasStarted x)
include c

theorem wantsStart (a : AxisId) : s.wantsStart x a = decide (x.work a = .owed) := by
  have waits : (s.axis a).waits = false := by simp [Axis.waits, c.idle a]
  have free : x.holdsBackH = false := by simp [Executing.holdsBackH, c.moves, c.together]
  simp [State.wantsStart, waits, free]

/-- With both axes idle the rail carries the fans and what starts (R155). -/
theorem railAllows (add : Nat) : s.railAllows add = decide (s.fanDraw + add ≤ s.ctl.budget) := by
  have h : s.axisH.inMotion = false := by rw [Axis.inMotion, show s.axisH.state = .idle from c.idle .h]
  have v : s.axisV.inMotion = false := by rw [Axis.inMotion, show s.axisV.state = .idle from c.idle .v]
  simp [State.railAllows, Axis.movingDraw, h, v]

/-- A start that the rail does not carry makes the request wait (R155). -/
theorem holdStart : s.holdStart x =
    s.setMotion { s.motion with executing := some (x.setPhase .waitRail), railTimer := some 10000 } := by
  have h : s.axisH.inMotion = false := by rw [Axis.inMotion, show s.axisH.state = .idle from c.idle .h]
  have v : s.axisV.inMotion = false := by rw [Axis.inMotion, show s.axisV.state = .idle from c.idle .v]
  have running : x.req.phase ≠ .waitRail := by simp [c.running]
  simp [State.holdStart, h, v, running, Config.railWaitTime]

theorem judgeRail_both (h : x.hWork = .owed) (v : x.vWork = .owed) : s.judgeRail x =
    if s.fanDraw + (s.axisH.current + s.axisV.current) ≤ s.ctl.budget then s.startBoth x
    else if s.fanDraw + s.axisV.current ≤ s.ctl.budget then s.startOne { x with inSequence := true } .v
    else (s.holdStart x, .quiet, .quiet) := by
  have hh : s.wantsStart x .h = true := (c.wantsStart .h).trans (decide_eq_true h)
  have hv : s.wantsStart x .v = true := (c.wantsStart .v).trans (decide_eq_true v)
  simp only [State.judgeRail, hh, hv, c.railAllows, decide_eq_true_eq, h, if_true]

theorem judgeRail_alone {a : AxisId} (owed : x.work a = .owed) (other : x.work (otherAxis a) ≠ .owed) : s.judgeRail x =
    if s.fanDraw + (s.axis a).current ≤ s.ctl.budget then s.startOne x a else (s.holdStart x, .quiet, .quiet) := by
  have ha := (c.wantsStart a).trans (decide_eq_true owed)
  have ho := (c.wantsStart (otherAxis a)).trans (decide_eq_false other)
  cases a <;> simp only [otherAxis] at ho <;> simp only [State.judgeRail, ha, ho, c.railAllows, decide_eq_true_eq] <;> rfl

/-- A request with work left goes on by the rail's judgement: silent starts stand, any other is followed at once (R155,
R157). -/
theorem carryOn_judged (left : x.allFinished = false) {t : State} {eh ev : AxisEvent} (judged : s.judgeRail x = (t, eh, ev))
    (fuel : Nat) : s.carryOn (fuel + 1) =
      if eh = .quiet ∧ ev = .quiet then t else ((t.takeEvent .h eh).takeEvent .v ev).carryOn fuel := by
  have running : x.req.phase ≠ .switching := by simp [c.running]
  rw [State.carryOn, c.executing]
  simp only [running, c.goesOn, left, judged, if_false, Bool.false_eq_true]
  cases eh <;> cases ev <;> simp

end State.HasStarted

/-! ### The starts themselves (R135, R136, R139, R157) -/

/-- A leg start where no end-stop is active, or where one is. -/
theorem State.startOf_cases {s : State} {x : Executing} {a : AxisId} (needs : (s.axis a).needsLeg (x.target a) = true) :
    ((s.axis a).anyActive = false ∧ s.startOf x a = ((s.axis a).granted (s.approachOf a) (x.target a), .quiet)) ∨
    ((s.axis a).anyActive = true ∧
      ∃ side, s.startOf x a = (((s.axis a).granted (s.approachOf a) (x.target a)).abrupt, .outcome (.endstop side))) := by
  have taken : s.startOf x a = ((s.axis a).granted (s.approachOf a) (x.target a)).checkEndstops := Axis.takeMove_of_needsLeg needs
  rw [taken, ← Axis.granted_anyActive (s.axis a) (s.approachOf a) (x.target a)]
  rcases ((s.axis a).granted (s.approachOf a) (x.target a)).checkEndstops_cases with ⟨active, side, e⟩ | ⟨active, e⟩
  · exact .inr ⟨active, side, e⟩
  · exact .inl ⟨active, e⟩

/-- The part with one axis of the executing request started, or with both. -/
def State.oneStarted (s : State) (x : Executing) (a : AxisId) : State :=
  (s.resume (x.setWork a .active)).setAxis a (s.startOf x a).1

/-- The part with both axes of the executing request started. -/
def State.bothStarted (s : State) (x : Executing) : State :=
  ((s.resume { x with hWork := .active, vWork := .active }).setAxis .h (s.startOf x .h).1).setAxis .v (s.startOf x .v).1

theorem State.beginAxis_of_owed {x : Executing} {a : AxisId} (moves : x.req.job.isHome = false) (owed : x.work a = .owed)
    (s : State) : s.beginAxis x a = (s.setAxis a (s.startOf x a).1, (s.startOf x a).2) := by
  simp only [State.beginAxis, owed, moves]
  rfl

theorem State.startOne_eq {s : State} {x : Executing} {a : AxisId} (moves : x.req.job.isHome = false) (owed : x.work a = .owed) :
    s.startOne x a =
      (s.oneStarted x a, if a = .h then (s.startOf x a).2 else .quiet, if a = .h then .quiet else (s.startOf x a).2) := by
  rw [State.startOne, State.beginAxis_of_owed moves owed]
  cases a <;> rfl

theorem State.startBoth_eq {s : State} {x : Executing} (moves : x.req.job.isHome = false) (owed : ∀ a, x.work a = .owed) :
    s.startBoth x = (s.bothStarted x, (s.startOf x .h).2, (s.startOf x .v).2) := by
  rw [State.startBoth, State.beginAxis_of_owed moves (owed .h)]
  dsimp only
  rw [State.beginAxis_of_owed moves (owed .v)]
  rfl

namespace State.HasStarted

variable {s : State} {x : Executing} (c : s.HasStarted x) (left : x.allFinished = false) (fuel : Nat)
include c left

/-- One axis starts alone: its first leg stands, or an end-stop ends the request as it starts (R135, R155, R157). -/
theorem carryOn_startOne {y : Executing} {a : AxisId} (judged : s.judgeRail x = s.startOne y a) (moves : y.req.job.isHome = false)
    (owed : y.work a = .owed) (other : y.work (otherAxis a) ≠ .active) (needs : (s.axis a).needsLeg (y.target a) = true) :
    s.carryOn (fuel + 1) = if (s.axis a).anyActive then
      (s.oneStarted y a).stoppedAtStart ((y.setWork a .active).setPhase .running) else s.oneStarted y a := by
  rw [State.startOne_eq moves owed] at judged
  have run := c.carryOn_judged left judged fuel
  rcases State.startOf_cases (s := s) needs with ⟨free, starts⟩ | ⟨active, side, starts⟩
  · rw [run, starts, free]
    cases a <;> rfl
  · have ends : (s.oneStarted y a).takeEvent a (.outcome (.endstop side)) =
        (s.oneStarted y a).stoppedAtStart ((y.setWork a .active).setPhase .running) := by
      rw [State.takeEvent_endstop (x := (y.setWork a .active).setPhase .running) (by cases a <;> rfl) (by cases a <;> rfl),
        if_neg (by cases a <;> exact other)]
      cases a <;> rfl
    rw [run, starts, active, if_neg (by cases a <;> simp)]
    cases a <;> exact (congrArg (State.carryOn · fuel) ends).trans (State.carryOn_of_none rfl fuel)

/-- Both axes start together: their first legs stand, or an end-stop ends the request as they start, with a stop request to
the axis that has begun (R135, R155, R157; notes/assumptions/15.md). -/
theorem carryOn_startBoth (judged : s.judgeRail x = s.startBoth x) (owed : ∀ a, x.work a = .owed)
    (needs : ∀ a, (s.axis a).needsLeg (x.target a) = true) :
    ((∀ a, (s.axis a).anyActive = false) → s.carryOn (fuel + 1) = s.bothStarted x) ∧
    ((∃ a, (s.axis a).anyActive = true) → s.carryOn (fuel + 1) =
      (((s.bothStarted x).stoppedAtStart ({ x with hWork := .active, vWork := .active }.setPhase .running)).setAxis .h
        (s.startOf x .h).1.stoppedAside).setAxis .v (s.startOf x .v).1.stoppedAside) := by
  let y : Executing := { x with hWork := .active, vWork := .active }.setPhase .running
  let t := (s.bothStarted x).stoppedAtStart y
  have ends (a : AxisId) (side : EndSide) : (s.bothStarted x).takeEvent a (.outcome (.endstop side)) =
      t.setAxis (otherAxis a) (s.startOf x (otherAxis a)).1.stoppedAside := by
    rw [State.takeEvent_endstop (x := y) rfl (by cases a <;> rfl), if_pos (by cases a <;> rfl)]
    cases a <;> rfl
  have stopped (a : AxisId) (active : (s.axis a).anyActive = true) : (s.startOf x a).1.stoppedAside = (s.startOf x a).1 := by
    rcases State.startOf_cases (s := s) (needs a) with ⟨free, -⟩ | ⟨-, side, starts⟩
    · cases free.symm.trans active
    · rw [starts, Axis.abrupt_stoppedAside]
  rw [State.startBoth_eq c.moves owed] at judged
  rw [c.carryOn_judged left judged fuel]
  refine ⟨fun free => ?_, fun ⟨a, active⟩ => ?_⟩
  · have quiet (a : AxisId) : (s.startOf x a).2 = .quiet := by
      rcases State.startOf_cases (s := s) (needs a) with ⟨-, starts⟩ | ⟨active, -⟩
      · rw [starts]
      · cases (free a).symm.trans active
    rw [quiet, quiet, if_pos ⟨rfl, rfl⟩]
  · rcases State.startOf_cases (s := s) (needs .h) with ⟨hFree, hs⟩ | ⟨hActive, side, hs⟩
    · have vActive : (s.axis .v).anyActive = true := by
        cases a with
        | h => cases hFree.symm.trans active
        | v => exact active
      obtain ⟨-, side, vs⟩ := (State.startOf_cases (s := s) (needs .v)).resolve_left fun k => nomatch k.1.symm.trans vActive
      have stops : (s.startOf x .v).2 = .outcome (.endstop side) := congrArg Prod.snd vs
      rw [congrArg Prod.snd hs, stops, if_neg (by simp), stopped .v vActive]
      exact (congrArg (State.carryOn · fuel) (ends .v side)).trans (State.carryOn_of_none rfl fuel)
    · have stops : (s.startOf x .h).2 = .outcome (.endstop side) := congrArg Prod.snd hs
      have done : (t.setAxis .v (s.startOf x .v).1.stoppedAside).takeEvent .v (s.startOf x .v).2 =
          t.setAxis .v (s.startOf x .v).1.stoppedAside := by
        rcases State.startOf_cases (s := s) (needs .v) with ⟨-, vs⟩ | ⟨-, vSide, vs⟩ <;> rw [vs]
        · rfl
        · exact State.stoppedAtStart_takeEvent ..
      rw [stops, if_neg (by simp), stopped .h hActive, ends .h side]
      exact (congrArg (State.carryOn · fuel) done).trans (State.carryOn_of_none rfl fuel)

end State.HasStarted

end Sys2Proof.Machine
end

section
/-! PROOF. O51: a recall taken by an idle queue, from its packet to the judgement of its leg starts. -/

namespace Sys2Proof.Machine

/-! ### A request that an idle queue starts at once (R152, R153) -/

/-- A request that is taken into an idle queue starts at once, with its answer behind it (R152, R153, R170). -/
theorem State.takePacket_enqueue {s : State} (takes : s.takes) (queue : s.motion.queue = []) (start : s.mayStart = true)
    (tag : Byte) (j : Job) {run : Owner} (owner : run s.countTaken = enqueue tag j s.countTaken) :
    s.takePacket tag run = (s.startRequest (.fresh tag j)).besides s.motion.queue (s.chan.taken + 1)
      (s.chan.entries ++ [{ tag := tag, reply := { result := .queued, data := [1] } }]) := by
  let u := s.besides [.fresh tag j] (s.chan.taken + 1) s.chan.entries
  have appended : s.countTaken.append (.fresh tag j) = u := by
    simp only [State.append, State.countTaken, u, State.besides, State.setChan_fields, queue]
    rfl
  have moves : s.countTaken.ctl.op.moves = true := by
    simp only [State.mayStart, Bool.and_eq_true] at start
    exact start.2
  have room : s.countTaken.motion.queue.length = 0 := congrArg List.length queue
  have queued : enqueue tag j s.countTaken = (u.pump, { result := .queued, data := [1] }) := by
    rw [enqueue, moves, room, appended]
    rfl
  have pumped : u.pump = (s.startRequest (.fresh tag j)).besides [] (s.chan.taken + 1) s.chan.entries := by
    rw [u.pump_head 0 [] (.fresh tag j) [] rfl start (.inr rfl), besides_startRequest]
    rfl
  rw [State.takePacket_work takes tag (owner.trans queued), pumped, queue]
  rfl

theorem State.mayStart_of_idle {s : State} (op : s.ctl.op = .lit ∨ s.ctl.op = .cooldown) (executing : s.motion.executing = none)
    (h : s.axisH.state = .idle) (v : s.axisV.state = .idle) : s.mayStart = true := by
  rcases op with op | op <;> simp [State.mayStart, executing, h, v, op, OpState.moves]

/-- A recall of a VALID preset that an idle queue takes starts at once with a copy of the preset (R152, R153). -/
theorem exec_recallPreset {s : State} (takes : s.takes) (queue : s.motion.queue = []) (start : s.mayStart = true) (tag : Byte)
    {b : Byte} {n : Fin 12} (hb : b.toNat = n.val) (valid : (s.motion.presets[n]).valid = true) :
    exec (.recallPreset tag b) s = .next ((s.startRequest (.fresh tag (.recall n.val s.motion.presets[n]))).besides s.motion.queue
      (s.chan.taken + 1) (s.chan.entries ++ [{ tag := tag, reply := { result := .queued, data := [1] } }])) := by
  have owner : recallPreset tag b s.countTaken = enqueue tag (.recall n.val s.motion.presets[n]) s.countTaken := by
    have stored : (s.countTaken.motion.presets[n]).valid = true := valid
    rw [recallPreset, index_of_eq n hb]
    dsimp only
    rw [stored]
    rfl
  exact congrArg _ (s.takePacket_enqueue takes queue start tag _ owner)

/-! ### A recall's hold and the axes that need no leg (R56, R154, R158) -/

/-- The executing request that a recall of the preset copy becomes (R153, R158). -/
def Executing.ofRecall (tag : Byte) (k : Nat) (p : Preset) : Executing :=
  { req := { tag := tag, job := .recall k p, phase := .running, clamped := false, stopReq := false }
    hWork := .owed, vWork := .owed, hTarget := p.hTarget, vTarget := p.vTarget, inSequence := false }

theorem State.executingOf_recall (s : State) (tag : Byte) (k : Nat) (p : Preset) :
    s.executingOf (.fresh tag (.recall k p)) = .ofRecall tag k p := rfl

/-- The light record once a recall of the preset has started (R56, R158). -/
def State.heldLight (s : State) (p : Preset) : Light := if p.blank ∧ s.ctl.op = .lit then s.light.hold else s.light

/-- The part executing a recall of the preset, its blank hold taken (R158). -/
def State.underRecall (s : State) (p : Preset) (x : Executing) : State :=
  { s with
    light := s.heldLight p
    motion := { s.motion with executing := some x, blankHold := p.blank && decide (s.ctl.op = .lit) } }

theorem State.takeHold_recall {s : State} (free : s.motion.blankHold = false) (x : Executing) (k : Nat) (p : Preset) :
    (s.setExecuting (some x)).takeHold (.recall k p) = s.underRecall p x := by
  have op : (s.setExecuting (some x)).ctl.op = s.ctl.op := rfl
  unfold State.takeHold State.underRecall State.heldLight
  dsimp only
  rw [op]
  by_cases h : p.blank = true ∧ s.ctl.op = .lit
  · have held : (p.blank && decide (s.ctl.op = .lit)) = true := by simp [h]
    rw [if_pos h, if_pos h, held]
    rfl
  · have held : (p.blank && decide (s.ctl.op = .lit)) = s.motion.blankHold := by
      rw [free, Bool.and_eq_false_iff, decide_eq_false_iff_not, ← Bool.not_eq_true]
      exact not_and_or.1 h
    rw [if_neg h, if_neg h, held]
    rfl

/-- The request with an axis's work finished where the axis needs no leg, its mark of a clamped target kept (R154, R158). -/
def State.finishIdle (s : State) (x : Executing) (a : AxisId) : Executing :=
  if (s.axis a).needsLeg (x.target a) then x
  else { x.setWork a .finished with req := { x.req with clamped := x.req.clamped || decide ((s.axis a).limit < x.target a) } }

theorem State.handIdle_eq {s : State} {x : Executing} {a : AxisId} (executing : s.motion.executing = some x)
    (moves : x.req.job.isHome = false) (owed : x.work a = .owed) :
    s.handIdle a = s.setExecuting (some (s.finishIdle x a)) := by
  have same : s.setExecuting (some x) = s := by rw [← executing]; rfl
  rw [State.handIdle, executing, State.finishIdle]
  dsimp only
  cases needs : (s.axis a).needsLeg (x.target a) with
  | true => simp [same]
  | false =>
    rw [if_pos (by simp [owed, moves]), Axis.takeMove_at_target needs]
    cases a <;> rfl

/-- What is finished on one axis leaves the request's job, its targets and its other work. -/
theorem State.finishIdle_frame (s : State) (x : Executing) (a : AxisId) :
    (s.finishIdle x a).req.job = x.req.job ∧ (s.finishIdle x a).work (otherAxis a) = x.work (otherAxis a) := by
  unfold State.finishIdle
  split
  · exact ⟨rfl, rfl⟩
  · cases a <;> exact ⟨rfl, rfl⟩

theorem State.underRecall_handIdle {s : State} {p : Preset} {x : Executing} {a : AxisId} (moves : x.req.job.isHome = false)
    (owed : x.work a = .owed) : (s.underRecall p x).handIdle a = s.underRecall p (s.finishIdle x a) := by
  rw [State.handIdle_eq (x := x) rfl moves owed]
  cases a <;> rfl

/-- A recall that finds both axes homed hands each the move that needs no leg, and goes on (R158). -/
theorem State.startRequest_recall {s : State} {tag : Byte} {k : Nat} {p : Preset} (free : s.motion.blankHold = false)
    (h : s.axisH.homed = true) (v : s.axisV.homed = true) :
    s.startRequest (.fresh tag (.recall k p)) = (s.underRecall p
      (s.finishIdle (s.finishIdle (.ofRecall tag k p) .h) .v)).carryOn carryFuel := by
  have homed : (Request.fresh tag (.recall k p)).job.needsHoming s = false := by
    simp [Request.fresh, Job.needsHoming, Job.isHome, h, v]
  let x : Executing := .ofRecall tag k p
  obtain ⟨job, work⟩ := s.finishIdle_frame x .h
  have moves : (s.finishIdle x .h).req.job.isHome = false := by rw [job]; rfl
  have owed : (s.finishIdle x .h).work .v = .owed := work
  rw [State.startRequest, s.executingOf_recall, homed, if_neg Bool.false_ne_true,
    show (Request.fresh tag (.recall k p)).job = .recall k p from rfl, State.takeHold_recall free, State.underRecall_handIdle rfl rfl, State.underRecall_handIdle moves owed]

/-- A recall that finds an axis unhomed ends NOT_HOMED (R154, R158). -/
theorem State.startRequest_notHomed {s : State} {tag : Byte} {k : Nat} {p : Preset}
    (unhomed : s.axisH.homed = false ∨ s.axisV.homed = false) :
    s.startRequest (.fresh tag (.recall k p)) =
      (s.setExecuting (some (.ofRecall tag k p))).endRequest .notHomed := by
  have needs : (Request.fresh tag (.recall k p)).job.needsHoming s = true := by
    simpa [Request.fresh, Job.needsHoming, Job.isHome, Job.involves] using unhomed
  rw [State.startRequest, s.executingOf_recall, needs, if_pos rfl]

/-- A motion queue that executes nothing and holds nothing is the same after a request's end but for the history and the
rail timer. -/
theorem Motion.ended_eq {m : Motion} (executing : m.executing = none) (free : m.blankHold = false) (rail : Option Nat)
    (history : List HistEntry) :
    ({ m with executing := none, railTimer := rail, blankHold := false, history := history } : Motion) =
      { m with railTimer := rail, history := history } := by
  rw [← executing, ← free]

/-- The light record once a recall of the preset that took the blank hold has let go of it (R56, R161). -/
def State.freedLight (s : State) (p : Preset) : Light := if p.blank ∧ s.ctl.op = .lit then s.light.hold.release else s.light

/-- A hold takes MOTION to the blank level, with an immediate drop where the applied level stands above it (R55, R56, R58). -/
theorem Light.hold_eq {l : Light} (low : l.applied ≤ l.safety) :
    let target := min (min l.safety l.blankLevel) (min l.thermal l.user)
    let held : Light := { l with motion := l.blankLevel, motionHeld := true }
    l.hold = { held with
      target := target, governing := held.governor
      applied := if l.blankLevel < l.applied then target else l.applied
      pwmBuffer := if l.blankLevel < l.applied then target else l.pwmBuffer } := by
  have drop : (l.safety < l.applied ∨ l.blankLevel < l.applied) ↔ l.blankLevel < l.applied := by omega
  rw [Light.hold, Light.reform_eq]
  simp only [drop, Light.lowest]

/-- What the blank hold makes of the light record, and what its release leaves of it (R55, R56, R58, R158, R161). -/
theorem State.heldLight_values (s : State) (p : Preset) :
    (p.blank = false ∨ s.ctl.op ≠ .lit → s.heldLight p = s.light ∧ s.freedLight p = s.light) ∧
    (p.blank = true → s.ctl.op = .lit → s.light.applied ≤ s.light.safety →
      (s.heldLight p).motion = s.light.blankLevel ∧ (s.heldLight p).motionHeld = true ∧
      (s.heldLight p).target = min (min s.light.safety s.light.blankLevel) (min s.light.thermal s.light.user) ∧
      (s.heldLight p).applied = (if s.light.blankLevel < s.light.applied then (s.heldLight p).target else s.light.applied) ∧
      (s.light.safety ≤ 4095 → (s.freedLight p).motion = 4095 ∧ (s.freedLight p).motionHeld = false ∧
        (s.freedLight p).applied = (s.heldLight p).applied ∧
        (s.freedLight p).target = min (min s.light.safety 4095) (min s.light.thermal s.light.user))) := by
  refine ⟨fun no => ?_, fun blank lit low => ?_⟩
  · have none : ¬ (p.blank = true ∧ s.ctl.op = .lit) := by
      rintro ⟨blank, lit⟩
      exact no.elim (fun k => nomatch blank.symm.trans k) fun k => k lit
    exact ⟨if_neg none, if_neg none⟩
  · have held : s.heldLight p = s.light.hold := if_pos ⟨blank, lit⟩
    have freed : s.freedLight p = s.light.hold.release := if_pos ⟨blank, lit⟩
    have hold := Light.hold_eq low
    have applied : s.light.hold.applied ≤ s.light.safety := by
      rw [hold]
      dsimp only
      split <;> omega
    rw [held, freed]
    refine ⟨by rw [hold], by rw [hold], by rw [hold], by rw [hold], fun full => ?_⟩
    have safety : s.light.hold.safety = s.light.safety := by rw [hold]
    have released : s.light.hold.release = _ :=
      (if_pos (by rw [hold])).trans (Light.reform_of_le
        (l := { s.light.hold with motion := Config.fullLevel, motionHeld := false }) (applied.trans_eq safety.symm)
        (applied.trans full))
    rw [released]
    refine ⟨rfl, rfl, rfl, ?_⟩
    rw [hold]
    rfl

/-- A request that ends as it starts, with no hold taken, leaves its history entry behind (R157, R164). -/
theorem State.endRequest_fresh {s : State} (idle : s.motion.executing = none) (free : s.motion.blankHold = false) (x : Executing)
    (res : MotionResult) : (s.setExecuting (some x)).endRequest res = { s with
      motion := { s.motion with railTimer := none, history := s.putFirst res s.motion.history x.req }
      chan := s.chan.raise .motionDone } := by
  rw [State.endRequest_eq (x := x) rfl, ← Motion.ended_eq idle free]
  have light : (if (s.setExecuting (some x)).motion.blankHold then s.light.release else s.light) = s.light := by
    rw [show (s.setExecuting (some x)).motion.blankHold = false from free]
    rfl
  exact congrArg (fun l : Light => { (s.setExecuting (some x)) with
    light := l
    motion := { s.motion with
      executing := none, railTimer := none, blankHold := false, history := s.putFirst res s.motion.history x.req }
    chan := s.chan.raise .motionDone }) light

/-- A recall that an end-stop ends at its start lets go of the blank hold it took (R157, R161). -/
theorem State.stoppedAtStart_recall {s : State} (idle : s.motion.executing = none) (free : s.motion.blankHold = false) (p : Preset)
    (x y z : Executing) {h v : Axis} (hPos : h.position = s.axisH.position) (vPos : v.position = s.axisV.position) :
    ((((s.underRecall p x).resume y).setAxis .h h).setAxis .v v).stoppedAtStart z = { s with
      axisH := h, axisV := v, light := s.freedLight p
      motion := { s.motion with railTimer := none, history := s.putFirst .endstop s.motion.history z.req }
      chan := (s.chan.raise .endstop).raise .motionDone } := by
  let t := (((s.underRecall p x).resume y).setAxis .h h).setAxis .v v
  have first : t.putFirst .endstop = s.putFirst .endstop := State.putFirst_congr hPos vPos _
  have freed : (if p.blank && decide (s.ctl.op = .lit) then (s.heldLight p).release else s.heldLight p) = s.freedLight p := by
    rw [State.heldLight, State.freedLight]
    by_cases h : p.blank = true ∧ s.ctl.op = .lit
    · simp [h]
    · rw [if_neg h, if_neg h, if_neg (by simpa using h)]
  rw [← Motion.ended_eq idle free, ← freed, ← first]
  rfl

end Sys2Proof.Machine
end

section
/-! PROOF. O51: what a recall that starts at once comes to, as the rail and the end-stops have it. -/

namespace Sys2Proof.Machine

/-- The part once a recall of the preset has found both axes homed (R158). -/
def State.recalled (s : State) (tag : Byte) (k : Nat) (p : Preset) : State :=
  (s.underRecall p (s.finishIdle (s.finishIdle (.ofRecall tag k p) .h) .v)).carryOn carryFuel

/-- The executing request of a recall that moves one axis, the other's work finished at once (R154, R158). -/
def Executing.ofRecallAlone (tag : Byte) (k : Nat) (p : Preset) (a : AxisId) (work : Work) (clamped : Bool) : Executing :=
  { req := { tag := tag, job := .recall k p, phase := .running, clamped := clamped, stopReq := false }
    hWork := if a = .h then work else .finished, vWork := if a = .v then work else .finished
    hTarget := p.hTarget, vTarget := p.vTarget, inSequence := false }

theorem Executing.ofRecallAlone_work_other (tag : Byte) (k : Nat) (p : Preset) (a : AxisId) (work : Work) (clamped : Bool) :
    (ofRecallAlone tag k p a work clamped).work (otherAxis a) = .finished := by
  cases a <;> rfl

/-- The executing request of a recall that moves no axis, the work of both finished at once (R154, R158). -/
def Executing.ofRecallDone (tag : Byte) (k : Nat) (p : Preset) (clamped : Bool) : Executing :=
  { req := { tag := tag, job := .recall k p, phase := .running, clamped := clamped, stopReq := false }
    hWork := .finished, vWork := .finished, hTarget := p.hTarget, vTarget := p.vTarget, inSequence := false }

/-- A target of the preset lies beyond its axis's travel limit (R136, R154). -/
def State.clampsEither (s : State) (p : Preset) : Bool := decide (s.axisH.limit < p.hTarget ∨ s.axisV.limit < p.vTarget)

/-- The part once an end-stop has ended a recall at its start, with what that leaves of its axes (R135, R157, R161, R164). -/
def State.recallStopped (s : State) (tag : Byte) (p : Preset) (h v : Axis) : State :=
  { s with
    axisH := h, axisV := v, light := s.freedLight p
    motion := { s.motion with
      railTimer := none
      history := (⟨tag, .recallPreset, .endstop, s.axisH.position, s.axisV.position⟩ :: s.motion.history).take 8 }
    chan := (s.chan.raise .endstop).raise .motionDone }

/-- A finished recall that names no slot ends (R159). -/
theorem State.finishWork_noSlot {s : State} {tag : Byte} {k : Nat} {p : Preset} {clamped : Bool} (slot : p.slot = none) :
    s.finishWork (.ofRecallDone tag k p clamped) =
      s.endRequest (Executing.ofRecallDone tag k p clamped).req.completion := by
  simp only [State.finishWork, Executing.ofRecallDone, slot]

/-- A finished recall that names a VALID slot makes its choice and waits for the latch (R159). -/
theorem State.finishWork_slot {s : State} {tag : Byte} {k : Nat} {p : Preset} {clamped : Bool} {m : Fin 4}
    (slot : p.slot = some m) (valid : (s.slot m).state = .valid) (armed : s.ctl.armed = true) :
    s.finishWork (.ofRecallDone tag k p clamped) =
      (s.setWarp { s.warp with choice := some { slot := some m, origin := .recall tag } }).setExecuting
        (some ((Executing.ofRecallDone tag k p clamped).setPhase .switching)) := by
  simp only [State.finishWork, Executing.ofRecallDone, slot, valid, if_true]
  exact if_pos armed

/-- A recall that asks for no blank takes no hold (R158). -/
theorem State.underRecall_noHold {s : State} {p : Preset} {x : Executing} (free : s.motion.blankHold = false)
    (unasked : p.blank = false) : s.underRecall p x = s.setExecuting (some x) := by
  have light : s.heldLight p = s.light := if_neg fun ⟨asked, _⟩ => nomatch unasked.symm.trans asked
  rw [State.underRecall, light, unasked, Bool.false_and, ← free]
  rfl

/-- A start that the rail does not carry leaves the request in WAIT_RAIL with its timer (R155). -/
theorem State.HasStarted.carryOn_holdStart {s : State} {x : Executing} (c : s.HasStarted x) (left : x.allFinished = false)
    (judged : s.judgeRail x = (s.holdStart x, .quiet, .quiet)) (fuel : Nat) : s.carryOn (fuel + 1) =
      s.setMotion { s.motion with executing := some (x.setPhase .waitRail), railTimer := some 10000 } := by
  rw [c.carryOn_judged left judged, if_pos ⟨rfl, rfl⟩, c.holdStart]

/-- How the axes of a recall that starts at once stand to their first legs: the draw of the fans, the goals, the axes where
an end-stop is active, each axis with its first leg granted, and each axis as an end-stop stops it there. -/
structure State.RecallLegs (s : State) (x : Executing) (draw : Nat) (goal : AxisId → Nat) (active : AxisId → Prop)
    (y abrupt : AxisId → Axis) : Prop where
  idle : ∀ a, (s.axis a).state = .idle
  drawn : s.fanDraw = draw
  needs : ∀ a, (s.axis a).needsLeg (x.target a) = decide (goal a ≠ (s.axis a).position)
  actives : ∀ a, (s.axis a).anyActive = true ↔ active a
  granted : ∀ a, goal a ≠ (s.axis a).position → (s.axis a).granted (s.approachOf a) (x.target a) = y a
  stopped : ∀ a, abrupt a = (y a).abrupt

namespace State.RecallLegs

variable {s : State} {p : Preset} {tag : Byte} {k draw : Nat} {goal : AxisId → Nat} {active : AxisId → Prop}
  {y abrupt : AxisId → Axis} (legs : s.RecallLegs (.ofRecall tag k p) draw goal active y abrupt)
include legs

theorem inactive {a : AxisId} (clear : ¬ active a) : (s.axis a).anyActive = false := by
  rw [← Bool.not_eq_true, legs.actives]
  exact clear

theorem needsLeg {a : AxisId} (away : goal a ≠ (s.axis a).position) :
    (s.axis a).needsLeg ((Executing.ofRecall tag k p).target a) = true :=
  (legs.needs a).trans (decide_eq_true away)

theorem needsNoLeg {a : AxisId} (there : goal a = (s.axis a).position) :
    (s.axis a).needsLeg ((Executing.ofRecall tag k p).target a) = false :=
  (legs.needs a).trans (decide_eq_false (not_not.2 there))

/-- The first leg of an axis away from its goal, with no end-stop active and with one active. -/
theorem startOf_eq {a : AxisId} (away : goal a ≠ (s.axis a).position) :
    (¬ active a → (s.startOf (.ofRecall tag k p) a).1 = y a) ∧ (active a → (s.startOf (.ofRecall tag k p) a).1 = abrupt a) := by
  rcases State.startOf_cases (s := s) (legs.needsLeg away) with ⟨clear, begun⟩ | ⟨stops, side, begun⟩ <;>
    rw [begun, legs.granted a away]
  · exact ⟨fun _ => rfl, fun h => nomatch clear.symm.trans ((legs.actives a).2 h)⟩
  · exact ⟨fun h => absurd ((legs.actives a).1 stops) h, fun _ => (legs.stopped a).symm⟩

/-- A first leg leaves the position where it is, granted or stopped. -/
theorem startOf_position {a : AxisId} (away : goal a ≠ (s.axis a).position) :
    (s.startOf (.ofRecall tag k p) a).1.position = (s.axis a).position := by
  rcases State.startOf_cases (s := s) (legs.needsLeg away) with ⟨-, begun⟩ | ⟨-, side, begun⟩ <;> rw [begun] <;> rfl

/-- A first leg that a stop request finds: begun, it is brought to a stop; stopped by its end-stop, it stays as it is. -/
theorem startOf_stoppedAside {a : AxisId} (away : goal a ≠ (s.axis a).position) :
    (¬ active a → (s.startOf (.ofRecall tag k p) a).1.stoppedAside = { y a with state := .stopping, stopHoming := false }) ∧
    (active a → (s.startOf (.ofRecall tag k p) a).1.stoppedAside = abrupt a) := by
  obtain ⟨begun, ended⟩ := legs.startOf_eq away
  refine ⟨fun clear => ?_, fun stops => ?_⟩
  · rw [begun clear, ← legs.granted a away, Axis.granted_stoppedAside]
  · rw [ended stops, legs.stopped a, Axis.abrupt_stoppedAside]

/-- The recall as it is judged. -/
theorem hasStarted {x : Executing} (running : x.req.phase = .running) (goesOn : x.req.stopReq = false)
    (moves : x.req.job.isHome = false) (together : x.inSequence = false) :
    (s.underRecall p x).HasStarted x :=
  ⟨rfl, running, goesOn, moves, together, fun a => by cases a; exacts [legs.idle .h, legs.idle .v]⟩

theorem hasStartedBoth : (s.underRecall p (.ofRecall tag k p)).HasStarted (.ofRecall tag k p) :=
  legs.hasStarted rfl rfl rfl rfl

/-! ### Both axes away from their goals (R155, R158) -/

section

variable (away : ∀ a, goal a ≠ (s.axis a).position)
include away

/-- Neither axis's work is finished at once. -/
theorem recalled_both : s.recalled tag k p = (s.underRecall p (.ofRecall tag k p)).carryOn carryFuel := by
  have h : s.finishIdle (.ofRecall tag k p) .h = .ofRecall tag k p := if_pos (legs.needsLeg (away .h))
  have v : s.finishIdle (.ofRecall tag k p) .v = .ofRecall tag k p := if_pos (legs.needsLeg (away .v))
  rw [State.recalled, h, v]

omit away in
theorem judgedBoth : (s.underRecall p (.ofRecall tag k p)).judgeRail (.ofRecall tag k p) =
    if draw + (s.axisH.current + s.axisV.current) ≤ s.ctl.budget then
      (s.underRecall p (.ofRecall tag k p)).startBoth (.ofRecall tag k p)
    else if draw + s.axisV.current ≤ s.ctl.budget then
      (s.underRecall p (.ofRecall tag k p)).startOne { Executing.ofRecall tag k p with inSequence := true } .v
    else ((s.underRecall p (.ofRecall tag k p)).holdStart (.ofRecall tag k p), .quiet, .quiet) := by
  rw [← legs.drawn]
  exact legs.hasStartedBoth.judgeRail_both rfl rfl

/-- The rail carries the pair: both start, or an end-stop ends the recall as they start. -/
theorem recalled_pair (fits : draw + (s.axisH.current + s.axisV.current) ≤ s.ctl.budget) :
    let x : Executing := { Executing.ofRecall tag k p with hWork := .active, vWork := .active }
    let t := (((s.underRecall p (.ofRecall tag k p)).resume x).setAxis .h (s.startOf (.ofRecall tag k p) .h).1).setAxis .v
      (s.startOf (.ofRecall tag k p) .v).1
    ((∀ a, ¬ active a) → s.recalled tag k p = t) ∧
    ((∃ a, active a) → s.recalled tag k p =
      ((t.stoppedAtStart x).setAxis .h (s.startOf (.ofRecall tag k p) .h).1.stoppedAside).setAxis .v
        (s.startOf (.ofRecall tag k p) .v).1.stoppedAside) := by
  rw [legs.recalled_both away]
  have runs := legs.hasStartedBoth.carryOn_startBoth rfl 7 (legs.judgedBoth.trans (if_pos fits)) (fun a => by cases a <;> rfl)
    fun a => by cases a; exacts [legs.needsLeg (away .h), legs.needsLeg (away .v)]
  refine ⟨fun clear => runs.1 fun a => ?_, fun ⟨a, stops⟩ => runs.2 ⟨a, ?_⟩⟩
  · cases a; exacts [legs.inactive (clear .h), legs.inactive (clear .v)]
  · cases a; exacts [(legs.actives .h).2 stops, (legs.actives .v).2 stops]

/-- The rail carries V alone: V starts with H after it, or an end-stop ends the recall as V starts. -/
theorem recalled_vFirst (above : s.ctl.budget < draw + (s.axisH.current + s.axisV.current))
    (fits : draw + s.axisV.current ≤ s.ctl.budget) :
    let x : Executing := { Executing.ofRecall tag k p with vWork := .active, inSequence := true }
    let t := ((s.underRecall p (.ofRecall tag k p)).resume x).setAxis .v (s.startOf (.ofRecall tag k p) .v).1
    s.recalled tag k p = if (s.axis .v).anyActive then t.stoppedAtStart x else t := by
  rw [legs.recalled_both away]
  have judged := legs.judgedBoth.trans ((if_neg (Nat.not_le.2 above)).trans (if_pos fits))
  exact legs.hasStartedBoth.carryOn_startOne rfl 7 judged rfl rfl (fun k => nomatch k) (legs.needsLeg (away .v))

/-- The rail carries neither: the recall waits. -/
theorem recalled_pairWaits (above : s.ctl.budget < draw + s.axisV.current) : s.recalled tag k p =
    (s.underRecall p (.ofRecall tag k p)).setMotion { (s.underRecall p (.ofRecall tag k p)).motion with
      executing := some ((Executing.ofRecall tag k p).setPhase .waitRail), railTimer := some 10000 } := by
  rw [legs.recalled_both away]
  have judged := legs.judgedBoth.trans ((if_neg (by omega)).trans (if_neg (Nat.not_le.2 above)))
  exact legs.hasStartedBoth.carryOn_holdStart rfl judged 7

end

/-! ### One axis away from its goal (R154, R155, R158) -/

section

variable {a : AxisId} (away : goal a ≠ (s.axis a).position) (there : goal (otherAxis a) = (s.axis (otherAxis a)).position)
include there

include away

/-- The other axis's work is finished at once, its target's clamping noted. -/
theorem recalled_one : s.recalled tag k p = (s.underRecall p (.ofRecallAlone tag k p a .owed
    (decide ((s.axis (otherAxis a)).limit < (Executing.ofRecall tag k p).target (otherAxis a))))).carryOn carryFuel := by
  have here := legs.needsLeg away
  have other := (Bool.not_eq_true _).mpr (legs.needsNoLeg there)
  have finished : s.finishIdle (s.finishIdle (.ofRecall tag k p) .h) .v = .ofRecallAlone tag k p a .owed
      (decide ((s.axis (otherAxis a)).limit < (Executing.ofRecall tag k p).target (otherAxis a))) := by
    cases a with
    | h => exact (congrArg (s.finishIdle · .v) (if_pos here)).trans (if_neg other)
    | v => exact (congrArg (s.finishIdle · .v) (if_neg other)).trans (if_pos here)
  rw [State.recalled, finished]

omit there away in
theorem hasStartedOne (clamped : Bool) : (s.underRecall p (.ofRecallAlone tag k p a .owed clamped)).HasStarted
    (.ofRecallAlone tag k p a .owed clamped) :=
  legs.hasStarted rfl rfl rfl rfl

omit there away in
theorem judgedOne (clamped : Bool) : (s.underRecall p (.ofRecallAlone tag k p a .owed clamped)).judgeRail
      (.ofRecallAlone tag k p a .owed clamped) =
    if draw + (s.axis a).current ≤ s.ctl.budget then
      (s.underRecall p (.ofRecallAlone tag k p a .owed clamped)).startOne (.ofRecallAlone tag k p a .owed clamped) a
    else ((s.underRecall p (.ofRecallAlone tag k p a .owed clamped)).holdStart (.ofRecallAlone tag k p a .owed clamped),
      .quiet, .quiet) := by
  rw [← legs.drawn]
  cases a with
  | h => exact (legs.hasStartedOne clamped).judgeRail_alone (a := .h) rfl (by rw [Executing.ofRecallAlone_work_other]; decide)
  | v => exact (legs.hasStartedOne clamped).judgeRail_alone (a := .v) rfl (by rw [Executing.ofRecallAlone_work_other]; decide)

/-- The rail carries the axis: it starts, or an end-stop ends the recall as it starts. -/
theorem recalled_alone {clamped : Bool} (fits : draw + (s.axis a).current ≤ s.ctl.budget)
    (mark : clamped = decide ((s.axis (otherAxis a)).limit < (Executing.ofRecall tag k p).target (otherAxis a))) :
    let x : Executing := .ofRecallAlone tag k p a .active clamped
    let t := ((s.underRecall p (.ofRecallAlone tag k p a .owed clamped)).resume x).setAxis a (s.startOf (.ofRecall tag k p) a).1
    s.recalled tag k p = if (s.axis a).anyActive then t.stoppedAtStart x else t := by
  rw [legs.recalled_one away there, ← mark]
  have judged := (legs.judgedOne clamped).trans (if_pos fits)
  cases a with
  | h =>
    exact (legs.hasStartedOne clamped).carryOn_startOne (a := .h) rfl 7 judged rfl rfl
      (by rw [Executing.ofRecallAlone_work_other]; decide) (legs.needsLeg away)
  | v =>
    exact (legs.hasStartedOne clamped).carryOn_startOne (a := .v) rfl 7 judged rfl rfl
      (by rw [Executing.ofRecallAlone_work_other]; decide) (legs.needsLeg away)

/-- The rail does not carry the axis: the recall waits. -/
theorem recalled_aloneWaits {clamped : Bool} (above : s.ctl.budget < draw + (s.axis a).current)
    (mark : clamped = decide ((s.axis (otherAxis a)).limit < (Executing.ofRecall tag k p).target (otherAxis a))) :
    let x : Executing := .ofRecallAlone tag k p a .owed clamped
    s.recalled tag k p = (s.underRecall p x).setMotion { (s.underRecall p x).motion with
      executing := some (x.setPhase .waitRail), railTimer := some 10000 } := by
  rw [legs.recalled_one away there, ← mark]
  have judged := (legs.judgedOne clamped).trans (if_neg (Nat.not_le.2 above))
  exact (legs.hasStartedOne clamped).carryOn_holdStart (by cases a <;> rfl) judged 7

end

/-! ### Both axes at their goals (R158, R159) -/

section

variable (there : ∀ a, goal a = (s.axis a).position)
include there

/-- Both axes' work is finished at once, and the recall takes its grid step. -/
theorem recalled_atGoals : s.recalled tag k p = (s.underRecall p (.ofRecallDone tag k p (s.clampsEither p))).finishWork
    (.ofRecallDone tag k p (s.clampsEither p)) := by
  have h : ¬ (s.axis .h).needsLeg ((Executing.ofRecall tag k p).target .h) = true :=
    (Bool.not_eq_true _).mpr (legs.needsNoLeg (there .h))
  have v : ¬ (s.axis .v).needsLeg ((Executing.ofRecall tag k p).target .v) = true :=
    (Bool.not_eq_true _).mpr (legs.needsNoLeg (there .v))
  have finished : s.finishIdle (s.finishIdle (.ofRecall tag k p) .h) .v = .ofRecallDone tag k p (s.clampsEither p) := by
    rw [State.clampsEither, Bool.decide_or]
    exact (congrArg (s.finishIdle · .v) (if_neg h)).trans (if_neg v)
  rw [State.recalled, finished]
  rfl

end

/-! ### An end-stop at the start (R135, R144, R157) -/

/-- A first leg that finds an end-stop active ends the recall, with a stop request to the other axis if that has begun. -/
theorem recalled_endstop (idle : s.motion.executing = none) (free : s.motion.blankHold = false) {a : AxisId} {other : Axis}
    (away : goal a ≠ (s.axis a).position) (stops : active a)
    (rail : goal (otherAxis a) = (s.axis (otherAxis a)).position ∧ draw + (s.axis a).current ≤ s.ctl.budget ∧
        other = s.axis (otherAxis a) ∨
      goal (otherAxis a) ≠ (s.axis (otherAxis a)).position ∧
        (draw + (s.axisH.current + s.axisV.current) ≤ s.ctl.budget ∧
            (¬active (otherAxis a) ∧ other = { y (otherAxis a) with state := .stopping, stopHoming := false } ∨
              active (otherAxis a) ∧ other = abrupt (otherAxis a)) ∨
          a = .v ∧ s.ctl.budget < draw + (s.axisH.current + s.axisV.current) ∧ draw + s.axisV.current ≤ s.ctl.budget ∧
            other = s.axisH)) :
    s.recalled tag k p = s.recallStopped tag p (if a = .h then abrupt a else other) (if a = .v then abrupt a else other) := by
  have met := (legs.actives a).2 stops
  have position := legs.startOf_position away
  have ended := (legs.startOf_eq away).2 stops
  have endedAside := (legs.startOf_stoppedAside away).2 stops
  rcases rail with ⟨there, fits, rfl⟩ | ⟨otherAway, ⟨fits, aside⟩ | ⟨rfl, above, fits, rfl⟩⟩
  · rw [legs.recalled_alone away there fits rfl, if_pos met]
    cases a with
    | h =>
      rw [← ended]
      exact State.stoppedAtStart_recall idle free p _ _ _ position rfl
    | v =>
      rw [← ended]
      exact State.stoppedAtStart_recall idle free p _ _ _ rfl position
  · have otherAside : (s.startOf (.ofRecall tag k p) (otherAxis a)).1.stoppedAside = other := by
      obtain ⟨begun, stopped⟩ := legs.startOf_stoppedAside otherAway
      rcases aside with ⟨clear, rfl⟩ | ⟨active, rfl⟩
      exacts [begun clear, stopped active]
    have both (b : AxisId) : goal b ≠ (s.axis b).position := by
      cases a <;> cases b
      exacts [away, otherAway, otherAway, away]
    rw [(legs.recalled_pair both fits).2 ⟨a, stops⟩, State.stoppedAtStart_recall idle free p _ _ _
      (legs.startOf_position (both .h)) (legs.startOf_position (both .v))]
    cases a with
    | h =>
      rw [endedAside, show (s.startOf (.ofRecall tag k p) .v).1.stoppedAside = other from otherAside]
      rfl
    | v =>
      rw [endedAside, show (s.startOf (.ofRecall tag k p) .h).1.stoppedAside = other from otherAside]
      rfl
  · rw [legs.recalled_vFirst (fun b => by cases b; exacts [otherAway, away]) above fits, if_pos met, ← ended]
    exact State.stoppedAtStart_recall idle free p _ _ _ rfl position

end State.RecallLegs

/-- Settles O51: the packet starts the recall at once (`exec_recallPreset`), and what it comes to is one of the forms above,
as its axes stand to their goals, to the rail and to their end-stops. -/
theorem recallPresetStartsAtOnce : Obligations.RecallPresetStartsAtOnce := by
  intro s tag b n p y approach goal firstEnd owed active abrupt draw phase hWork vWork inSequence e takes op queue executing free
    hIdle vIdle hb hp valid hdraw hGoal vGoal
  have run := exec_recallPreset takes queue (State.mayStart_of_idle op executing hIdle vIdle) tag hb (hp ▸ valid)
  rw [← hp] at run
  refine ⟨fun unhomed => ?_, fun h v hApp vApp axes => ?_⟩
  · rw [run, State.startRequest_notHomed unhomed, State.endRequest_fresh executing free]
    rfl
  rw [show s.startRequest (.fresh tag (.recall n.val p)) = s.recalled tag n.val p from State.startRequest_recall free h v] at run
  have limited (a : AxisId) : (s.axis a).clampTarget ((Executing.ofRecall tag n.val p).target a) = goal a := by
    cases a
    exacts [hGoal.symm, vGoal.symm]
  have toward (a : AxisId) : s.approachOf a = approach a := by
    cases a
    exacts [hApp.symm, vApp.symm]
  have target (a : AxisId) : (Executing.ofRecall tag n.val p).target a = if a = .h then p.hTarget else p.vTarget := by
    cases a <;> rfl
  have legs : s.RecallLegs (.ofRecall tag n.val p) draw goal active y abrupt := {
    idle := fun a => by cases a; exacts [hIdle, vIdle]
    drawn := by simp [State.fanDraw, FanId.all, hdraw, Nat.add_assoc]
    needs := fun a => by rw [Axis.needsLeg, limited]
    actives := fun a => by
      obtain ⟨-, -, -, hactive, -⟩ := axes a
      exact (s.axis a).anyActive_iff.trans hactive.symm
    granted := fun a away => by
      obtain ⟨howed, hfirst, hy, -, -⟩ := axes a
      rw [hy, ← target]
      exact Axis.granted_eq (limited a).symm away (toward a ▸ howed) (toward a ▸ hfirst)
    stopped := fun a => (axes a).2.2.2.2 }
  obtain ⟨unheld, held⟩ := s.heldLight_values p
  refine ⟨s.heldLight p, s.freedLight p, unheld, held, fun hAway vAway he => ?_, fun a away there he same => ?_,
    fun a other away stops rail => ?_, fun hThere vThere => ?_⟩
  · have both (a : AxisId) : goal a ≠ (s.axis a).position := by
      cases a
      exacts [hAway, vAway]
    refine ⟨?_, ?_, ?_⟩
    · rintro fits hClear vClear rfl rfl rfl rfl
      subst he
      rw [run, (legs.recalled_pair both fits).1 fun a => by cases a; exacts [hClear, vClear],
        (legs.startOf_eq hAway).1 hClear, (legs.startOf_eq vAway).1 vClear]
      rfl
    · rintro above fits vClear rfl rfl rfl rfl
      subst he
      rw [run, legs.recalled_vFirst both above fits, legs.inactive vClear, (legs.startOf_eq vAway).1 vClear]
      rfl
    · rintro above rfl rfl rfl rfl
      subst he
      rw [run, legs.recalled_pairWaits both above]
      rfl
  · have mark : decide ((s.axis (otherAxis a)).limit < if a = .h then p.vTarget else p.hTarget) =
        decide ((s.axis (otherAxis a)).limit < (Executing.ofRecall tag n.val p).target (otherAxis a)) := by
      cases a <;> rfl
    refine ⟨?_, ?_⟩
    · rintro above rfl rfl
      subst he same
      rw [run, legs.recalled_aloneWaits away there above mark]
      rfl
    · rintro fits clear rfl rfl
      subst he same
      rw [run, legs.recalled_alone away there fits mark, legs.inactive clear, (legs.startOf_eq away).1 clear]
      cases a <;> rfl
  · have flags : ((s.chan.raise .endstop).raise .motionDone).flags = s.chan.flags ||| 0x00C := BitVec.or_assoc ..
    rw [run, legs.recalled_endstop executing free away stops rail, ← flags]
    cases a <;> rfl
  · rw [run, legs.recalled_atGoals fun a => by cases a; exacts [hThere, vThere]]
    refine ⟨fun slot blank => ?_, fun m slot hm armed => ?_⟩
    · have completed : (Executing.ofRecallDone tag n.val p (s.clampsEither p)).req.completion =
          if s.axisH.limit < p.hTarget ∨ s.axisV.limit < p.vTarget then .completedClamped else .completed := by
        simp only [Request.completion, Executing.ofRecallDone, State.clampsEither, decide_eq_true_eq]
      rw [State.finishWork_noSlot slot, completed, State.underRecall_noHold free blank, State.endRequest_fresh executing free]
      rfl
    · rw [State.finishWork_slot (s := s.underRecall p _) slot hm armed]
      rfl

end Sys2Proof.Machine
end

section
/-! PROOF. O57: what the invariant of the temperature sources reads, and what a reading, a conversion and a transaction
leave of it. -/

namespace Sys2Proof.Machine

/-! ### Source records (R64 to R66) -/

/-- The temperature that a good read brings lies within the plausible range (R75, R82). -/
def Reading.Plausible (r : Reading) : Prop := ∀ t, r = .good t → plausible t = true

theorem Source.Ok.applyBad {x : Source} (h : x.Ok) (o : ReadOutcome) : (x.applyBad o).Ok := by
  obtain ⟨value, most, full, quiet, goods, unread, ok⟩ := h
  have counted (works : x.state ≠ .failed) : (x.countFailure o).Ok := by
    have below : x.failures ≠ 3 := fun e => works (full.1 e)
    unfold Source.countFailure
    split
    · exact ⟨value, Nat.le_refl 3, ⟨fun _ => rfl, fun _ => rfl⟩, fun _ => rfl, Nat.zero_lt_succ 4, nofun, nofun⟩
    · rename_i few
      exact ⟨value, by simp only; omega, ⟨fun e => absurd (Nat.le_of_eq e.symm) few, fun e => absurd e works⟩, quiet, goods, unread, ok⟩
  unfold Source.applyBad
  split
  · exact ⟨value, most, full, fun _ => rfl, Nat.zero_lt_succ 4, unread, ok⟩
  · rename_i hs
    exact counted (by simp [hs])
  · rename_i hs
    exact counted (by simp [hs])

theorem Source.Ok.applyGood {x : Source} (h : x.Ok) {t : Int} (ht : plausible t = true) : (x.applyGood t).Ok := by
  obtain ⟨-, most, full, quiet, goods, -, -⟩ := h
  have value : (some t).all plausible = true := ht
  unfold Source.applyGood
  split
  · rename_i hs
    split
    · exact ⟨value, Nat.zero_le 3, ⟨nofun, nofun⟩, fun _ => rfl, Nat.zero_lt_succ 4, nofun, fun _ => rfl⟩
    · exact ⟨value, most, full, fun works => absurd hs works, by simp only; omega, fun u => (nomatch hs.symm.trans u), fun _ => rfl⟩
  · rename_i hs
    exact ⟨value, Nat.zero_le 3, ⟨nofun, nofun⟩, fun _ => quiet (by simp [hs]), goods, nofun, fun _ => rfl⟩
  · rename_i hs
    exact ⟨value, Nat.zero_le 3, ⟨nofun, nofun⟩, fun _ => quiet (by simp [hs]), goods, nofun, fun _ => rfl⟩

/-- A read applied to a record keeps it in its form (R65, R66). -/
theorem Source.Ok.apply {x : Source} (h : x.Ok) {r : Reading} (hr : r.Plausible) : (x.apply r).Ok := by
  cases r with
  | good t => exact h.applyGood (hr t rfl)
  | bad o => exact h.applyBad o

theorem Source.unread_ok (z : Option ZoneId) : (Source.unread z).Ok :=
  ⟨rfl, Nat.zero_le 3, ⟨nofun, nofun⟩, fun _ => rfl, Nat.zero_lt_succ 4, fun _ => rfl, nofun⟩

/-! ### Thermistor tables (R82, R84) -/

theorem plausible_iff (t : Int) : plausible t = true ↔ -640 ≤ t ∧ t ≤ 2400 := by simp [plausible, within]

/-- Neighbouring values of a good table do not rise, and the table has no values but plausible ones. -/
theorem tableOk.at {tab : Vector Int 17} (h : tableOk tab.toList) {k : Nat} (hk : k < 16) :
    tab.getD (k + 1) 0 ≤ tab.getD k 0 ∧ -640 ≤ tab.getD (k + 1) 0 ∧ tab.getD k 0 ≤ 2400 := by
  obtain ⟨falls, range⟩ := h
  have at_ (j : Nat) (hj : j < 17) : tab.getD j 0 = tab.toList[j]'(by simpa using hj) := by
    simp [Vector.getD, hj]
  rw [at_ k (by omega), at_ (k + 1) (by omega)]
  exact ⟨List.pairwise_iff_getElem.1 falls k (k + 1) _ _ (by omega),
    ((plausible_iff _).1 (range _ (List.getElem_mem _))).1, ((plausible_iff _).1 (range _ (List.getElem_mem _))).2⟩

/-- A code is converted to a temperature between the two values of the table around it (R82). -/
theorem convertCode_between {tab : Vector Int 17} (h : tableOk tab.toList) {k f : Nat} (hk : k < 16) (hf : f < 256) :
    tab.getD (k + 1) 0 ≤ convertCode tab (256 * k + f) ∧ convertCode tab (256 * k + f) ≤ tab.getD k 0 := by
  obtain ⟨falls, -, -⟩ := h.at hk
  have cell : (256 * k + f) / 256 = k := by omega
  have part : (256 * k + f) % 256 = f := by omega
  have least : (tab.getD (k + 1) 0 - tab.getD k 0) * 256 ≤ (tab.getD (k + 1) 0 - tab.getD k 0) * f :=
    Int.mul_le_mul_of_nonpos_left (by omega) (by omega)
  have most : (tab.getD (k + 1) 0 - tab.getD k 0) * f ≤ 0 := Int.mul_nonpos_of_nonpos_of_nonneg (by omega) (by omega)
  simp only [convertCode, cell, part]
  omega

/-- The temperature of a 12-bit code by a good table is plausible (R81, R82). -/
theorem judgeCode_plausible {tab : Vector Int 17} (h : tableOk tab.toList) (code : BitVec 12) :
    (judgeCode tab code.toNat).Plausible := by
  intro t ht
  unfold judgeCode at ht
  split at ht
  · cases ht
  · split at ht
    · cases ht
    · cases ht
      have hk : code.toNat / 256 < 16 := by omega
      obtain ⟨low, high⟩ := convertCode_between h hk (Nat.mod_lt code.toNat (by decide : 0 < 256))
      obtain ⟨-, least, most⟩ := h.at hk
      rw [Nat.div_add_mod] at low high
      exact (plausible_iff _).2 ⟨by omega, by omega⟩

/-- What a sensor-bus transaction brings is plausible, or no temperature (R75). -/
theorem PollEntry.judge_plausible (e : PollEntry) (x : SbEnd) : (e.judge x).Plausible := by
  intro t ht
  cases x with
  | nackAddr _ => cases ht
  | nackData => cases ht
  | data hi lo pec =>
    simp only [PollEntry.judge] at ht
    split at ht
    · cases ht
    · split at ht
      · cases ht
        assumption
      · cases ht

theorem nonIncreasing_iff (values : List Int) : nonIncreasing values = true ↔ values.Pairwise fun a b => b ≤ a := by
  induction values with
  | nil => simp [nonIncreasing]
  | cons a rest ih =>
    cases rest with
    | nil => simp [nonIncreasing]
    | cons b rest =>
      rw [nonIncreasing, Bool.and_eq_true, ih, List.pairwise_cons (a := a), decide_eq_true_eq]
      refine ⟨fun ⟨ba, falls⟩ => ⟨fun c hc => ?_, falls⟩, fun ⟨above, falls⟩ => ⟨above b (by simp), falls⟩⟩
      rcases List.mem_cons.1 hc with rfl | hc
      · exact ba
      · exact ((List.pairwise_cons.1 falls).1 c hc).trans ba

theorem tableValuesOk_iff (values : List Int) : tableValuesOk values = true ↔ tableOk values := by
  rw [tableValuesOk, Bool.and_eq_true, nonIncreasing_iff, List.all_eq_true, and_comm]

/-- A table made of seventeen values holds them in their order (R84). -/
theorem tableOfList_toList {values : List Int} (h : values.length = 17) : (tableOfList values).toList = values := by
  refine List.ext_getElem (by simp [h]) fun k hk hv => ?_
  simp [tableOfList, List.getD_eq_getElem?_getD, List.getElem?_eq_getElem hv]

/-- The nine values of a good first part and eight values that go on from its last one make a good table (R84). -/
theorem tableOk_append {first second : List Int} (h : tableOk first) (long : first.length = 9)
    (ok : tableOk (first.drop 8 ++ second)) : tableOk (first ++ second) := by
  obtain ⟨falls, range⟩ := h
  obtain ⟨falls', range'⟩ := ok
  obtain ⟨last, hlast⟩ : ∃ last, first.drop 8 = [last] := List.length_eq_one_iff.1 (by simp [long])
  have split : first = first.take 8 ++ [last] := by rw [← hlast, List.take_append_drop]
  rw [hlast, List.singleton_append, List.pairwise_cons] at falls'
  have above (a : Int) (ha : a ∈ first) : last ≤ a := by
    rw [split, List.pairwise_append] at falls
    rw [split, List.mem_append] at ha
    rcases ha with ha | ha
    · exact falls.2.2 a ha last (by simp)
    · exact le_of_eq (List.mem_singleton.1 ha).symm
  refine ⟨List.pairwise_append.2 ⟨falls, falls'.2, fun a ha b hb => (falls'.1 b hb).trans (above a ha)⟩, fun t ht => ?_⟩
  rcases List.mem_append.1 ht with ht | ht
  · exact range t ht
  · exact range' t (List.mem_append_right _ ht)

end Sys2Proof.Machine
end

section
/-! PROOF. O57: what the invariant of the temperature sources reads, and who leaves it alone. -/

namespace Sys2Proof.Machine

/-! ### The invariant's two parts (R64, R82 to R84, R93) -/

/-- The source records, the two tables and the staging record are in their form. -/
structure Temps.RecordsOk (t : Temps) : Prop where
  sources : ∀ n : Fin 12, (t.sources[n]).Ok
  tables : ∀ tab : TableId, tableOk (t.table tab).toList
  staging : ∀ st ∈ t.staging, st.values.length = 9 ∧ tableOk st.values

theorem State.sourcesOk_iff (s : State) :
    s.SourcesOk ↔ s.temps.RecordsOk ∧ ∀ z : ZoneId, (s.zone z).temp.all plausible = true := by
  have listed (z : ZoneId) : z ∈ ZoneId.all := by cases z <;> decide
  constructor
  · rintro ⟨sources, tableA, tableB, staging, zones⟩
    refine ⟨⟨fun n => sources _ (Vector.mem_toList_iff.2 (Vector.getElem_mem n.isLt)), fun tab => ?_, staging⟩, fun z => zones z (listed z)⟩
    cases tab
    · exact tableA
    · exact tableB
  · rintro ⟨⟨sources, tables, staging⟩, zones⟩
    refine ⟨fun x hx => ?_, tables .a, tables .b, staging, fun z _ => zones z⟩
    obtain ⟨k, hk, rfl⟩ := Vector.mem_iff_getElem.1 (Vector.mem_toList_iff.1 hx)
    exact sources ⟨k, hk⟩

/-- Two states with the same source records, tables, staging record and zone temperatures. -/
structure SourcesKept (s t : State) : Prop where
  sources : t.temps.sources = s.temps.sources
  tableA : t.temps.tableA = s.temps.tableA
  tableB : t.temps.tableB = s.temps.tableB
  staging : t.temps.staging = s.temps.staging
  zones : ∀ z, (t.zone z).temp = (s.zone z).temp

namespace SourcesKept

variable {s t u : State}

theorem refl (s : State) : SourcesKept s s := ⟨rfl, rfl, rfl, rfl, fun _ => rfl⟩

theorem trans (h : SourcesKept s t) (k : SourcesKept t u) : SourcesKept s u :=
  ⟨k.1.trans h.1, k.2.trans h.2, k.3.trans h.3, k.4.trans h.4, fun z => (k.5 z).trans (h.5 z)⟩

theorem of_temps (temps : t.temps = s.temps) (zones : ∀ z, (t.zone z).temp = (s.zone z).temp) : SourcesKept s t :=
  ⟨congrArg Temps.sources temps, congrArg Temps.tableA temps, congrArg Temps.tableB temps, congrArg Temps.staging temps, zones⟩

theorem of_blocks (temps : t.temps = s.temps) (zoneCtl : t.zoneCtl = s.zoneCtl) : SourcesKept s t :=
  of_temps temps fun z => congrArg (fun c : ZoneCtl => (c.zones[z.idx]).temp) zoneCtl

theorem of_queue (h : QueueFrame s t) : SourcesKept s t := of_blocks h.temps h.zoneCtl

/-- An update of every zone's record that leaves its temperature. -/
theorem each_zone {g : ZoneId → Zone → Zone} (h : ∀ z x, (g z x).temp = x.temp) :
    SourcesKept s (s.setZoneCtl (s.zoneCtl.each g)) :=
  of_temps rfl fun z => (congrArg Zone.temp (s.zoneCtl.each_zones g z)).trans (h z _)

theorem ite {p : Prop} [Decidable p] {a b : State} (ha : SourcesKept s a) (hb : SourcesKept s b) :
    SourcesKept s (if p then a else b) := iteInduction (motive := SourcesKept s) (fun _ => ha) fun _ => hb

end SourcesKept

theorem State.SourcesOk.kept {s t : State} (h : s.SourcesOk) (k : SourcesKept s t) : t.SourcesOk := by
  obtain ⟨hs, ha, hb, hst, hz⟩ := k
  obtain ⟨sources, tableA, tableB, staging, zones⟩ := h
  refine ⟨hs ▸ sources, ha ▸ tableA, hb ▸ tableB, hst ▸ staging, fun z hz' => ?_⟩
  rw [hz]
  exact zones z hz'

/-! ### Changes of operating state, trips and resets (R117, R121, R130) -/

theorem State.leave_sourcesKept (s : State) (old : OpState) : SourcesKept s (s.leave old) := by
  cases old with
  | lit =>
    unfold State.leave State.releaseHold
    exact .ite (.of_blocks rfl rfl) (.refl s)
  | standby | cooldown => exact .refl s
  | tripped => exact .of_blocks rfl rfl

theorem State.arrive_sourcesKept (s : State) (new : OpState) : SourcesKept s (s.arrive new) := by
  cases new with
  | standby =>
    have cleared : SourcesKept s s.clearIntegrators := .each_zone fun _ _ => rfl
    exact cleared.trans (.of_blocks rfl rfl)
  | lit | cooldown => exact .of_queue s.pump_frame
  | tripped =>
    have full : SourcesKept s s.fullFans := .of_blocks rfl rfl
    exact (full.trans (.of_queue s.fullFans.abortMotion_frame)).trans (.of_blocks rfl rfl)

theorem State.changeState_sourcesKept (s : State) (new : OpState) : SourcesKept s (s.changeState new) := by
  have written : SourcesKept s (s.writeOp new) := .of_blocks rfl rfl
  exact (written.trans (State.leave_sourcesKept _ _)).trans (State.arrive_sourcesKept _ _)

theorem State.trip_sourcesKept (s : State) (cause : TripCause) : SourcesKept s (s.trip cause) := by
  have named : SourcesKept s (s.setCtl { s.ctl with lastTrip := cause }) := .of_blocks rfl rfl
  exact .ite (.refl s) (named.trans (State.changeState_sourcesKept _ _))

theorem State.judgeComparator_sourcesKept (s : State) : SourcesKept s s.judgeComparator := by
  have set (c : Comparator) : SourcesKept s (s.setComparator c) := ⟨rfl, rfl, rfl, rfl, fun _ => rfl⟩
  rcases s.judgeComparator_cases with ⟨-, -, e⟩ | ⟨-, -, e⟩ | ⟨-, e⟩ <;> rw [e]
  · exact (set _).trans (State.trip_sourcesKept _ _)
  · exact set _
  · exact .refl s

theorem State.judgeDigital_sourcesKept (s : State) (zs : List ZoneId) : SourcesKept s (s.judgeDigital zs) := by
  induction zs generalizing s with
  | nil => exact .refl s
  | cons z zs ih => exact SourcesKept.trans (.ite (s.trip_sourcesKept _) (.refl s)) (ih _)

theorem State.judgeRunOn_sourcesKept (s : State) : SourcesKept s s.judgeRunOn :=
  .ite (s.changeState_sourcesKept _) (.refl s)

/-- Every reset value is in its form (R83, R89, R90). -/
theorem State.applyReset_sourcesOk (s : State) : s.applyReset.SourcesOk := by
  have fresh : State.reset.SourcesOk := by decide
  have blocks : SourcesKept State.reset s.abandonBus.resetBlocks := ⟨rfl, rfl, rfl, rfl, fun _ => rfl⟩
  exact fresh.kept (blocks.trans (State.judgeComparator_sourcesKept _))

theorem State.assertReset_sourcesKept (s : State) : SourcesKept s s.assertReset := by
  constructor <;> simp [State.assertReset, State.abandonBus, State.zone]

/-! ### Fans and the control tick -/

theorem State.stallExpired_sourcesKept (s : State) (f : FanId) : SourcesKept s (s.stallExpired f) := by
  have failed (t : State) : SourcesKept t (t.failFan f) := by
    have set : SourcesKept t (t.setFan f (t.fan f).enterFailed) := .of_blocks rfl rfl
    unfold State.failFan
    dsimp only
    split
    · exact set.trans (.ite (State.trip_sourcesKept _ _) (.refl _))
    · exact .of_blocks rfl rfl
  have stalls : SourcesKept s (s.stall f) := by
    have raised : SourcesKept s (s.raise .fanFault) := .of_blocks rfl rfl
    exact .ite (.of_blocks rfl rfl) (raised.trans (failed _))
  unfold State.stallExpired
  split
  · exact stalls
  · exact stalls
  all_goals exact .refl s

theorem State.fanTick_sourcesKept (s : State) : SourcesKept s s.fanTick :=
  .ite (.of_blocks rfl rfl) (.of_blocks rfl rfl)

theorem State.sourceTick_sourcesKept (s : State) : SourcesKept s s.sourceTick := by
  have started : s.temps.startSweep.sources = s.temps.sources ∧ s.temps.startSweep.tableA = s.temps.tableA ∧
      s.temps.startSweep.tableB = s.temps.tableB ∧ s.temps.startSweep.staging = s.temps.staging := by
    unfold Temps.startSweep Temps.takeNext
    split
    · exact ⟨rfl, rfl, rfl, rfl⟩
    · dsimp only
      split <;> exact ⟨rfl, rfl, rfl, rfl⟩
  obtain ⟨sources, tableA, tableB, staging⟩ := started
  exact ⟨sources, tableA, tableB, staging, fun _ => rfl⟩

end Sys2Proof.Machine
end

section
/-! PROOF. O57: the owners and the events that leave the temperature sources alone. -/

namespace Sys2Proof.Machine

/-! ### The owners of the packet commands (R170) -/

/-- Whether a command carries the values of a thermistor table (R84). -/
def carriesTable : Instr → Bool
  | .writeThermistorTableFirst .. | .writeThermistorTableSecond .. => true
  | _ => false

/-- Whether a command's owner leaves the source records, the tables and the zone temperatures alone. -/
def sparesSources : Instr → Bool
  | .writePoll .. | .assignSource .. | .writeChannel .. | .writeThermistorTableFirst .. | .writeThermistorTableSecond .. => false
  | _ => true

theorem enqueue_sourcesKept (tag : Byte) (j : Job) (s : State) : SourcesKept s (enqueue tag j s).1 := by
  have appended (r : Request) : SourcesKept s (s.append r) := .of_blocks rfl rfl
  unfold enqueue
  split
  · exact .refl s
  · split
    · exact .refl s
    · exact (appended _).trans (.of_queue (State.pump_frame _))

theorem tryLight_sourcesKept (s : State) : SourcesKept s (tryLight s).1 := by
  unfold tryLight
  split
  · exact .refl s
  · exact s.changeState_sourcesKept .lit

theorem setTripComparator_sourcesKept (channel : Byte) (threshold : BitVec 16) (s : State) :
    SourcesKept s (setTripComparator channel threshold s).1 := by
  have set (c : Comparator) : SourcesKept s (s.setComparator c) := ⟨rfl, rfl, rfl, rfl, fun _ => rfl⟩
  unfold setTripComparator
  split
  · exact .refl s
  · split
    · exact .refl s
    · split
      · exact (set _).trans (State.judgeComparator_sourcesKept _)
      · exact .refl s

/-- A write of a zone's settings leaves its temperature (R91). -/
theorem State.setZone_sourcesKept (s : State) {z : ZoneId} {x : Zone} (h : x.temp = (s.zone z).temp) :
    SourcesKept s (s.setZone z x) := by
  refine .of_temps rfl fun y => ?_
  by_cases e : y = z
  · subst e
    rw [State.zone_setZone, h]
  · rw [State.zone_setZone_of_ne _ e]

/-- Such an owner keeps what the invariant reads, whether it refuses, reads or writes (R170). -/
theorem ownerOf_sourcesKept (i : Instr) (s : State) (hi : sparesSources i = true) : SourcesKept s (ownerOf i s).1 := by
  cases i
  case readGrid | gridInfo | readPoll | readThermistorTable | readZone | readFan | readPreset | readMotion =>
    simp only [ownerOf, readGrid, gridInfo, readPoll, readTable, readZone, readFan, readPreset, readMotion, answer]
    split <;> exact .refl s
  case setLight | setLightRamp | engineReset | erasePreset | ackEvents | setEventEnable =>
    simp only [ownerOf, setLight, setLightRamp, engineReset, erasePreset, ackEvents, setEventEnable, answer]
    split <;> exact .of_blocks rfl rfl
  case writeGrid | commitGrid | eraseGrid | selectGrid | writeFan | setInstall =>
    simp only [ownerOf, writeGrid, commitGrid, eraseGrid, selectGrid, writeFan, setInstall, answer]
    repeat' split
    all_goals exact .of_blocks rfl rfl
  case setThermalLimits =>
    simp only [ownerOf, setThermalLimits, answer]
    split
    · exact .of_temps rfl fun _ => rfl
    · exact .refl s
  case writeZone =>
    simp only [ownerOf, writeZone, answer]
    split
    · split
      · exact s.setZone_sourcesKept rfl
      · exact .refl s
    · exact .refl s
  case readSource =>
    simp only [ownerOf, readSource, answer]
    split
    · exact .refl s
    · split <;> exact .of_blocks rfl rfl
  case clearFan =>
    simp only [ownerOf, clearFan, answer]
    split
    · exact .refl s
    · exact .ite (.of_blocks rfl rfl) (.refl s)
  case writeAxis =>
    simp only [ownerOf, writeAxis, answer]
    split
    · split
      · split
        · exact .refl s
        · exact .of_blocks (by simp) (by simp)
      · exact .refl s
    · exact .refl s
  case readAxis =>
    simp only [ownerOf, readAxis, answer]
    split
    · exact .refl s
    · split <;> exact .of_blocks (by simp) (by simp)
  case storePreset =>
    simp only [ownerOf, storePreset, storeExplicit, storeCurrent, answer]
    split
    · exact .of_blocks rfl rfl
    · split <;> exact .of_blocks rfl rfl
    · exact .refl s
  case lightOn =>
    simp only [ownerOf, lightOn]
    split
    · exact tryLight_sourcesKept s
    · exact tryLight_sourcesKept s
    · exact .refl s
    · exact .refl s
  case lightOff =>
    simp only [ownerOf, lightOff]
    split
    · exact s.changeState_sourcesKept _
    · exact .refl s
  case clearTrip =>
    simp only [ownerOf, clearTrip]
    split
    · split
      · exact .refl s
      · exact s.changeState_sourcesKept .cooldown
    · exact .refl s
  case setTripComparator channel threshold => exact setTripComparator_sourcesKept channel threshold s
  case moveAxis =>
    simp only [ownerOf, moveAxis]
    split
    · exact .refl s
    · exact enqueue_sourcesKept _ _ s
  case stepAxis =>
    simp only [ownerOf, stepAxis]
    split
    · exact .refl s
    · split
      · exact enqueue_sourcesKept _ _ s
      · exact .refl s
  case home =>
    simp only [ownerOf, home]
    split
    · exact .refl s
    · exact enqueue_sourcesKept _ _ s
  case recallPreset =>
    simp only [ownerOf, recallPreset]
    split
    · exact .refl s
    · split
      · exact .refl s
      · exact enqueue_sourcesKept _ _ s
  case stopMotion => exact .of_queue s.stopMotion_frame
  all_goals first | contradiction | exact .refl s

/-! ### The events of the video path and of the return lane -/

theorem State.endOutput_sourcesKept (s : State) (b : Bool) : SourcesKept s (s.endOutput b) := by
  unfold State.endOutput
  split
  · exact .refl s
  · exact .of_blocks rfl rfl

theorem State.latch_sourcesKept (s : State) : SourcesKept s s.latch := by
  unfold State.latch
  split
  · exact .refl s
  · exact .of_blocks rfl rfl

theorem State.outputFrameStart_sourcesKept (s : State) : SourcesKept s s.outputFrameStart := by
  have entered (t : State) : SourcesKept t t.enterOutput := .of_blocks rfl rfl
  have begun : SourcesKept s (s.endOutput false).enterOutput.latch :=
    ((s.endOutput_sourcesKept false).trans (entered _)).trans (State.latch_sourcesKept _)
  have counted (t : State) (x : Stats) : SourcesKept t (t.setStats x) := .of_blocks rfl rfl
  unfold State.outputFrameStart
  rw [State.startOutput_eq]
  exact .ite ((begun.trans (counted _ _)).trans (.of_queue (State.endSwitching_frame _))) (.refl s)

theorem State.inputFrameStart_sourcesKept (s : State) (l : Line) : SourcesKept s (s.inputFrameStart l) := by
  have timed (t : State) (n : Nat) : SourcesKept t (t.setLineTime n) := .of_blocks rfl rfl
  have due : SourcesKept s s.startDueFirst :=
    ((timed s _).trans (State.outputFrameStart_sourcesKept _)).trans (timed _ _)
  have begun (t : State) : SourcesKept t (t.beginFrame l) := by
    have started : SourcesKept t (t.setWarp (t.warp.startFrame l)) := .of_blocks rfl rfl
    have answers (u : State) : SourcesKept u u.formAnswer.rearm := .of_blocks rfl rfl
    exact (SourcesKept.ite (started.trans (.of_queue (State.endSwitching_frame _))) started).trans (answers _)
  exact due.trans (begun _)

theorem State.activeLine_sourcesKept (s : State) (ps : List Pixel) : SourcesKept s (s.activeLine ps) :=
  .ite (s.inputFrameStart_sourcesKept _) (.of_blocks rfl rfl)

theorem State.outputLine_sourcesKept (s : State) : SourcesKept s s.outputLine := by
  unfold State.outputLine
  split
  · exact .refl s
  · rename_i f _
    have sent : SourcesKept s (s.sendLine f) := .of_blocks rfl rfl
    rw [State.produceLine_eq]
    exact .ite (.ite (sent.trans (State.endOutput_sourcesKept _ _)) sent) (.refl s)

/-! ### The events of the lens axes and the silence counter -/

theorem State.takeEvent_sourcesKept (s : State) (a : AxisId) (e : AxisEvent) : SourcesKept s (s.takeEvent a e) :=
  .of_queue ((queueFrame_closed s).takeEvent a e (.refl s))

theorem State.profileTick_sourcesKept (s : State) : SourcesKept s s.profileTick := by
  have ticked : SourcesKept s ((s.setAxis .h s.axisH.tick.1).setAxis .v s.axisV.tick.1) := .of_blocks rfl rfl
  have taken := (ticked.trans (State.takeEvent_sourcesKept _ .h s.axisH.tick.2)).trans (State.takeEvent_sourcesKept _ .v s.axisV.tick.2)
  exact .ite ticked (taken.trans (.of_queue (State.proceed_frame _)))

theorem State.setAxis_sourcesKept (s : State) (a : AxisId) (x : Axis) : SourcesKept s (s.setAxis a x) :=
  .of_blocks (by simp) (by simp)

/-- What an end-stop input does to its axis, and the queue on what the axis hands over. -/
theorem State.setAxis_afterEvent_sourcesKept (s : State) (a b : AxisId) (x : Axis) (e : AxisEvent) :
    SourcesKept s ((s.setAxis a x).afterEvent b e) :=
  (s.setAxis_sourcesKept a x).trans (.of_queue (State.afterEvent_frame _ _ _))

end Sys2Proof.Machine
end

section
/-! PROOF. O57: readings, tables and the control tick keep the invariant of the temperature sources, and so does every
step. -/

namespace Sys2Proof.Machine

/-! ### Packets read off a line (R168, R169) -/

theorem wordsOf_length (p : List Byte) : (wordsOf p).length = p.length / 2 := by
  induction p using wordsOf.induct with
  | case1 a b rest ih => simp only [wordsOf, List.length_cons, ih]; omega
  | case2 p short =>
    rcases p with _ | ⟨a, _ | ⟨b, rest⟩⟩
    · rfl
    · simp [wordsOf]
    · exact absurd rfl (short a b rest)

/-- A command read off a payload of the length its code requires carries as many table values as its part has (R182). -/
theorem readCommand_table {tag : Byte} {code : Nat} {p : List Byte} {i : Instr} (hn : requiredLength code p = some p.length)
    (hi : readCommand tag code p = some i) (hc : carriesTable i = true) : i.wf = true := by
  unfold readCommand at hi
  split at hi
  case h_17 =>
    cases hi
    have long : p.length = 19 := (Option.some.inj hn).symm
    simp [Instr.wf, wordsOf_length, long]
  case h_18 =>
    cases hi
    have long : p.length = 17 := (Option.some.inj hn).symm
    simp [Instr.wf, wordsOf_length, long]
  all_goals cases hi <;> cases hc

/-- A table command that a control line brings carries all its values (R169). -/
theorem readPacket_table {bytes : List Byte} {tag : Byte} {i : Instr} (h : readPacket bytes = .command tag i)
    (hc : carriesTable i = true) : i.wf = true := by
  unfold readPacket at h
  dsimp only at h
  split at h
  · rename_i passes
    split at h
    · rename_i n j required read
      split at h
      · rename_i long
        cases h
        simp only [passesCheck, Bool.and_eq_true, decide_eq_true_eq] at passes
        obtain ⟨⟨-, reaches⟩, -⟩ := passes
        refine readCommand_table ?_ read hc
        rw [required, List.length_take, List.length_drop, ← long]
        congr 1
        omega
      · cases h
    · cases h
  · cases h

/-! ### The zone temperatures (R93) -/

/-- A zone's temperature is one of its sources' last good values (R93). -/
theorem State.zoneReadings_plausible {s : State} (h : s.SourcesOk) {z : ZoneId} {t : Int} (ht : t ∈ s.zoneReadings z) :
    plausible t = true := by
  obtain ⟨x, hx, good⟩ := List.mem_filterMap.1 ht
  split at good
  · have value := (h.1 x hx).1
    rwa [good] at value
  · cases good

theorem State.zoneTick_temps (s : State) : s.zoneTick.temps = s.temps := by
  have derate (t : State) : t.judgeDerate.temps = t.temps := by
    unfold State.judgeDerate
    split
    · simp [State.setCeiling]
    · split <;> rfl
  simp [State.zoneTick, State.reformThermal, derate, State.formDemands, State.senseZones, State.copyMode]

namespace State.SourcesOk

variable {s : State}

/-! ### Readings handed to the source records (R65, R66, R80, R81) -/

theorem setSource (h : s.SourcesOk) (n : Fin 12) {x : Source} (hx : x.Ok) : (s.setSource n x).SourcesOk := by
  obtain ⟨⟨sources, tables, staging⟩, zones⟩ := s.sourcesOk_iff.1 h
  refine (State.sourcesOk_iff _).2 ⟨⟨fun m => ?_, fun tab => ?_, staging⟩, zones⟩
  · by_cases e : m = n
    · subst e
      rw [← State.source, State.source_setSource]
      exact hx
    · rw [← State.source, State.source_setSource_of_ne _ e]
      exact sources m
  · cases tab
    · exact tables .a
    · exact tables .b

theorem source (h : s.SourcesOk) (n : Fin 12) : (s.source n).Ok := (s.sourcesOk_iff.1 h).1.sources n

theorem unread (h : s.SourcesOk) (n : Fin 12) : (s.unread n).SourcesOk := h.setSource n (Source.unread_ok _)

theorem applyReading (h : s.SourcesOk) (n : Fin 12) {r : Reading} (hr : r.Plausible) : (s.applyReading n r).SourcesOk := by
  have set := h.setSource n ((h.source n).apply hr)
  rcases s.applyReading_cases n r with ⟨-, e⟩ | ⟨-, e⟩ <;> rw [e]
  · exact set.kept (.of_blocks rfl rfl)
  · exact set

theorem takeConversion (h : s.SourcesOk) (ch : Channel) (code : BitVec 12) : (s.takeConversion ch code).SourcesOk :=
  iteInduction (motive := State.SourcesOk) (fun _ => h) fun _ =>
    h.applyReading _ (judgeCode_plausible ((s.sourcesOk_iff.1 h).1.tables _) code)

theorem advanceScan (h : s.SourcesOk) (ch : Channel) : (s.advanceScan ch).SourcesOk :=
  iteInduction (motive := State.SourcesOk) (fun _ => h.kept ⟨rfl, rfl, rfl, rfl, fun _ => rfl⟩) fun _ => h

/-! ### The sensor bus (R72 to R80) -/

theorem endFlight (h : s.SourcesOk) (f : Flight) {r : Reading} (hr : r.Plausible) (wire : List SbSignal) :
    (s.endFlight f r wire).SourcesOk := by
  have moved (t : State) : SourcesKept t (t.setTemps ({ t.temps with wire := wire } : Temps).takeNext) := by
    rcases ({ t.temps with wire := wire } : Temps).takeNext_cases with ⟨-, e⟩ | ⟨n, rest, -, e⟩ <;> rw [e] <;>
      exact ⟨rfl, rfl, rfl, rfl, fun _ => rfl⟩
  have applied : (if f.discarded then s else s.applyReading (pollSource f.entry) r).SourcesOk :=
    iteInduction (motive := State.SourcesOk) (fun _ => h) fun _ => h.applyReading _ hr
  exact applied.kept (moved _)

theorem cutFlight (h : s.SourcesOk) (f : Flight) (o : ReadOutcome) (p : SbPlace) : (s.cutFlight f o p).SourcesOk := by
  have due : (s.setTemps { s.temps with recoveryDue := true }).SourcesOk := h.kept ⟨rfl, rfl, rfl, rfl, fun _ => rfl⟩
  exact (due.endFlight f (r := .bad o) nofun _).kept (.of_blocks rfl rfl)

theorem stopBegun (h : s.SourcesOk) (e : SbEnd) : (s.stopBegun e).SourcesOk := by
  unfold State.stopBegun
  split
  · exact h
  · exact h.endFlight _ (PollEntry.judge_plausible _ e) _

theorem cutBegun (h : s.SourcesOk) (o : ReadOutcome) (p : SbPlace) : (s.cutBegun o p).SourcesOk := by
  unfold State.cutBegun
  split
  · exact h
  · exact h.cutFlight _ _ _

theorem addStretch (h : s.SourcesOk) (micros : Nat) : (s.addStretch micros).SourcesOk := by
  unfold State.addStretch
  split
  · exact h
  · exact iteInduction (motive := State.SourcesOk) (fun _ => h.cutFlight _ _ _) fun _ =>
      h.kept ⟨rfl, rfl, rfl, rfl, fun _ => rfl⟩

theorem recoveryDone (h : s.SourcesOk) : s.recoveryDone.SourcesOk := by
  unfold State.recoveryDone
  split
  · exact h
  · exact h.kept ⟨rfl, rfl, rfl, rfl, fun _ => rfl⟩

theorem recoveryAbandoned (h : s.SourcesOk) : s.recoveryAbandoned.SourcesOk := by
  unfold State.recoveryAbandoned
  split
  · exact h
  · exact h.cutFlight _ _ _

/-! ### The control tick and the silence counter -/

theorem zoneTick (h : s.SourcesOk) : s.zoneTick.SourcesOk := by
  obtain ⟨records, -⟩ := s.sourcesOk_iff.1 h
  refine (State.sourcesOk_iff _).2 ⟨s.zoneTick_temps ▸ records, fun z => ?_⟩
  rw [(s.zoneTick_zone z).1]
  cases hm : (s.zoneReadings z).max? with
  | none => rfl
  | some t => exact State.zoneReadings_plausible h (List.max?_mem hm)

theorem controlTick (h : s.SourcesOk) : s.controlTick.SourcesOk := by
  have judged := State.judgeDigital_sourcesKept s.zoneTick ZoneId.all
  have ticked := (judged.trans (State.fanTick_sourcesKept _)).trans (State.sourceTick_sourcesKept _)
  exact h.zoneTick.kept ((ticked.trans (State.judgeRunOn_sourcesKept _)).trans (.of_queue (State.proceed_frame _)))

theorem silenceExpires (h : s.SourcesOk) : s.silenceExpires.SourcesOk := by
  have lost : SourcesKept s ((s.setCtl { s.ctl with silence := Config.silenceLimit, armed := false }).raise .linkLost) :=
    .of_blocks rfl rfl
  exact iteInduction (motive := State.SourcesOk) (fun _ => State.applyReset_sourcesOk _) fun _ =>
    h.kept ((lost.trans (.ite (State.changeState_sourcesKept _ _) (.refl _))).trans (.of_queue (State.endSwitching_frame _)))

theorem silenceCounts (h : s.SourcesOk) : s.silenceCounts.SourcesOk :=
  iteInduction (motive := State.SourcesOk)
    (fun _ => iteInduction (motive := State.SourcesOk) (fun _ => h.silenceExpires) fun _ => h.kept (.of_blocks rfl rfl)) fun _ => h

/-! ### The owners of the packet commands (R67, R70, R82, R84) -/

theorem writePoll (h : s.SourcesOk) (entry enable address register fraction pec : Byte) :
    (Machine.writePoll entry enable address register fraction pec s).1.SourcesOk := by
  unfold Machine.writePoll
  split
  · have written (n : Fin 8) (e : PollEntry) : (s.setTemps (s.temps.writePoll n e)).SourcesOk :=
      h.kept ⟨rfl, rfl, rfl, rfl, fun _ => rfl⟩
    exact (written _ _).unread _
  · exact h

theorem assignSource (h : s.SourcesOk) (source zone : Byte) : (Machine.assignSource source zone s).1.SourcesOk := by
  unfold Machine.assignSource
  split
  · exact h.setSource _ (h.source _)
  · exact h

theorem writeChannel (h : s.SourcesOk) (channel table : Byte) : (Machine.writeChannel channel table s).1.SourcesOk := by
  unfold Machine.writeChannel
  split
  · split
    · exact h
    · have switched (ch : Channel) (tab : TableId) : (s.setTemps (s.temps.switchTable ch tab)).SourcesOk :=
        h.kept ⟨rfl, rfl, rfl, rfl, fun _ => rfl⟩
      exact (switched _ _).unread _
  · exact h

/-- A staging record written, or emptied (R84). -/
theorem setStaging (h : s.SourcesOk) {x : Option Staging} (hx : ∀ st ∈ x, st.values.length = 9 ∧ tableOk st.values) :
    (s.setStaging x).SourcesOk := by
  obtain ⟨sources, tableA, tableB, -, zones⟩ := h
  exact ⟨sources, tableA, tableB, hx, zones⟩

theorem install (h : s.SourcesOk) (tab : TableId) {values : List Int} (long : values.length = 17) (ok : tableOk values) :
    (s.setTemps (s.temps.install tab values)).SourcesOk := by
  obtain ⟨sources, tableA, tableB, -, zones⟩ := h
  have inA (v : Vector Int 17) (hv : tableOk v.toList) : (s.setTemps { s.temps with tableA := v, staging := none }).SourcesOk :=
    ⟨sources, hv, tableB, nofun, zones⟩
  have inB (v : Vector Int 17) (hv : tableOk v.toList) : (s.setTemps { s.temps with tableB := v, staging := none }).SourcesOk :=
    ⟨sources, tableA, hv, nofun, zones⟩
  rw [← tableOfList_toList long] at ok
  cases tab
  · exact inA _ ok
  · exact inB _ ok

theorem writeTableFirst (h : s.SourcesOk) (table : Byte) {values : List (BitVec 16)} (long : values.length = 9) :
    (Machine.writeTableFirst table values s).1.SourcesOk := by
  unfold Machine.writeTableFirst
  split
  · exact h.setStaging nofun
  · split
    · rename_i ok
      exact h.setStaging fun st hst => by
        cases hst
        exact ⟨by simp [temperatures, long], (tableValuesOk_iff _).1 ok⟩
    · exact h.setStaging nofun

theorem writeTableSecond (h : s.SourcesOk) (table : Byte) {values : List (BitVec 16)} (long : values.length = 8) :
    (Machine.writeTableSecond table values s).1.SourcesOk := by
  unfold Machine.writeTableSecond
  split
  · exact h.setStaging nofun
  · split
    · exact h
    · rename_i st staged
      split
      · exact h
      · split
        · rename_i good
          obtain ⟨nine, first⟩ := (s.sourcesOk_iff.1 h).1.staging st staged
          rw [Bool.and_eq_true, List.all_eq_true, nonIncreasing_iff] at good
          obtain ⟨range, falls⟩ := good
          have ends : tableOk (st.values.drop 8 ++ temperatures values) := ⟨falls, fun t ht => (List.mem_append.1 ht).elim
            (fun k => first.2 t (List.mem_of_mem_drop k)) (range t)⟩
          exact h.install _ (by simp [nine, temperatures, long]) (tableOk_append first nine ends)
        · exact h.setStaging nofun

/-- What the owner of a packet command does keeps the invariant, of a table part's command where it carries all its values
(R170). -/
theorem ownerOf (h : s.SourcesOk) {i : Instr} (hi : carriesTable i = true → i.wf = true) : (Machine.ownerOf i s).1.SourcesOk := by
  cases i
  case writePoll => exact h.writePoll _ _ _ _ _ _
  case assignSource => exact h.assignSource _ _
  case writeChannel => exact h.writeChannel _ _
  case writeThermistorTableFirst => exact h.writeTableFirst _ (of_decide_eq_true (hi rfl))
  case writeThermistorTableSecond => exact h.writeTableSecond _ (of_decide_eq_true (hi rfl))
  all_goals exact h.kept (ownerOf_sourcesKept _ _ rfl)

theorem takePacket (h : s.SourcesOk) (tag : Byte) {run : Owner} (owner : ∀ t, State.SourcesOk t → (run t).1.SourcesOk) :
    (s.takePacket tag run).SourcesOk :=
  State.takePacket_keeps h (fun _ _ ht => ht.kept (.of_blocks rfl rfl)) owner

/-- A packet command that carries no table keeps the invariant (R167, R170). -/
theorem packet (h : s.SourcesOk) {i : Instr} (hi : (packetOf i).isSome = true) (hc : carriesTable i = false) :
    ∃ t, Machine.exec i s = .next t ∧ t.SourcesOk := by
  obtain ⟨⟨tag, code, payload⟩, hp⟩ := Option.isSome_iff_exists.1 hi
  obtain ⟨run, he, hr⟩ := exec_packet hp s
  refine ⟨_, he, h.takePacket tag fun t ht => ?_⟩
  rcases hr with rfl | ⟨-, rfl⟩
  · exact ht.ownerOf fun k => nomatch hc.symm.trans k
  · exact ht

theorem receive (h : s.SourcesOk) {r : PacketRead} (hr : ∀ tag i, r = .command tag i → carriesTable i = true → i.wf = true) :
    (s.receive r).SourcesOk := by
  cases r with
  | badCheck tag => exact h.takePacket tag fun _ ht => ht
  | unknownCommand tag => exact h.takePacket tag fun _ ht => ht
  | badLength tag => exact h.takePacket tag fun _ ht => ht
  | command tag i => exact h.takePacket tag fun _ ht => ht.ownerOf (hr tag i rfl)

/-! ### Every command, and every step -/

theorem controlLine (h : s.SourcesOk) (ps : List Pixel) : (s.controlLine ps).SourcesOk := by
  have line : s.blankingLine.SourcesOk := h.kept (.of_blocks rfl rfl)
  exact iteInduction (motive := State.SourcesOk) (fun _ => line.receive fun _ _ hr hc => readPacket_table hr hc) fun _ => line

theorem answerSent (h : s.SourcesOk) : s.answerSent.SourcesOk :=
  iteInduction (motive := State.SourcesOk)
    (fun _ => iteInduction (motive := State.SourcesOk) (fun _ => s.applyReset_sourcesOk) fun _ => h.kept (.of_blocks rfl rfl)) fun _ => h

theorem lockLost (h : s.SourcesOk) : s.lockLost.SourcesOk := by
  have darkened : s.darken.SourcesOk := h.kept (.of_blocks rfl rfl)
  rw [State.lockLost_eq]
  exact iteInduction (motive := State.SourcesOk) (fun _ => State.applyReset_sourcesOk _) fun _ => darkened.kept (.of_blocks rfl rfl)

theorem showLevel (h : s.SourcesOk) (level : PinLevel) : (s.showLevel level).SourcesOk := by
  have shown : (s.setPinCode level.ch level.code).SourcesOk := h.kept ⟨rfl, rfl, rfl, rfl, fun _ => rfl⟩
  exact State.whenLive_keeps shown fun hs => hs.kept (State.judgeComparator_sourcesKept _)

/-- Every command completes and keeps the invariant. -/
theorem exec (h : s.SourcesOk) (i : Instr) : ∃ t, Machine.exec i s = .next t ∧ t.SourcesOk := by
  have live (f : State → State) (hf : s.SourcesOk → (f s).SourcesOk) : (s.whenLive f).SourcesOk := State.whenLive_keeps h hf
  have linked (f : State → State) (hf : s.SourcesOk → (f s).SourcesOk) : (s.whenLinked f).SourcesOk := State.whenLinked_keeps h hf
  cases i
  case inputActiveLine ps => exact ⟨_, rfl, linked _ fun _ => h.kept (s.activeLine_sourcesKept ps)⟩
  case controlLine ps => exact ⟨_, rfl, linked _ fun _ => h.controlLine ps⟩
  case plainBlankingLine => exact ⟨_, rfl, linked _ fun _ => h.kept (.of_blocks rfl rfl)⟩
  case outputLine => exact ⟨_, rfl, linked _ fun _ => h.kept s.outputLine_sourcesKept⟩
  case outputFrameStart => exact ⟨_, rfl, linked _ fun _ => h.kept s.outputFrameStart_sourcesKept⟩
  case linkLockLost =>
    exact ⟨_, rfl, iteInduction (motive := State.SourcesOk) (fun _ => h.lockLost) fun _ => h.kept (.of_blocks rfl rfl)⟩
  case linkLockRegained => exact ⟨_, rfl, h.kept (.ite (.of_blocks rfl rfl) (.of_blocks rfl rfl))⟩
  case answerSent => exact ⟨_, rfl, linked _ fun _ => h.answerSent⟩
  case resetNAsserted => exact ⟨_, rfl, live _ fun _ => h.kept s.assertReset_sourcesKept⟩
  case resetNReleased => exact ⟨_, rfl, State.applyReset_sourcesOk _⟩
  case controlTick => exact ⟨_, rfl, live _ fun _ => h.controlTick⟩
  case thermistorConversionDone ch code => exact ⟨_, rfl, live _ fun _ => (h.takeConversion ch code).advanceScan ch⟩
  case sbTransactionEnd e => exact ⟨_, rfl, live _ fun _ => h.stopBegun e⟩
  case sbStretchLimit micros => exact ⟨_, rfl, live _ fun _ => h.addStretch micros⟩
  case sbClockTimeout => exact ⟨_, rfl, live _ fun _ => h.cutBegun _ _⟩
  case sbBusError => exact ⟨_, rfl, live _ fun _ => h.cutBegun _ _⟩
  case sbRecoveryDone => exact ⟨_, rfl, live _ fun _ => h.recoveryDone⟩
  case sbRecoveryAbandoned => exact ⟨_, rfl, live _ fun _ => h.recoveryAbandoned⟩
  case comparatorTrip level => exact ⟨_, rfl, h.showLevel level⟩
  case comparatorRelease level => exact ⟨_, rfl, h.showLevel level⟩
  case stallTimerExpiry f => exact ⟨_, rfl, live _ fun _ => h.kept (s.stallExpired_sourcesKept f)⟩
  case tachEdge f e =>
    exact ⟨_, rfl, live _ fun _ => h.kept (.ite (.of_blocks (by simp [State.selectedEdge, State.updateFan])
      (by simp [State.selectedEdge, State.updateFan])) (.refl s))⟩
  case profileTick => exact ⟨_, rfl, live _ fun _ => h.kept s.profileTick_sourcesKept⟩
  case endstopEdge e =>
    exact ⟨_, rfl, h.kept (.ite (s.setAxis_afterEvent_sourcesKept _ _ _ _) (s.setAxis_sourcesKept _ _))⟩
  case endstopInactive e =>
    exact ⟨_, rfl, h.kept (.ite (s.setAxis_afterEvent_sourcesKept _ _ _ _) (s.setAxis_sourcesKept _ _))⟩
  case railWaitTimeout => exact ⟨_, rfl, live _ fun _ => h.kept (.of_queue s.railTimeout_frame)⟩
  case silenceTick => exact ⟨_, rfl, live _ fun _ => h.silenceCounts⟩
  case silenceExpiry => exact ⟨_, rfl, live _ fun _ => iteInduction (motive := State.SourcesOk) (fun _ => h.silenceExpires) fun _ => h⟩
  case rampTick | lightPwmPeriodBoundary | fanPwmPeriodBoundary | kickTimerExpiry | pauseTimerExpiry | retryClearTimerExpiry
      | tachTimeout | runOnElapsedLimit => exact ⟨_, rfl, live _ fun _ => h.kept (.of_blocks rfl rfl)⟩
  case writeThermistorTableFirst tag table values =>
    refine ⟨_, rfl, h.takePacket tag fun t ht => ?_⟩
    split
    · exact ht.writeTableFirst table ‹_›
    · exact ht
  case writeThermistorTableSecond tag table values =>
    refine ⟨_, rfl, h.takePacket tag fun t ht => ?_⟩
    split
    · exact ht.writeTableSecond table ‹_›
    · exact ht
  all_goals exact h.packet rfl rfl

end State.SourcesOk

/-- Settles O57: a millisecond or the command at the front of the queue, each of which keeps the invariant. -/
theorem everyStepKeepsSources : Obligations.EveryStepKeepsSources := by
  intro s t h he
  unfold step at he
  split at he
  · cases he
    exact State.whenLive_keeps h fun _ => h.kept (.of_blocks rfl rfl)
  · rename_i i rest _
    have waits : (s.setPending rest).SourcesOk := h.kept (.of_blocks rfl rfl)
    obtain ⟨u, hu, ok⟩ := waits.exec i
    cases hu.symm.trans he
    exact ok

end Sys2Proof.Machine
end

section
/-! PROOF. O28: a read applied to a source record. -/

namespace Sys2Proof.Machine

/-- A read that does not take its record into FAILED writes the record alone (R65, R66). -/
theorem State.applyReading_of_stays {s : State} {n : Fin 12} {r : Reading} {y : Source} (applied : (s.source n).apply r = y)
    (stays : (s.source n).state = .failed ∨ y.state ≠ .failed) : s.applyReading n r = s.setSource n y := by
  have quiet : (s.source n).entersFailed r = false := by
    rw [Source.entersFailed, applied]
    rcases stays with h | h <;> simp [h]
  rw [State.applyReading, quiet, applied]
  rfl

/-- A read that takes its record into FAILED sets SENSOR_FAIL (R65). -/
theorem State.applyReading_of_fails {s : State} {n : Fin 12} {r : Reading} {y : Source} (applied : (s.source n).apply r = y)
    (works : (s.source n).state ≠ .failed) (fails : y.state = .failed) :
    s.applyReading n r = (s.setSource n y).raise .sensorFail := by
  have enters : (s.source n).entersFailed r = true := by simp [Source.entersFailed, applied, works, fails]
  rw [State.applyReading, enters, applied]
  rfl

theorem Source.applyBad_of_failed {x : Source} (failed : x.state = .failed) (o : ReadOutcome) :
    x.applyBad o = { x with lastOutcome := o, goods := 0 } := by
  simp only [Source.applyBad, failed]

theorem Source.applyBad_of_works {x : Source} (works : x.state ≠ .failed) (o : ReadOutcome) :
    x.applyBad o = x.countFailure o := by
  cases hs : x.state with
  | failed => exact absurd hs works
  | unread | ok => simp only [Source.applyBad, hs]

theorem Source.applyGood_of_failed {x : Source} (failed : x.state = .failed) (t : Int) : x.applyGood t =
    if 5 ≤ x.goods + 1 then { x with lastOutcome := .done, lastGood := some t, state := .ok, failures := 0, goods := 0 }
    else { x with lastOutcome := .done, lastGood := some t, goods := x.goods + 1 } := by
  simp only [Source.applyGood, failed]

theorem Source.applyGood_of_works {x : Source} (works : x.state ≠ .failed) (t : Int) :
    x.applyGood t = { x with lastOutcome := .done, lastGood := some t, state := .ok, failures := 0 } := by
  cases hs : x.state with
  | failed => exact absurd hs works
  | unread | ok => simp only [Source.applyGood, hs]

/-- Settles O28: the six cases of R65 and R66, by the record's state and its counts. -/
theorem readsMoveSourceHealth : Obligations.ReadsMoveSourceHealth := by
  rintro s n o temp x rfl
  refine ⟨fun failed => ?_, fun works few => ?_, fun works two => ?_, fun works => ?_, fun failed few => ?_, fun failed four => ?_⟩
  · exact State.applyReading_of_stays (Source.applyBad_of_failed failed o) (.inl failed)
  · have counted := (Source.applyBad_of_works works o).trans (if_neg (by omega))
    exact State.applyReading_of_stays counted (.inr works)
  · have third := (Source.applyBad_of_works works o).trans (if_pos (by omega))
    exact State.applyReading_of_fails third works rfl
  · exact State.applyReading_of_stays (Source.applyGood_of_works works temp) (.inr nofun)
  · have counted := (Source.applyGood_of_failed failed temp).trans (if_neg (by omega))
    exact State.applyReading_of_stays counted (.inl failed)
  · have fifth := (Source.applyGood_of_failed failed temp).trans (if_pos (by omega))
    exact State.applyReading_of_stays fifth (.inl failed)

end Sys2Proof.Machine
end

section
/-! PROOF. O29: a thermistor conversion. -/

namespace Sys2Proof.Machine

/-- Of the temperature sources a read writes its own record alone (R65, R66). -/
theorem State.applyReading_temps (s : State) (n : Fin 12) (r : Reading) :
    (s.applyReading n r).temps = { s.temps with sources := s.temps.sources.set n ((s.source n).apply r) } := by
  simp only [State.applyReading, State.raiseIf_fields]
  rfl

theorem Temps.table_tableOf (t : Temps) (ch : Channel) :
    t.table (t.tableOf ch) = if t.channelTable[ch.idx] = .a then t.tableA else t.tableB := by
  rw [Temps.tableOf]
  cases t.channelTable[ch.idx] <;> rfl

/-- The three judgements of R81, of a code in the table's cell `k`. -/
theorem judgeCode_cases (tab : Vector Int 17) {code k f : Nat} (cell : code = 256 * k + f) (part : f < 256) :
    (code < 16 ∧ judgeCode tab code = .bad .shorted) ∨ (4079 < code ∧ judgeCode tab code = .bad .openCircuit) ∨
    (16 ≤ code ∧ code ≤ 4079 ∧
      judgeCode tab code = .good (tab.getD k 0 + ((tab.getD (k + 1) 0 - tab.getD k 0) * f + 128) / 256)) := by
  unfold judgeCode
  by_cases low : code < 16
  · exact .inl ⟨low, if_pos low⟩
  · by_cases high : 4079 < code
    · exact .inr (.inl ⟨high, by rw [if_neg low, if_pos high]⟩)
    · have hk : code / 256 = k := by omega
      have hf : code % 256 = f := by omega
      exact .inr (.inr ⟨by omega, by omega, by simp only [if_neg low, if_neg high, convertCode, hk, hf]⟩)

/-- The scan goes on from the channel that has been converted, and from no other (R81). -/
theorem State.advanceScan_eq (s : State) (ch : Channel) : s.advanceScan ch = { s with temps := { s.temps with
    converting := if s.temps.converting = some ch then nextChannel ch else s.temps.converting
    discardConversion := if s.temps.converting = some ch then false else s.temps.discardConversion } } := by
  by_cases h : s.temps.converting = some ch
  · simp only [State.advanceScan, State.setTemps, h, if_true]
  · simp only [State.advanceScan, h, if_false]

/-- Settles O29: the reading is the code's judgement, whose temperature lies between the two values of the table around the
code; where it is not discarded it is applied, and then the scan goes on. -/
theorem thermistorConversionIsJudgedAndApplied : Obligations.ThermistorConversionIsJudgedAndApplied := by
  intro s ch code r tab k f live htab cell part shorted opened done
  have judged : judgeCode tab code.toNat = r := by
    rcases judgeCode_cases tab cell part with ⟨low, e⟩ | ⟨high, e⟩ | ⟨low, high, e⟩ <;> rw [e]
    · exact (shorted low).symm
    · exact (opened high).symm
    · exact (done low high).symm
  have runs : exec (.thermistorConversionDone ch code) s = .next ((s.takeConversion ch code).advanceScan ch) :=
    congrArg _ (State.whenLive_of_live live _)
  refine ⟨fun kept => ⟨_, rfl, ?_⟩, fun converts discarded => ?_, fun good temp reads => ?_⟩
  · have taken : s.takeConversion ch code = s.applyReading ch.source r := by
      rw [State.takeConversion, if_neg kept, Temps.table_tableOf, ← htab, judged]
    have same : (s.applyReading ch.source r).temps.converting = s.temps.converting ∧
        (s.applyReading ch.source r).temps.discardConversion = s.temps.discardConversion := by
      rw [State.applyReading_temps]
      exact ⟨rfl, rfl⟩
    rw [runs, taken, State.advanceScan_eq, same.1, same.2]
  · have taken : s.takeConversion ch code = s := if_pos ⟨converts, discarded⟩
    rw [runs, taken, State.advanceScan_eq, if_pos converts, if_pos converts]
  · have short : code.toNat < 4096 := code.isLt
    have hk : k < 16 := by omega
    rw [← judged] at reads
    obtain ⟨least, most⟩ := (plausible_iff temp).1 (judgeCode_plausible good code temp reads)
    obtain ⟨below, above⟩ := convertCode_between good hk part
    rw [← cell] at below above
    have temperature : temp = convertCode tab code.toNat := by
      unfold judgeCode at reads
      split at reads
      · cases reads
      · split at reads <;> cases reads
        rfl
    rw [temperature] at least most ⊢
    exact ⟨below, above, least, most⟩

end Sys2Proof.Machine
end

section
/-! PROOF. O30: how a sensor-bus transaction ends. -/

namespace Sys2Proof.Machine

/-! ### A transaction's end and the sweep's next entry (R72, R79) -/

/-- A read handed to a source record, whole: its record, and SENSOR_FAIL where the record fails (R65, R66). -/
theorem State.applyReading_eq (s : State) (n : Fin 12) (r : Reading) : s.applyReading n r = { s with
    temps := { s.temps with sources := s.temps.sources.set n ((s.source n).apply r) }
    chan := if (s.source n).entersFailed r then s.chan.raise .sensorFail else s.chan } := by
  rcases s.applyReading_cases n r with ⟨enters, e⟩ | ⟨stays, e⟩
  · rw [e, enters]
    rfl
  · rw [e, stays]
    rfl

/-- The part once a flight's outcome has reached its record, unless it has been discarded (R70, R80). -/
def State.afterReading (s : State) (f : Flight) (r : Reading) : State :=
  if f.discarded then s else s.applyReading (pollSource f.entry) r

theorem State.afterReading_frame (s : State) (f : Flight) (r : Reading) :
    (s.afterReading f r).resetAsserted = s.resetAsserted ∧ (s.afterReading f r).freeCount = s.freeCount ∧
    ∃ sources, (s.afterReading f r).temps = { s.temps with sources := sources } := by
  unfold State.afterReading
  split
  · exact ⟨rfl, rfl, _, rfl⟩
  · rw [State.applyReading_eq]
    exact ⟨rfl, rfl, _, rfl⟩

theorem State.eq_afterReading {s u : State} {f : Flight} {r : Reading} (discarded : f.discarded = true → u = s)
    (handed : f.discarded = false → u = s.applyReading (pollSource f.entry) r) : u = s.afterReading f r := by
  unfold State.afterReading
  cases h : f.discarded
  · exact handed h
  · exact discarded h

/-- The end of a transaction, whole: the reading, what was made on the two lines, and the sweep's next entry (R72, R80). -/
theorem State.endFlight_eq (s : State) (f : Flight) (r : Reading) (wire : List SbSignal) : s.endFlight f r wire =
    { s.afterReading f r with temps := ({ (s.afterReading f r).temps with wire := wire } : Temps).takeNext } := rfl

/-- A cut-off transaction, whole: recovery becomes due, and a free value is drawn (R77 to R80). -/
theorem State.cutFlight_eq (s : State) (f : Flight) (o : ReadOutcome) (p : SbPlace) : s.cutFlight f o p =
    { s.afterReading f (.bad o) with
      temps := ({ (s.afterReading f (.bad o)).temps with recoveryDue := true, wire := f.cutWire p s.freeCount } : Temps).takeNext
      freeCount := s.freeCount + 1 } := by
  unfold State.cutFlight
  rw [State.endFlight_eq]
  unfold State.afterReading
  split
  · rfl
  · rw [State.applyReading_eq, State.applyReading_eq]
    rfl

/-- The sweep goes on by the list and the poll table that the reading found (R72). -/
theorem State.takeNext_afterReading {s u : State} {f : Flight} {r : Reading} (hu : u = s.afterReading f r) {due : Bool}
    {wire : List SbSignal} {next : Temps}
    (ends : s.temps.sweepList = [] →
      next = { u.temps with sweeping := false, flight := none, recoveryDue := due, wire := wire })
    (goesOn : ∀ n rest, s.temps.sweepList = n :: rest → next = { u.temps with
      sweepList := rest, recoveryDue := due, wire := wire
      flight := some { entry := n, begun := !due, contents := s.temps.poll[n], discarded := false, stretchSum := 0 } }) :
    ({ u.temps with recoveryDue := due, wire := wire } : Temps).takeNext = next := by
  obtain ⟨-, -, sources, records⟩ := s.afterReading_frame f r
  have same : u.temps.sweepList = s.temps.sweepList ∧ u.temps.poll = s.temps.poll := by
    rw [hu, records]
    exact ⟨rfl, rfl⟩
  rcases ({ u.temps with recoveryDue := due, wire := wire } : Temps).takeNext_cases with ⟨none, e⟩ | ⟨n, rest, listed, e⟩
  · rw [e, ends (same.1.symm.trans none)]
  · rw [e, goesOn n rest (same.1.symm.trans listed), ← same.2]

theorem Temps.takeNext_flight (t : Temps) : t.takeNext.flight = none ↔ t.sweepList = [] := by
  rcases t.takeNext_cases with ⟨none, e⟩ | ⟨n, rest, listed, e⟩ <;> simp [*]

theorem Temps.takeNext_wire (t : Temps) : t.takeNext.wire = t.wire := by
  rcases t.takeNext_cases with ⟨-, e⟩ | ⟨n, rest, -, e⟩ <;> rw [e]

theorem Temps.begun_of_flight {t : Temps} {f : Flight} (flies : t.flight = some f) (begun : f.begun = true) : t.begun = some f := by
  simp [Temps.begun, flies, begun]

theorem Temps.recovering_of_flight {t : Temps} {f : Flight} (flies : t.flight = some f) (waits : f.begun = false) :
    t.recovering = some f := by
  simp [Temps.recovering, flies, waits]

section

variable {s : State} {fl : Flight} (live : s.resetAsserted = false) (flies : s.temps.flight = some fl)
include live flies

theorem exec_sbTransactionEnd (begun : fl.begun = true) (e : SbEnd) :
    exec (.sbTransactionEnd e) s = .next (s.endFlight fl (fl.contents.judge e) (fl.contents.signals e)) := by
  have runs : exec (.sbTransactionEnd e) s = .next (s.stopBegun e) := congrArg _ (State.whenLive_of_live live _)
  rw [runs, State.stopBegun, Temps.begun_of_flight flies begun]

/-- A stretch of 30 ms or a bus error cuts off the transaction in flight (R77, R78). -/
theorem exec_cuts (begun : fl.begun = true) : exec .sbClockTimeout s = .next (s.cutFlight fl .timeout .wait) ∧
    exec .sbBusError s = .next (s.cutFlight fl .busError .high) := by
  have cut (o : ReadOutcome) (p : SbPlace) : s.whenLive (fun s => s.cutBegun o p) = s.cutFlight fl o p := by
    rw [State.whenLive_of_live live, State.cutBegun, Temps.begun_of_flight flies begun]
  exact ⟨congrArg _ (cut _ _), congrArg _ (cut _ _)⟩

theorem exec_sbStretchLimit (begun : fl.begun = true) (micros : Nat) : exec (.sbStretchLimit micros) s = .next
    (if 15000 < fl.stretchSum + micros then s.cutFlight fl .stretch .wait
    else s.setTemps { s.temps with flight := some { fl with stretchSum := fl.stretchSum + micros } }) := by
  have runs : exec (.sbStretchLimit micros) s = .next (s.addStretch micros) := congrArg _ (State.whenLive_of_live live _)
  rw [runs, State.addStretch, Temps.begun_of_flight flies begun]
  rfl

theorem exec_sbRecoveryAbandoned (waits : fl.begun = false) :
    exec .sbRecoveryAbandoned s = .next (s.cutFlight fl .timeout .pulse) := by
  have runs : exec .sbRecoveryAbandoned s = .next s.recoveryAbandoned := congrArg _ (State.whenLive_of_live live _)
  rw [runs, State.recoveryAbandoned, Temps.recovering_of_flight flies waits]

end

/-! ### What a transaction brings, and what it makes on the two lines (R73 to R76) -/

theorem convertRaw_eq (raw : BitVec 16) (fraction : Nat) : convertRaw raw fraction = raw.toInt * 16 / 2 ^ fraction := by
  simp [convertRaw]

/-- The judgement of a transaction in which every byte was acknowledged (R75, R76). -/
theorem PollEntry.judge_data {x : PollEntry} {hi lo pec : Byte} {temp : Int} {r : Reading}
    (converted : temp = (hi ++ lo : BitVec 16).toInt * 16 / 2 ^ x.fraction)
    (mismatch : x.pec = true → crc8 (x.sentBytes ++ [hi, lo]) ≠ pec → r = .bad .pecMismatch)
    (plain : (x.pec = true → crc8 (x.sentBytes ++ [hi, lo]) = pec) →
      (-640 ≤ temp → temp ≤ 2400 → r = .good temp) ∧ (temp < -640 ∨ 2400 < temp → r = .bad .range)) :
    x.judge (.data hi lo pec) = r := by
  simp only [PollEntry.judge]
  split
  · rename_i fails
    exact (mismatch fails.1 fails.2).symm
  · rename_i passes
    obtain ⟨good, range⟩ := plain fun checks => not_not.1 fun k => passes ⟨checks, k⟩
    rw [convertRaw_eq, ← converted]
    split
    · rename_i within
      obtain ⟨low, high⟩ := (plausible_iff temp).1 within
      exact (good low high).symm
    · rename_i beyond
      rw [plausible_iff] at beyond
      exact (range (by omega)).symm

/-! ### Where a transaction or a recovery is cut off (R77 to R79) -/

theorem clockRises_iff (levels : List SbLevel) (n : Nat) : clockRises levels n = true ↔ 2 ≤ n ∧
    (∃ l, levels[n - 1]? = some l ∧ l.clk = true) ∧ ∃ l, levels[n - 2]? = some l ∧ l.clk = false := by
  simp [clockRises, Option.any_eq_true, and_assoc]

/-- A cut-off transaction lies before its start or with SB_CLK just seen released, and a wait for SB_CLK right after a
release; a cut-off recovery lies in a wait (R77 to R79). -/
theorem Flight.cut_place (f : Flight) {p : SbPlace} (k : Nat) {n : Nat} {levels : List SbLevel}
    (hl : levels = driven (f.course k)) (hn : n = p.freePoint levels k)
    (hp : f.begun = true ∧ (p = .wait ∨ p = .high) ∨ f.begun = false ∧ p = .pulse) :
    (n ≠ 0 → ∃ l, levels[n - 1]? = some l ∧ l.clk = true) ∧
    (p ≠ .high → n = 0 ∧ f.begun = true ∨ 2 ≤ n ∧ ∃ l, levels[n - 2]? = some l ∧ l.clk = false) := by
  have admitted : p.admits levels n = true := by
    rw [hn, hl]
    refine f.cut_admitted p k fun pulse => ?_
    rcases hp with ⟨-, h | h⟩ | ⟨waits, -⟩
    · cases pulse.symm.trans h
    · cases pulse.symm.trans h
    · exact waits
  rcases hp with ⟨begun, rfl | rfl⟩ | ⟨waits, rfl⟩ <;>
    simp only [SbPlace.admits, Bool.or_eq_true, Bool.and_eq_true, decide_eq_true_eq, clockRises_iff] at admitted
  · rcases admitted with none | ⟨two, high, low⟩
    · exact ⟨fun k => absurd none k, fun _ => .inl ⟨none, begun⟩⟩
    · exact ⟨fun _ => high, fun _ => .inr ⟨two, low⟩⟩
  · rcases admitted with none | high
    · exact ⟨fun k => absurd none k, fun k => absurd rfl k⟩
    · exact ⟨fun _ => by simpa [Option.any_eq_true] using high, fun k => absurd rfl k⟩
  · obtain ⟨⟨two, high, low⟩, -⟩ := admitted
    exact ⟨fun _ => high, fun _ => .inr ⟨two, low⟩⟩

/-- A transaction in flight that ends with both lines released where it is, or an abandoned recovery (R77 to R80). -/
theorem State.cutFlight_ends {s : State} {fl : Flight} {p : SbPlace} {o : ReadOutcome} {u : State} {next : Temps}
    (hp : fl.begun = true ∧ (p = .wait ∨ p = .high) ∨ fl.begun = false ∧ p = .pulse)
    (hu : u = s.afterReading fl (.bad o))
    (ends : s.temps.sweepList = [] → next = { u.temps with sweeping := false, flight := none, recoveryDue := true })
    (goesOn : ∀ n rest, s.temps.sweepList = n :: rest → next = { u.temps with
      sweepList := rest, recoveryDue := true
      flight := some { entry := n, begun := false, contents := s.temps.poll[n], discarded := false, stretchSum := 0 } }) :
    ∃ (e : SbEnd) (n : Nat) (wire : List SbSignal) (levels : List SbLevel),
      s.cutFlight fl o p = { u with temps := { next with wire := wire }, freeCount := s.freeCount + 1 } ∧
      wire.getLast? = some .release ∧
      levels = driven (if fl.begun then fl.contents.signals e else recoverySignals) ∧
      driven wire = levels.take n ++ [{ clk := true, dat := true, micros := none }] ∧
      (n ≠ 0 → ∃ l, levels[n - 1]? = some l ∧ l.clk = true) ∧
      (p ≠ .high → n = 0 ∧ fl.begun = true ∨ 2 ≤ n ∧ ∃ l, levels[n - 2]? = some l ∧ l.clk = false) := by
  obtain ⟨high, low⟩ := fl.cut_place s.freeCount rfl rfl hp
  refine ⟨freeCourse s.freeCount, _, fl.cutWire p s.freeCount, _, ?_, ?_, rfl, fl.driven_cutWire p s.freeCount, high, low⟩
  · have moved := State.takeNext_afterReading hu (due := true) (wire := fl.cutWire p s.freeCount)
      (next := { next with wire := fl.cutWire p s.freeCount }) (fun none => by rw [ends none])
      fun n rest listed => by rw [goesOn n rest listed]; rfl
    rw [s.cutFlight_eq, ← hu, moved]
  · simp [Flight.cutWire]

/-- Settles O30: a transaction that runs to its stop hands its judgement on and leaves both lines released; one that is cut
off, or an abandoned recovery, makes recovery due from a place that its cause admits. -/
theorem sensorBusTransactionsEnd : Obligations.SensorBusTransactionsEnd := by
  refine ⟨fun s u fl e r next write index read wire live flies begun hwrite hindex hread wAddr wData wRead wBytes rAddr rNack rBytes
      gone handed ends goesOn => ?_, fun s fl live flies => ⟨fun c o u next cause gone handed ends goesOn => ?_, ?_, ?_⟩⟩
  · subst hwrite hindex hread
    have judged : fl.contents.judge e = r := by
      cases e with
      | nackAddr atRead => exact (rAddr atRead rfl).symm
      | nackData => exact (rNack rfl).symm
      | data hi lo pec =>
        obtain ⟨mismatch, plain⟩ := rBytes hi lo pec _ rfl rfl
        exact PollEntry.judge_data rfl mismatch plain
    have made : fl.contents.signals e = wire := by
      cases e with
      | nackAddr atRead =>
        cases atRead
        · exact (wAddr rfl).symm
        · exact (wRead rfl).symm
      | nackData => exact (wData rfl).symm
      | data hi lo pec =>
        rw [wBytes hi lo pec rfl, PollEntry.signals]
        cases fl.contents.pec <;> rfl
    have hu := State.eq_afterReading gone handed
    have asserted := (s.afterReading_frame fl r).1
    have listed : u.temps.sweepList = s.temps.sweepList ∧ u.temps.recoveryDue = s.temps.recoveryDue := by
      obtain ⟨-, -, sources, records⟩ := s.afterReading_frame fl r
      rw [hu, records]
      exact ⟨rfl, rfl⟩
    have moved : ({ u.temps with wire := wire } : Temps).takeNext = next := State.takeNext_afterReading hu ends fun n rest k => by
      rw [goesOn n rest k, ← listed.2]
    rw [← hu] at asserted
    refine ⟨?_, ?_, ?_⟩
    · rw [exec_sbTransactionEnd live flies begun, judged, made, State.endFlight_eq, ← hu, moved]
    · have rests := ({ u.temps with wire := wire } : Temps).takeNext_flight
      rw [moved] at rests
      rw [State.busReleased_iff, asserted, live, ← listed.1]
      simpa using rests
    · have last := ({ u.temps with wire := wire } : Temps).takeNext_wire
      rw [moved] at last
      rw [State.busLevels, last, ← made]
      exact PollEntry.signals_released _ _
  · have hu := State.eq_afterReading gone handed
    have ⟨p, hp, runs, high⟩ : ∃ p : SbPlace, (fl.begun = true ∧ (p = .wait ∨ p = .high) ∨ fl.begun = false ∧ p = .pulse) ∧
        exec c s = .next (s.cutFlight fl o p) ∧ (c ≠ .sbBusError → p ≠ .high) := by
      rcases cause with ⟨begun, rfl, rfl⟩ | ⟨begun, rfl, rfl⟩ | ⟨begun, ⟨micros, -, long, rfl⟩, rfl⟩ | ⟨waits, rfl, rfl⟩
      · exact ⟨.wait, .inl ⟨begun, .inl rfl⟩, (exec_cuts live flies begun).1, fun _ => nofun⟩
      · exact ⟨.high, .inl ⟨begun, .inr rfl⟩, (exec_cuts live flies begun).2, fun k => absurd rfl k⟩
      · exact ⟨.wait, .inl ⟨begun, .inl rfl⟩, (exec_sbStretchLimit live flies begun micros).trans (congrArg _ (if_pos long)),
          fun _ => nofun⟩
      · exact ⟨.pulse, .inr ⟨waits, rfl⟩, exec_sbRecoveryAbandoned live flies waits, fun _ => nofun⟩
    obtain ⟨e, n, wire, levels, whole, last, made, drives, rises, waits⟩ := State.cutFlight_ends hp hu ends goesOn
    exact ⟨e, n, wire, levels, runs.trans (congrArg _ whole), last, made, drives, rises, fun k => waits (high k)⟩
  · intro micros _ begun short
    exact (exec_sbStretchLimit live flies begun micros).trans (congrArg _ (if_neg (Nat.not_lt.2 short)))
  · intro waits
    have runs : exec .sbRecoveryDone s = .next s.recoveryDone := congrArg _ (State.whenLive_of_live live _)
    rw [runs, State.recoveryDone, Temps.recovering_of_flight flies waits]
    rfl

end Sys2Proof.Machine
end

section
/-! PROOF. O31: the trip comparator. -/

namespace Sys2Proof.Machine

/-! ### What a trip does to the light drive and the fans (R57, R106, R121) -/

/-- The light is dark for good: SAFETY is 0 and nothing is applied (R57, R58). -/
def Light.Dark (l : Light) : Prop := l.safety = 0 ∧ l.applied = 0

theorem Light.Dark.reform {l : Light} (h : l.Dark) : l.reform.Dark := by
  rw [Light.reform_eq]
  refine ⟨h.1, ?_⟩
  simp [h.1, h.2]

theorem Light.Dark.release {l : Light} (h : l.Dark) : l.release.Dark := by
  unfold Light.release
  split
  · exact Light.Dark.reform (l := { l with motion := Config.fullLevel, motionHeld := false }) h
  · exact h

/-- SAFETY taken away drops the level at once (R57, R58). -/
theorem Light.setSafety_dark (l : Light) : (l.setSafety false).Dark := by
  have low := Light.reform_bounded { l with safety := 0, lightEn := false }
  have safety : (l.setSafety false).safety = 0 := congrArg Light.safety (Light.reform_eq _)
  exact ⟨safety, Nat.le_zero.1 low.1⟩

theorem dark_closed : QueueClosed fun s => s.light.Dark where
  axis _ a _ h := by cases a <;> exact h
  motion _ _ _ _ h := h
  done _ h := h
  endstop _ h := h
  homeFail _ h := h
  unhold s h := by
    unfold State.releaseHold
    split
    · exact h.release
    · exact h
  hold s j h := by
    unfold State.takeHold
    split
    · split
      · exact Light.Dark.reform (l := { s.light with motion := s.light.blankLevel, motionHeld := true }) h
      · exact h
    all_goals exact h
  place _ _ _ _ h := h
  unplace _ h := h

/-- A departure from any state but TRIPPED leaves the fans and the zones alone (R117). -/
theorem State.leave_blocks (s : State) {old : OpState} (h : old ≠ .tripped) :
    (s.leave old).fanDrv = s.fanDrv ∧ (s.leave old).zoneCtl = s.zoneCtl ∧ (s.light.Dark → (s.leave old).light.Dark) := by
  cases old with
  | lit =>
    refine ⟨?_, ?_, dark_closed.unhold s⟩ <;> simp only [State.leave, State.releaseHold] <;> split <;> rfl
  | standby | cooldown => exact ⟨rfl, rfl, id⟩
  | tripped => exact absurd rfl h

/-- What a trip does to the blocks that the motion queue does not own: the zones stay, the fans go to full, the light goes
dark (R57, R106, R121). -/
theorem State.trip_blocks {s : State} (h : s.ctl.op ≠ .tripped) (cause : TripCause) :
    (s.trip cause).zoneCtl = s.zoneCtl ∧ (∀ f, (s.trip cause).fan f = (s.fan f).full) ∧ (s.trip cause).light.Dark := by
  let w := (s.setCtl { s.ctl with lastTrip := cause }).writeOp .tripped
  let v := (w.leave s.ctl.op).fullFans
  have eq : s.trip cause = v.abortMotion.raise .trip := by rw [State.trip, if_neg h]; rfl
  obtain ⟨fans, zones, dark⟩ := w.leave_blocks h
  have queue := v.abortMotion_frame
  rw [eq]
  refine ⟨queue.zoneCtl.trans zones, fun f => ?_, dark_closed.abortMotion (dark s.light.setSafety_dark)⟩
  have full : v.fan f = ((w.leave s.ctl.op).fan f).full := FanDrv.each_fans ..
  have left : (w.leave s.ctl.op).fan f = s.fan f := congrArg (fun d : FanDrv => d.fans[f.idx]) fans
  have kept : (v.abortMotion.raise .trip).fan f = v.fan f := congrArg (fun d : FanDrv => d.fans[f.idx]) queue.fanDrv
  rw [kept, full, left]

/-! ### The comparator's judgement (R86, R87) -/

/-- What state `s` becomes when its comparator trips the part. -/
structure State.ComparatorTrip (s t : State) : Prop where
  temps : t.temps = { s.temps with comparator := { s.temps.comparator with state := .tripped } }
  ctl : t.ctl = { s.ctl with op := .tripped, runOn := none, lastTrip := .comparator }
  frame : ChangeFrame (s.setComparator { s.temps.comparator with state := .tripped }) t
  zoneCtl : t.zoneCtl = s.zoneCtl
  fans : ∀ f, (s.fan f).DrivenFullTo (t.fan f)
  dark : t.light.Dark
  requests : s.TrippedFrom t

theorem State.judgeComparator_trips {s : State} (op : s.ctl.op ≠ .tripped) (released : s.temps.comparator.state = .released)
    (low : s.temps.watchedCode ≤ s.temps.comparator.threshold) : s.ComparatorTrip s.judgeComparator := by
  let u := s.setComparator { s.temps.comparator with state := .tripped }
  have trips : s.judgeComparator = u.trip .comparator := by
    rcases s.judgeComparator_cases with ⟨-, -, e⟩ | ⟨tripped, -, -⟩ | ⟨⟨-, high⟩ | ⟨tripped, -⟩, -⟩
    · exact e
    · cases released.symm.trans tripped
    · exact absurd low (Nat.not_le.2 high)
    · cases released.symm.trans tripped
  obtain ⟨-, frame, ctl⟩ := (u.trip_cases .comparator).resolve_left fun k => op k.1
  obtain ⟨zoneCtl, fans, dark⟩ := State.trip_blocks (s := u) op .comparator
  have requests := State.judgeComparator_trippedFrom op released low
  rw [trips] at requests ⊢
  exact ⟨frame.temps, ctl, frame, zoneCtl, fun f => fans f ▸ (s.fan f).full_cases, dark, requests⟩

/-- In TRIPPED the comparator's trip changes its own state alone (R121). -/
theorem State.judgeComparator_in_tripped {s : State} (op : s.ctl.op = .tripped) (released : s.temps.comparator.state = .released)
    (low : s.temps.watchedCode ≤ s.temps.comparator.threshold) :
    s.judgeComparator = s.setComparator { s.temps.comparator with state := .tripped } := by
  rcases s.judgeComparator_cases with ⟨-, -, e⟩ | ⟨tripped, -, -⟩ | ⟨⟨-, high⟩ | ⟨tripped, -⟩, -⟩
  · exact e.trans (if_pos op)
  · cases released.symm.trans tripped
  · exact absurd low (Nat.not_le.2 high)
  · cases released.symm.trans tripped

theorem State.judgeComparator_releases {s : State} (tripped : s.temps.comparator.state = .tripped)
    (high : s.temps.comparator.threshold + 64 ≤ s.temps.watchedCode) :
    s.judgeComparator = s.setComparator { s.temps.comparator with state := .released } := by
  rcases s.judgeComparator_cases with ⟨released, -, -⟩ | ⟨-, -, e⟩ | ⟨⟨released, -⟩ | ⟨-, low⟩, -⟩
  · cases released.symm.trans tripped
  · exact e
  · cases released.symm.trans tripped
  · exact absurd high (Nat.not_le.2 low)

theorem State.judgeComparator_keeps {s : State}
    (between : s.temps.comparator.state = .released ∧ s.temps.comparator.threshold < s.temps.watchedCode ∨
      s.temps.comparator.state = .tripped ∧ s.temps.watchedCode < s.temps.comparator.threshold + 64) : s.judgeComparator = s := by
  rcases s.judgeComparator_cases with ⟨released, low, -⟩ | ⟨tripped, high, -⟩ | ⟨-, e⟩
  · rcases between with ⟨-, k⟩ | ⟨tripped, -⟩
    · omega
    · cases released.symm.trans tripped
  · rcases between with ⟨released, -⟩ | ⟨-, k⟩
    · cases released.symm.trans tripped
    · omega
  · exact e

/-! ### The comparator's events (R86; notes/assumptions/7.md) -/

/-- A new code on a pin that the comparator does not watch is no code of its own. -/
theorem Temps.watchedCode_of_ne {s : State} {ch : Channel} (h : ch ≠ s.temps.comparator.channel) (code : BitVec 12) :
    (s.setPinCode ch code).temps.watchedCode = s.temps.watchedCode := by
  have apart : ch.idx.val ≠ s.temps.comparator.channel.idx.val := fun e => h (by
    revert e
    cases ch <;> cases s.temps.comparator.channel <;> decide)
  simp only [State.setPinCode, State.setTemps, Temps.watchedCode, Fin.getElem_fin]
  rw [Vector.getElem_set_ne _ _ apart]

/-- Both events show the comparator a pin's new code, which it judges. -/
theorem exec_comparator {s : State} (live : s.resetAsserted = false) {ch : Channel} {code : BitVec 12} {c : Instr}
    (hc : c = .comparatorTrip ⟨ch, code⟩ ∨ c = .comparatorRelease ⟨ch, code⟩) :
    exec c s = .next (s.setPinCode ch code).judgeComparator := by
  have shown : s.showLevel ⟨ch, code⟩ = (s.setPinCode ch code).judgeComparator :=
    State.whenLive_of_live (s := s.setPinCode ch code) live _
  rcases hc with rfl | rfl <;> exact congrArg _ shown

/-! ### The comparator's commands (R87, R88) -/

theorem Channel.ofCode_of_le {b : Byte} (h : 4 ≤ b.toNat) : Channel.ofCode b = none := by
  unfold Channel.ofCode
  split <;> first | omega | rfl

section

variable {s : State} {channel : Byte} {threshold : BitVec 16}

theorem setTripComparator_tripped (op : s.ctl.op = .tripped) : setTripComparator channel threshold s = answer .refusedState s :=
  if_pos op

theorem setTripComparator_refused (op : s.ctl.op ≠ .tripped) (range : 4 ≤ channel.toNat ∨ 4031 < threshold.toNat) :
    setTripComparator channel threshold s = answer .refusedRange s := by
  rw [setTripComparator, if_neg op]
  split
  · rfl
  · rename_i ch hch
    rcases range with high | high
    · cases hch.symm.trans (Channel.ofCode_of_le high)
    · exact if_neg (Nat.not_le.2 high)

theorem setTripComparator_taken {ch : Channel} (op : s.ctl.op ≠ .tripped) (hch : channel.toNat = ch.code)
    (range : threshold.toNat ≤ 4031) : setTripComparator channel threshold s =
      ((s.setComparator { channel := ch, threshold := threshold.toNat, state := .released }).judgeComparator, .ok) := by
  simp only [setTripComparator, Channel.ofCode_code hch, if_pos range]
  exact if_neg op

end

/-- Settles O31: both events are the judgement of the pin's new code, and a command that is taken is the judgement of the
settings it brings. -/
theorem tripComparatorEventsAndCommands : Obligations.TripComparatorEventsAndCommands := by
  refine ⟨fun s ch code c live hc => ⟨fun other ok => ?_, ?_⟩, fun s tag channel threshold takes =>
    ⟨fun op => ?_, fun op range => ?_, fun ch op hch range => ⟨fun high => ?_, fun low => ?_⟩, ?_⟩⟩
  · obtain ⟨-, -, -, -, -, -, -, judged, -⟩ := ok
    obtain ⟨above, below⟩ := judged live
    rw [exec_comparator live hc, State.judgeComparator_keeps]
    · rfl
    · rw [Temps.watchedCode_of_ne other]
      cases hs : s.temps.comparator.state
      · exact .inl ⟨hs, above hs⟩
      · exact .inr ⟨hs, below hs⟩
  · rintro rfl
    let u := s.setPinCode s.temps.comparator.channel code
    have runs : exec c s = .next u.judgeComparator := exec_comparator live hc
    have watched : u.temps.watchedCode = code.toNat := Temps.watchedCode_setPinCode s code
    refine ⟨fun released low op => ?_, fun released low op => ?_, fun ⟨tripped, high⟩ => ?_, fun between => ?_⟩
    · obtain ⟨temps, ctl, frame, zoneCtl, fans, dark, requests⟩ :=
        State.judgeComparator_trips (s := u) op released (watched.trans_le low)
      exact ⟨_, runs, temps, ctl, dark.1, requests.lightEn, dark.2, fans, requests.aborted.queue, requests.aborted.executing,
        requests.aborted.blankHold, requests.flag, frame.grid, frame.stats, zoneCtl, frame.active, frame.presets,
        (congrArg ChanState.entries frame.entries :)⟩
    · rw [runs, State.judgeComparator_in_tripped (s := u) op released (watched.trans_le low)]
      rfl
    · rw [runs, State.judgeComparator_releases (s := u) tripped (high.trans_eq watched.symm)]
      rfl
    · rw [runs, State.judgeComparator_keeps (s := u) (by rwa [watched])]
      rfl
  · exact congrArg _ (State.takePacket_answer takes tag (setTripComparator_tripped op))
  · exact congrArg _ (State.takePacket_answer takes tag (setTripComparator_refused op range))
  · have taken := setTripComparator_taken (s := s.countTaken) op hch range
    rw [State.judgeComparator_keeps (.inl ⟨rfl, high⟩)] at taken
    exact congrArg _ (State.takePacket_work takes tag taken)
  · let u := s.countTaken.setComparator { channel := ch, threshold := threshold.toNat, state := .released }
    have runs : exec (.setTripComparator tag channel threshold) s = .next (u.judgeComparator.addEntry tag .ok) :=
      congrArg _ (State.takePacket_work takes tag (setTripComparator_taken (s := s.countTaken) op hch range))
    obtain ⟨temps, ctl, frame, -, fans, -, requests⟩ := State.judgeComparator_trips (s := u) op rfl low
    have entries : u.judgeComparator.chan.entries = s.chan.entries := (congrArg ChanState.entries frame.entries :)
    exact ⟨_, runs, temps, ctl, fans, requests.flag, congrArg (fun es => es ++ [(⟨tag, .ok⟩ : Entry)]) entries⟩
  · exact congrArg _ (State.takePacket_same takes tag (run := readTripComparator) rfl)

end Sys2Proof.Machine
end

section
/-! PROOF. O32: the commands of the poll table and of the source records. -/

namespace Sys2Proof.Machine

/-! ### WRITE_POLL and READ_POLL as their owner takes them (R69 to R71) -/

section

variable {entry enable address register fraction pec : Byte}

theorem pollEntryOf_beyond (h : address.toNat < 0x08 ∨ 0x77 < address.toNat ∨ 8 < fraction.toNat) :
    pollEntryOf enable address register fraction pec = none := if_neg (by omega)

theorem writePoll_refused (h : 8 ≤ entry.toNat ∨ address.toNat < 0x08 ∨ 0x77 < address.toNat ∨ 8 < fraction.toNat) (s : State) :
    writePoll entry enable address register fraction pec s = answer .refusedRange s := by
  rw [writePoll]
  rcases h with h | h
  · rw [index_of_le h]
  · rw [pollEntryOf_beyond h]
    cases index 8 entry <;> rfl

theorem writePoll_taken {n : Fin 8} (hn : entry.toNat = n.val) (low : 0x08 ≤ address.toNat) (high : address.toNat ≤ 0x77)
    (fits : fraction.toNat ≤ 8) (s : State) : writePoll entry enable address register fraction pec s =
      ((s.setTemps (s.temps.writePoll n
        { enable := yes enable, address := address.toNat, register := register.toNat, fraction := fraction.toNat, pec := yes pec })).unread
          (pollSource n), .ok) := by
  have read : pollEntryOf enable address register fraction pec = some
      { enable := yes enable, address := address.toNat, register := register.toNat, fraction := fraction.toNat, pec := yes pec } :=
    if_pos ⟨low, high, fits⟩
  rw [writePoll, index_of_eq n hn, read]

theorem readPoll_refused (h : 8 ≤ entry.toNat) (s : State) : readPoll entry s = answer .refusedRange s := by
  rw [readPoll, index_of_le h]

theorem readPoll_of_index {n : Fin 8} (hn : entry.toNat = n.val) (s : State) :
    readPoll entry s = (s, .okWith (s.temps.poll[n]).bytes) := by
  rw [readPoll, index_of_eq n hn]

theorem PollEntry.bytes_eq (x : PollEntry) : x.bytes = [if x.enable then 1 else 0, BitVec.ofNat 8 x.address,
    BitVec.ofNat 8 x.register, BitVec.ofNat 8 x.fraction, if x.pec then 1 else 0] := by
  rw [PollEntry.bytes, flagByte_eq, flagByte_eq]
  rfl

end

/-! ### ASSIGN_SOURCE and READ_SOURCE as their owner takes them (R67, R68) -/

theorem zoneOrNone_beyond {zone : Byte} (h : 3 ≤ zone.toNat) (none : zone ≠ 0xFF) : zoneOrNone zone = .none := by
  have read : ZoneId.ofCode zone = .none := by
    unfold ZoneId.ofCode
    split <;> first | omega | rfl
  rw [zoneOrNone, if_neg none, read]
  rfl

section

variable {source zone : Byte}

theorem assignSource_refused (h : 12 ≤ source.toNat ∨ 3 ≤ zone.toNat ∧ zone ≠ 0xFF) (s : State) :
    assignSource source zone s = answer .refusedRange s := by
  rw [assignSource]
  rcases h with h | ⟨h, none⟩
  · rw [index_of_le h]
  · rw [zoneOrNone_beyond h none]
    cases index 12 source <;> rfl

theorem assignSource_taken {n : Fin 12} (hn : source.toNat = n.val) {z : Option ZoneId} (hz : zoneOrNone zone = some z) (s : State) :
    assignSource source zone s = (s.setSource n { s.source n with zone := z }, .ok) := by
  rw [assignSource, index_of_eq n hn, hz]

theorem readSource_refused (h : 12 ≤ source.toNat) (s : State) : readSource source s = answer .refusedRange s := by
  rw [readSource, index_of_le h]

theorem readSource_channel {ch : Channel} (hn : source.toNat = ch.source.val) (s : State) : readSource source s =
    (s, .okWith ((s.source ch.source).bytes ++ [if s.temps.channelTable[ch.idx] = .a then 0 else 1])) := by
  have named : channelOf ch.source = some ch := by cases ch <;> rfl
  have table : byte (s.temps.tableOf ch).code = [if s.temps.channelTable[ch.idx] = .a then 0 else 1] := by
    rw [Temps.tableOf]
    cases s.temps.channelTable[ch.idx] <;> rfl
  rw [readSource, index_of_eq ch.source hn, ← table]
  dsimp only
  rw [named]

/-- The table byte of a poll entry's source is a free value (notes/assumptions/10.md). -/
theorem readSource_poll {n : Fin 12} (hn : source.toNat = n.val) (poll : n.val < 8) (s : State) :
    readSource source s = (s.drawFree, .okWith ((s.source n).bytes ++ [Config.sourceTableByte s.freeCount])) := by
  have named : channelOf n = none := by
    unfold channelOf
    split <;> first | rfl | exact absurd poll (by decide)
  rw [readSource, index_of_eq n hn]
  dsimp only
  rw [named]

/-- The record as it is reported, the table apart (R68, R178). -/
theorem Source.bytes_eq (x : Source) : x.bytes = [BitVec.ofNat 8 x.state.code, BitVec.ofNat 8 x.lastOutcome.code,
      BitVec.ofNat 8 x.failures, BitVec.ofNat 8 x.goods] ++
    (match x.lastGood with
    | none => [0x80, 0x00]
    | some temp => wordBytes (BitVec.ofInt 16 temp)) ++
    (match x.zone with
    | none => [0xFF]
    | some z => [BitVec.ofNat 8 z.code]) := by
  have zone : orNone (x.zone.map ZoneId.code) = (match x.zone with
      | none => [0xFF]
      | some z => [BitVec.ofNat 8 z.code]) := by
    cases x.zone <;> rfl
  have value : tempBytes x.lastGood = (match x.lastGood with
      | none => [0x80, 0x00]
      | some temp => wordBytes (BitVec.ofInt 16 temp)) := by
    cases x.lastGood with
    | none => rfl
    | some temp => exact be16_toNat _
  rw [Source.bytes, zone, value]
  rfl

end

/-- Settles O32: each command is its owner's work on one poll entry or one source record, or a refusal. -/
theorem pollAndSourceCommands : Obligations.PollAndSourceCommands := by
  refine ⟨fun s tag entry enable address register fraction pec takes =>
      ⟨fun beyond => ?_, fun beyond => ?_, fun n hn => ⟨fun low high fits => ?_, ?_⟩⟩,
    fun s tag source zone takes => ⟨fun beyond => ?_, fun beyond => ?_, fun n record hn => ⟨fun z hz => ?_, ?_⟩⟩⟩
  · exact congrArg _ (State.takePacket_answer takes tag (writePoll_refused beyond _))
  · exact congrArg _ (State.takePacket_answer takes tag (readPoll_refused beyond _))
  · exact congrArg _ (State.takePacket_work takes tag (writePoll_taken hn low high fits s.countTaken))
  · rw [← PollEntry.bytes_eq]
    exact congrArg _ (State.takePacket_same takes tag (readPoll_of_index hn s.countTaken))
  · exact congrArg _ (State.takePacket_answer takes tag (assignSource_refused beyond _))
  · exact congrArg _ (State.takePacket_answer takes tag (readSource_refused beyond _))
  · have read : zoneOrNone zone = some z := by
      rcases hz with ⟨rfl, rfl⟩ | ⟨rfl, rfl⟩ | ⟨rfl, rfl⟩ | ⟨rfl, rfl⟩ <;> rfl
    exact congrArg _ (State.takePacket_work takes tag (assignSource_taken hn read s.countTaken))
  · intro hr
    obtain rfl : record = (s.source n).bytes := hr.trans (s.source n).bytes_eq.symm
    refine ⟨?_, fun poll => ⟨Config.sourceTableByte s.freeCount, ?_⟩⟩
    · rintro ch rfl
      exact congrArg _ (State.takePacket_same takes tag (readSource_channel hn s.countTaken))
    · exact congrArg _ (State.takePacket_work takes tag (readSource_poll hn poll s.countTaken))

end Sys2Proof.Machine
end

section
/-! PROOF. O33: the commands of the thermistor channels and tables. -/

namespace Sys2Proof.Machine

theorem TableId.ofCode_code {b : Byte} {tab : TableId} (h : b.toNat = tab.code) : TableId.ofCode b = some tab := by
  rw [TableId.ofCode, h]
  cases tab <;> rfl

theorem TableId.ofCode_of_le {b : Byte} (h : 2 ≤ b.toNat) : TableId.ofCode b = none := by
  unfold TableId.ofCode
  split <;> first | omega | rfl

/-! ### WRITE_CHANNEL and READ_THERMISTOR_TABLE as their owner takes them (R82, R85) -/

section

variable {channel table entry : Byte} {letter : TableId}

theorem writeChannel_refused (h : 4 ≤ channel.toNat ∨ 2 ≤ table.toNat) (s : State) :
    writeChannel channel table s = answer .refusedRange s := by
  rw [writeChannel]
  rcases h with h | h
  · rw [Channel.ofCode_of_le h]
  · rw [TableId.ofCode_of_le h]
    cases Channel.ofCode channel <;> rfl

theorem writeChannel_taken {ch : Channel} (hch : channel.toNat = ch.code) (ht : table.toNat = letter.code) (s : State) :
    writeChannel channel table s = if s.temps.channelTable[ch.idx] = letter then (s, .ok)
      else ((s.setTemps (s.temps.switchTable ch letter)).unread ch.source, .ok) := by
  rw [writeChannel, Channel.ofCode_code hch, TableId.ofCode_code ht]
  rfl

theorem readTable_refused (h : 2 ≤ table.toNat ∨ 17 ≤ entry.toNat) (s : State) :
    readTable table entry s = answer .refusedRange s := by
  rw [readTable]
  rcases h with h | h
  · rw [TableId.ofCode_of_le h]
  · rw [index_of_le h]
    cases TableId.ofCode table <;> rfl

theorem readTable_entry (ht : table.toNat = letter.code) {k : Fin 17} (hk : entry.toNat = k.val) (s : State) :
    readTable table entry s = (s, .okWith
      (wordBytes (BitVec.ofInt 16 (if letter = .a then s.temps.tableA[k] else s.temps.tableB[k])))) := by
  have value : beSigned16 (s.temps.table letter)[k] =
      wordBytes (BitVec.ofInt 16 (if letter = .a then s.temps.tableA[k] else s.temps.tableB[k])) := by
    cases letter <;> exact be16_toNat _
  rw [readTable, TableId.ofCode_code ht, index_of_eq k hk, ← value]

end

/-! ### The two parts of WRITE_THERMISTOR_TABLE as their owner takes them (R84, R169) -/

theorem exec_writeThermistorTableFirst_of_length_ne {values : List (BitVec 16)} (h : values.length ≠ 9) (tag table : Byte) (s : State) :
    exec (.writeThermistorTableFirst tag table values) s = .next (s.takePacket tag (answer .badLength)) :=
  congrArg (fun run => Host.Outcome.next (s.takePacket tag run)) (if_neg h)

theorem exec_writeThermistorTableFirst {values : List (BitVec 16)} (h : values.length = 9) (tag table : Byte) (s : State) :
    exec (.writeThermistorTableFirst tag table values) s = .next (s.takePacket tag (writeTableFirst table values)) :=
  congrArg (fun run => Host.Outcome.next (s.takePacket tag run)) (if_pos h)

theorem exec_writeThermistorTableSecond_of_length_ne {values : List (BitVec 16)} (h : values.length ≠ 8) (tag table : Byte) (s : State) :
    exec (.writeThermistorTableSecond tag table values) s = .next (s.takePacket tag (answer .badLength)) :=
  congrArg (fun run => Host.Outcome.next (s.takePacket tag run)) (if_neg h)

theorem exec_writeThermistorTableSecond {values : List (BitVec 16)} (h : values.length = 8) (tag table : Byte) (s : State) :
    exec (.writeThermistorTableSecond tag table values) s = .next (s.takePacket tag (writeTableSecond table values)) :=
  congrArg (fun run => Host.Outcome.next (s.takePacket tag run)) (if_pos h)

section

variable {table : Byte} {values : List (BitVec 16)} {letter : TableId} {s : State} {st : Staging}

theorem writeTableFirst_refused (h : 2 ≤ table.toNat ∨ ¬tableOk (temperatures values)) :
    writeTableFirst table values s = refuseStaging s := by
  unfold writeTableFirst
  split
  · rfl
  · rename_i tab ht
    rcases h with h | h
    · cases ht.symm.trans (TableId.ofCode_of_le h)
    · exact if_neg fun ok => h ((tableValuesOk_iff _).1 ok)

theorem writeTableFirst_staged (ht : table.toNat = letter.code) (ok : tableOk (temperatures values)) :
    writeTableFirst table values s = (s.setStaging (some { table := letter, values := temperatures values }), .ok) := by
  rw [writeTableFirst, TableId.ofCode_code ht]
  exact if_pos ((tableValuesOk_iff _).2 ok)

theorem writeTableSecond_beyond (h : 2 ≤ table.toNat) : writeTableSecond table values s = refuseStaging s := by
  rw [writeTableSecond, TableId.ofCode_of_le h]

/-- A second part without a first part of its letter (R84). -/
theorem writeTableSecond_unstaged (ht : table.toNat = letter.code) (none : ∀ st ∈ s.temps.staging, st.table ≠ letter) :
    writeTableSecond table values s = answer .refusedState s := by
  rw [writeTableSecond, TableId.ofCode_code ht]
  cases hs : s.temps.staging with
  | none => rfl
  | some st => exact if_pos (none st hs)

theorem writeTableSecond_staged (ht : table.toNat = letter.code) (hs : s.temps.staging = some st) (same : st.table = letter) :
    writeTableSecond table values s =
      if (temperatures values).all plausible && nonIncreasing (st.values.drop 8 ++ temperatures values) then
        (s.setTemps (s.temps.install letter (st.values ++ temperatures values)), .ok)
      else refuseStaging s := by
  rw [writeTableSecond, TableId.ofCode_code ht]
  dsimp only
  rw [hs]
  exact if_neg (not_not.2 same)

theorem writeTableSecond_refused (ht : table.toNat = letter.code) (hs : s.temps.staging = some st) (same : st.table = letter)
    (range : ∀ t ∈ st.values, plausible t = true) (bad : ¬tableOk (st.values.drop 8 ++ temperatures values)) :
    writeTableSecond table values s = refuseStaging s := by
  rw [writeTableSecond_staged ht hs same, if_neg]
  rw [Bool.and_eq_true, List.all_eq_true, nonIncreasing_iff]
  rintro ⟨range', falls⟩
  exact bad ⟨falls, fun t k => (List.mem_append.1 k).elim (fun k => range t (List.mem_of_mem_drop k)) (range' t)⟩

theorem writeTableSecond_installed (ht : table.toNat = letter.code) (hs : s.temps.staging = some st) (same : st.table = letter)
    (good : tableOk (st.values ++ temperatures values)) : writeTableSecond table values s =
      (s.setTemps (s.temps.install letter (st.values ++ temperatures values)), .ok) := by
  obtain ⟨falls, range⟩ := good
  have rest : (st.values.drop 8 ++ temperatures values).Pairwise fun a b => b ≤ a :=
    falls.sublist ((List.drop_sublist 8 st.values).append_right _)
  rw [writeTableSecond_staged ht hs same, if_pos]
  rw [Bool.and_eq_true, List.all_eq_true, nonIncreasing_iff]
  exact ⟨fun t k => range t (List.mem_append_right _ k), rest⟩

end

/-- The installed table by a name of its own, so that later proofs never compute its seventeen values. -/
theorem Temps.install_eq {t : Temps} {values : List Int} {tab : Vector Int 17} (letter : TableId) (h : tableOfList values = tab) :
    t.install letter values =
      match letter with
      | .a => { t with tableA := tab, staging := none }
      | .b => { t with tableB := tab, staging := none } := by
  subst h
  cases letter <;> rfl

/-- Settles O33: each command is its owner's work on one channel or on the staging record, or a refusal. -/
theorem thermistorTableCommands : Obligations.ThermistorTableCommands := by
  refine ⟨fun s tag channel table entry takes =>
      ⟨fun beyond => ?_, fun beyond => ?_, fun letter ht => ⟨fun ch hch => ⟨fun same => ?_, fun other => ?_⟩, fun k hk => ?_⟩⟩,
    fun s tag table values temps takes htemps => ?_⟩
  · exact congrArg _ (State.takePacket_answer takes tag (writeChannel_refused beyond _))
  · exact congrArg _ (State.takePacket_answer takes tag (readTable_refused beyond _))
  · exact congrArg _ (State.takePacket_same takes tag ((writeChannel_taken hch ht s.countTaken).trans (if_pos same)))
  · exact congrArg _ (State.takePacket_work takes tag ((writeChannel_taken hch ht s.countTaken).trans (if_neg other)))
  · exact congrArg _ (State.takePacket_same takes tag (readTable_entry ht hk s.countTaken))
  · obtain rfl : temps = temperatures values := htemps
    refine ⟨fun short => ?_, fun short => ?_, fun long => ⟨fun bad => ?_, fun letter ht ok => ?_⟩,
      fun long => ⟨fun beyond => ?_, fun letter ht => ⟨fun none => ?_, fun st hs same nine => ⟨fun bad range => ?_, fun good => ?_⟩⟩⟩⟩
    · rw [exec_writeThermistorTableFirst_of_length_ne short, State.takePacket_answer takes tag rfl]
    · rw [exec_writeThermistorTableSecond_of_length_ne short, State.takePacket_answer takes tag rfl]
    · rw [exec_writeThermistorTableFirst long, State.takePacket_work takes tag (writeTableFirst_refused bad)]
      rfl
    · rw [exec_writeThermistorTableFirst long, State.takePacket_work takes tag (writeTableFirst_staged ht ok)]
      rfl
    · rw [exec_writeThermistorTableSecond long, State.takePacket_work takes tag (writeTableSecond_beyond beyond)]
      rfl
    · rw [exec_writeThermistorTableSecond long, State.takePacket_answer takes tag (writeTableSecond_unstaged ht none)]
    · rw [exec_writeThermistorTableSecond long, State.takePacket_work takes tag (writeTableSecond_refused ht hs same range bad)]
      rfl
    · obtain ⟨tab, htab⟩ : ∃ tab, tableOfList (st.values ++ temperatures values) = tab := ⟨_, rfl⟩
      refine ⟨tab, htab ▸ tableOfList_toList (by simp [nine, temperatures, long]), ?_⟩
      rw [exec_writeThermistorTableSecond long, State.takePacket_work takes tag (writeTableSecond_installed ht hs same good),
        Temps.install_eq letter htab]
      cases letter <;> rfl

end Sys2Proof.Machine
end

section
/-! PROOF. O37: a leg start of the executing request, judged with the other axis in any state. -/

namespace Sys2Proof.Machine

/-! ### Leg starts that are due (R135, R136, R139 to R141, R155) -/

/-- What an allowed start makes of its axis, and what the axis hands back. -/
def State.legStart (s : State) (x : Executing) (a : AxisId) : Axis × AxisEvent :=
  if x.work a = .active then (s.axis a).grantApproach
  else if x.req.job.isHome then ((s.axis a).takeHoming, .quiet)
  else (s.axis a).takeMove (s.approachOf a) (x.target a)

theorem State.beginAxis_eq (s : State) (x : Executing) (a : AxisId) :
    s.beginAxis x a = (s.setAxis a (s.legStart x a).1, (s.legStart x a).2) := rfl

/-- The executing request has a leg start of an axis at rest to judge; an allowed one makes `y` of the axis, with `e` for the
queue. -/
structure State.StartDue (s : State) (x : Executing) (a : AxisId) (y : Axis) (e : AxisEvent) : Prop where
  wants : s.wantsStart x a = true
  rests : (s.axis a).inMotion = false
  becomes : s.legStart x a = (y, e)

section

variable {s : State} {x : Executing} {a : AxisId} {y : Axis}

theorem State.wantsStart_of_owed (owed : x.work a = .owed)
    (free : a = .h → x.req.job.isHome = true ∨ x.inSequence = true → x.vWork = .unused ∨ x.vWork = .finished) :
    s.wantsStart x a = true := by
  have goes : a = .h → x.holdsBackH = false := fun h => by
    have done := free h
    simp only [Executing.holdsBackH, Bool.and_eq_false_imp, Bool.and_eq_true, Bool.or_eq_true, decide_eq_true_eq,
      decide_eq_false_iff_not]
    rintro ⟨order, unused⟩ finished
    exact (done order).elim unused finished
  cases a <;> simp [State.wantsStart, owed, goes]

theorem State.wantsStart_of_waits (active : x.work a = .active) (approach : (s.axis a).state = .approach)
    (waits : (s.axis a).leg = none) : s.wantsStart x a = true := by
  simp [State.wantsStart, Axis.waits, active, approach, waits]

/-- An axis whose work is not owed, and which does not wait for an approach leg, has nothing to start. -/
theorem State.wantsStart_eq_false (owed : x.work a ≠ .owed)
    (granted : x.work a = .active → (s.axis a).state = .approach → (s.axis a).leg ≠ none) : s.wantsStart x a = false := by
  have waits : x.work a = .active → (s.axis a).waits = false := fun active => by
    simpa [Axis.waits, Option.isSome_iff_ne_none] using granted active
  by_cases active : x.work a = .active
  · simp [State.wantsStart, waits active, owed]
  · simp [State.wantsStart, active, owed]

theorem Job.isHome_eq_false {j : Job} (moves : ∀ sel, j ≠ .home sel) : j.isHome = false := by
  cases j
  case home sel => exact absurd rfl (moves sel)
  all_goals rfl

/-- A granted leg of a move is due, and an end-stop at which the axis stands stops it as it starts (R135). -/
theorem State.GrantsLeg.startDue (g : s.GrantsLeg x a y) :
    s.StartDue x a y.checkEndstops.1 y.checkEndstops.2 ∧ y.anyActive = (s.axis a).anyActive := by
  rcases g with ⟨owed, idle, moves, order, approach, target, goal, firstEnd, back, happroach, htarget, hgoal, away, hback, hfirst, hy⟩ |
    ⟨active, state, waits, p, hp, away, hy⟩
  · have home := Job.isHome_eq_false moves
    have aimed : s.approachOf a = approach ∧ x.target a = target := by
      rw [happroach, htarget]
      cases a <;> exact ⟨rfl, rfl⟩
    have granted : y = (s.axis a).granted approach target := by rw [hy, Axis.granted_eq hgoal away hback hfirst]
    have needs : (s.axis a).needsLeg target = true := by
      rw [Axis.needsLeg, Axis.clampTarget, ← hgoal]
      exact decide_eq_true away
    refine ⟨⟨State.wantsStart_of_owed owed fun h k => order h (k.resolve_left (by simp [home])), ?_, ?_⟩, ?_⟩
    · rw [Axis.inMotion, idle]
    · rw [State.legStart, owed, home, aimed.1, aimed.2, granted]
      exact Axis.takeMove_of_needsLeg needs
    · rw [granted, Axis.granted_anyActive]
  · refine ⟨⟨State.wantsStart_of_waits active state waits, ?_, ?_⟩, ?_⟩
    · rw [Axis.inMotion, state, waits]
      rfl
    · have granted : ({ s.axis a with plan := some { p with owed := false } } : Axis).startLeg p.target = y :=
        (Axis.startLeg_eq (x := { s.axis a with plan := some { p with owed := false } }) away).trans hy.symm
      rw [State.legStart, if_pos active, Axis.grantApproach, hp]
      dsimp only
      rw [if_neg away, granted]
    · rw [hy]
      rfl

/-- A leg start that no end-stop stops is due, and has nothing for the queue. -/
theorem State.BeginsLeg.startDue (b : s.BeginsLeg x a y) : s.StartDue x a y .quiet := by
  rcases b with ⟨owed, idle, ⟨sel, home⟩, order, clear, hy⟩ | ⟨low, high, grants⟩
  · have homes : x.req.job.isHome = true := by rw [home]; rfl
    have inactive : (s.axis a).lowActive = false := by
      rcases clear with off | level <;> simp [Axis.lowActive, inputActive, *]
    refine ⟨State.wantsStart_of_owed owed fun h _ => order h, ?_, ?_⟩
    · rw [Axis.inMotion, idle]
    · rw [State.legStart, owed, homes, hy]
      simp only [if_true, if_neg (show Work.owed ≠ .active by decide), Axis.takeHoming]
      exact congrArg (·, AxisEvent.quiet) (if_neg (by simpa [Axis.lowActive] using inactive))
  · obtain ⟨due, same⟩ := grants.startDue
    have inactive : y.anyActive = false := by
      rw [same]
      refine Bool.eq_false_iff.2 fun h => ?_
      rcases (Axis.anyActive_iff _).1 h with ⟨enable, level⟩ | ⟨enable, level⟩
      · exact low.elim (by simp [enable]) level
      · exact high.elim (by simp [enable]) level
    rcases y.checkEndstops_cases with ⟨active, -, -⟩ | ⟨-, e⟩
    · cases inactive.symm.trans active
    · rwa [e] at due

/-- A leg start that an end-stop stops is due, with the end-stop for the queue (R135, R144). -/
theorem State.MeetsEndstop.startDue (m : s.MeetsEndstop x a y) : ∃ side, s.StartDue x a y (.outcome (.endstop side)) := by
  obtain ⟨active, g, grants, rfl⟩ := m
  obtain ⟨due, same⟩ := grants.startDue
  rcases g.checkEndstops_cases with ⟨-, side, e⟩ | ⟨inactive, -⟩
  · rw [e] at due
    exact ⟨side, due⟩
  · cases inactive.symm.trans (same.trans ((Axis.anyActive_iff _).2 active))

theorem State.StartDue.work {e : AxisEvent} (d : s.StartDue x a y e) : x.work a = .active ∨ x.work a = .owed := by
  have wants := d.wants
  simp only [State.wantsStart, Bool.or_eq_true, Bool.and_eq_true, decide_eq_true_eq] at wants
  exact wants.imp And.left And.left

end

end Sys2Proof.Machine
end

section
/-! PROOF. O37: the executing request goes on by one judgement of its leg starts against the rail. -/

namespace Sys2Proof.Machine

/-! ### The rail and one axis at rest (R155) -/

section

variable {s : State} {x : Executing} {a : AxisId} {y : Axis} {e : AxisEvent}

/-- An axis at rest adds nothing to the rail. -/
theorem State.railAllows_of_rests (rests : (s.axis a).inMotion = false) (add : Nat) :
    s.railAllows add = decide (s.fanDraw + (s.axis (otherAxis a)).movingDraw + add ≤ s.ctl.budget) := by
  have still : (s.axis a).movingDraw = 0 := by simp [Axis.movingDraw, rests]
  cases a with
  | h =>
    have none : s.axisH.movingDraw = 0 := still
    rw [State.railAllows, none, Nat.zero_add]
    rfl
  | v =>
    have none : s.axisV.movingDraw = 0 := still
    rw [State.railAllows, none, Nat.add_zero]
    rfl

theorem State.holdStart_of_rests (rests : (s.axis a).inMotion = false) : s.holdStart x =
    if x.work (otherAxis a) = .active ∧ (s.axis (otherAxis a)).inMotion = true then s.resume x
    else if x.req.phase = .waitRail then s
    else s.setMotion { s.motion with executing := some (x.setPhase .waitRail), railTimer := some 10000 } := by
  have moves : ((decide (x.hWork = .active) && s.axisH.inMotion) || (decide (x.vWork = .active) && s.axisV.inMotion)) = true ↔
      x.work (otherAxis a) = .active ∧ (s.axis (otherAxis a)).inMotion = true := by
    cases a with
    | h =>
      have still : s.axisH.inMotion = false := rests
      simp [still, otherAxis, Executing.work, State.axis]
    | v =>
      have still : s.axisV.inMotion = false := rests
      simp [still, otherAxis, Executing.work, State.axis]
  rw [State.holdStart, if_congr moves rfl rfl]
  rfl

/-- One axis of the executing request started alone. -/
theorem State.StartDue.startOne (d : s.StartDue x a y e) : s.startOne x a =
    ((s.resume (x.setWork a .active)).setAxis a y, if a = .h then e else .quiet, if a = .h then .quiet else e) := by
  have begun : (s.resume (x.setWork a .active)).beginAxis x a = ((s.resume (x.setWork a .active)).setAxis a y, e) := by
    have becomes : (s.resume (x.setWork a .active)).legStart x a = (y, e) := d.becomes
    rw [State.beginAxis_eq, becomes]
  rw [State.startOne, begun]
  cases a <;> rfl

/-- A leg start alone is judged by the fans and by what the other axis draws. -/
theorem State.StartDue.judgeRail (d : s.StartDue x a y e) (alone : s.wantsStart x (otherAxis a) = false) : s.judgeRail x =
    if s.fanDraw + (s.axis (otherAxis a)).movingDraw + (s.axis a).current ≤ s.ctl.budget then s.startOne x a
    else (s.holdStart x, .quiet, .quiet) := by
  have wants := d.wants
  cases a <;> simp only [otherAxis] at alone <;>
    simp only [State.judgeRail, wants, alone, State.railAllows_of_rests d.rests, decide_eq_true_eq] <;> rfl

end

/-! ### Two leg starts (R155, R158) -/

section

variable {s : State} {x : Executing} {yH yV : Axis} (h : s.StartDue x .h yH .quiet) (v : s.StartDue x .v yV .quiet)
include h v

theorem State.startBoth_of_due : s.startBoth x =
    (((s.resume ((x.setWork .h .active).setWork .v .active)).setAxis .h yH).setAxis .v yV, .quiet, .quiet) := by
  let t := s.resume ((x.setWork .h .active).setWork .v .active)
  have first : t.legStart x .h = (yH, .quiet) := h.becomes
  have second : (t.setAxis .h yH).legStart x .v = (yV, .quiet) := v.becomes
  rw [State.startBoth, State.beginAxis_eq, show (s.resume _).legStart x .h = _ from first]
  dsimp only
  rw [State.beginAxis_eq, second]

/-- The request once V starts ahead of H: an H that is still owed its work then waits for V's to end (R158). -/
def Executing.vFirst (x : Executing) : Executing := if x.hWork = .owed then { x with inSequence := true } else x

omit h in
theorem State.StartDue.vFirst : s.StartDue x.vFirst .v yV .quiet := by
  obtain ⟨wants, rests, becomes⟩ := v
  unfold Executing.vFirst
  split <;> exact ⟨wants, rests, becomes⟩

/-- The pair is judged first and V alone second. -/
theorem State.judgeRail_of_both_due : s.judgeRail x =
    if s.fanDraw + (s.axisH.current + s.axisV.current) ≤ s.ctl.budget then s.startBoth x
    else if s.fanDraw + s.axisV.current ≤ s.ctl.budget then s.startOne x.vFirst .v
    else (s.holdStart x, .quiet, .quiet) := by
  have still : (s.axis (otherAxis .h)).movingDraw = 0 := by
    have rests : s.axisV.inMotion = false := v.rests
    simp [Axis.movingDraw, State.axis, otherAxis, rests]
  simp only [State.judgeRail, h.wants, v.wants, State.railAllows_of_rests h.rests, still, decide_eq_true_eq, Nat.add_zero]
  rfl

end

/-! ### The request goes on (R153, R155, R157) -/

/-- The executing request has work left, which no stop request holds. -/
structure State.HasWork (s : State) (x : Executing) : Prop where
  executing : s.motion.executing = some x
  goesOn : x.req.stopReq = false
  phase : x.req.phase ≠ .switching

/-- While a request executes, the queue starts nothing (R153). -/
theorem State.pump_of_executing {s : State} {x : Executing} (h : s.motion.executing = some x) : s.pump = s := by
  have stays : s.mayStart = false := by simp [State.mayStart, h]
  unfold State.pump
  cases hq : s.motion.queue with
  | nil => rfl
  | cons r rest => simp [State.startHeads, hq, stays]

theorem State.holdStart_executing {s : State} {x : Executing} (h : s.motion.executing = some x) :
    ∃ z, (s.holdStart x).motion.executing = some z := by
  unfold State.holdStart
  split
  · exact ⟨_, rfl⟩
  · split
    · exact ⟨x, h⟩
    · exact ⟨_, rfl⟩

namespace State.HasWork

variable {s : State} {x : Executing} (c : s.HasWork x) {a : AxisId} {y : Axis} {e : AxisEvent}
include c

/-- With a leg start due, the request goes on by the rail's judgement of it. -/
theorem carryOn_due (d : s.StartDue x a y e) {t : State} {eh ev : AxisEvent} (judged : s.judgeRail x = (t, eh, ev)) (fuel : Nat) :
    s.carryOn (fuel + 1) = if eh = .quiet ∧ ev = .quiet then t else ((t.takeEvent .h eh).takeEvent .v ev).carryOn fuel := by
  have left : x.allFinished = false := by
    rcases d.work with h | h <;> cases a <;> simp only [Executing.work] at h <;> simp [Executing.allFinished, h]
  rw [State.carryOn, c.executing]
  simp only [c.phase, c.goesOn, left, judged, if_false, Bool.false_eq_true]
  cases eh <;> cases ev <;> simp

/-- Silent starts stand, and a start that the rail does not carry is held. -/
theorem proceed_quiet (d : s.StartDue x a y e) {t : State} {z : Executing} (judged : s.judgeRail x = (t, .quiet, .quiet))
    (executing : t.motion.executing = some z) : s.proceed = t := by
  rw [State.proceed, carryFuel, c.carryOn_due d judged, if_pos ⟨rfl, rfl⟩, State.pump_of_executing executing]

theorem proceed_held (d : s.StartDue x a y e) (judged : s.judgeRail x = (s.holdStart x, .quiet, .quiet)) :
    s.proceed = s.holdStart x := by
  obtain ⟨z, executing⟩ := State.holdStart_executing c.executing
  exact c.proceed_quiet d judged executing

/-- A start that the rail carries, alone. -/
theorem proceed_started (d : s.StartDue x a y .quiet) (alone : s.wantsStart x (otherAxis a) = false)
    (room : s.fanDraw + (s.axis (otherAxis a)).movingDraw + (s.axis a).current ≤ s.ctl.budget) :
    s.proceed = (s.resume (x.setWork a .active)).setAxis a y := by
  have judged := d.judgeRail alone
  rw [if_pos room, d.startOne, ite_self] at judged
  have executing : ((s.resume (x.setWork a .active)).setAxis a y).motion.executing = some ((x.setWork a .active).setPhase .running) := by
    cases a <;> rfl
  exact c.proceed_quiet d judged executing

/-- A start that the rail carries and an end-stop stops ends the request as it starts (R135, R144, R157). -/
theorem proceed_endstop {side : EndSide} (d : s.StartDue x a y (.outcome (.endstop side)))
    (alone : s.wantsStart x (otherAxis a) = false) (other : x.work (otherAxis a) ≠ .active) (queue : s.motion.queue = [])
    (room : s.fanDraw + (s.axis (otherAxis a)).movingDraw + (s.axis a).current ≤ s.ctl.budget) :
    s.proceed = ((s.resume (x.setWork a .active)).setAxis a y).stoppedAtStart ((x.setWork a .active).setPhase .running) := by
  let t := (s.resume (x.setWork a .active)).setAxis a y
  let z := (x.setWork a .active).setPhase .running
  have ends : t.takeEvent a (.outcome (.endstop side)) = t.stoppedAtStart z := by
    rw [State.takeEvent_endstop (x := z) (by cases a <;> rfl) (by cases a <;> rfl), if_neg (by cases a <;> exact other)]
    cases a <;> rfl
  have judged := d.judgeRail alone
  rw [if_pos room, d.startOne] at judged
  have goes := c.carryOn_due d judged 7
  rw [if_neg (by cases a <;> simp)] at goes
  have followed : s.carryOn carryFuel = (t.stoppedAtStart z).carryOn 7 := by
    rw [carryFuel, goes]
    cases a <;> exact congrArg (State.carryOn · 7) ends
  rw [State.proceed, followed, State.carryOn_of_none rfl]
  refine State.pump_empty _ (Eq.trans ?_ queue)
  cases a <;> rfl

end State.HasWork

end Sys2Proof.Machine
end

section
/-! PROOF. O37: a control tick up to the judgement of the run-on: sources, zones and fans. -/

namespace Sys2Proof.Machine

/-! ### The blocks of a control tick (notes/assumptions/11.md) -/

/-- The part at a control tick as the run-on is to be judged: zones, trips, fans and sources have done their work. -/
def State.tickFormed (s : State) : State := ((s.zoneTick.judgeDigital ZoneId.all).fanTick).sourceTick

theorem exec_controlTick {s : State} (live : s.resetAsserted = false) : exec .controlTick s = .next s.tickFormed.judgeRunOn.proceed := by
  have ticked : s.whenLive State.controlTick = s.tickFormed.judgeRunOn.proceed := by
    rw [State.whenLive_of_live live, State.controlTick, State.tickFormed]
  rw [← ticked]
  rfl

theorem exec_runOnElapsedLimit {s : State} (live : s.resetAsserted = false) : exec .runOnElapsedLimit s =
    .next { s with ctl := { s.ctl with runOn := s.ctl.runOn.map fun _ => 60000 } } :=
  congrArg _ (State.whenLive_of_live live _)

/-! ### Scan and sweep start (R72, R81) -/

theorem State.judgeDigital_temps (s : State) (zs : List ZoneId) : (s.judgeDigital zs).temps = s.temps := by
  induction zs generalizing s with
  | nil => rfl
  | cons z zs ih =>
    refine (ih _).trans (iteInduction (motive := fun t : State => t.temps = s.temps) (fun _ => ?_) fun _ => rfl)
    rcases s.trip_cases (.zone z) with ⟨-, same⟩ | ⟨-, frame, -⟩
    · rw [same]
    · exact frame.temps

theorem State.fanTick_temps (s : State) : s.fanTick.temps = s.temps := by
  unfold State.fanTick
  dsimp only
  split <;> rfl

theorem State.judgeRunOn_temps (s : State) : s.judgeRunOn.temps = s.temps :=
  iteInduction (motive := fun t : State => t.temps = s.temps) (fun _ => (s.changeState_frame _).1.temps) fun _ => rfl

theorem State.controlTick_temps (s : State) : s.tickFormed.judgeRunOn.proceed.temps =
    { s.temps.startSweep with converting := some .c0, discardConversion := false } := by
  have formed : (s.zoneTick.judgeDigital ZoneId.all).fanTick.temps = s.temps := by
    rw [State.fanTick_temps, State.judgeDigital_temps, State.zoneTick_temps]
  have started (u : State) : u.sourceTick.temps = { u.temps.startSweep with converting := some .c0, discardConversion := false } := rfl
  rw [(State.proceed_frame _).temps, State.judgeRunOn_temps, State.tickFormed, started, formed]

/-- A sweep in progress goes on; otherwise one of the enabled entries starts, and ends at once where there is none (R72). -/
theorem Temps.startSweep_cases {t : Temps} {entries : List (Fin 8)}
    (enabled : entries = (List.finRange 8).filter fun n => (t.poll[n]).enable) :
    (t.sweeping = true → t.startSweep = t) ∧
    (t.sweeping = false → entries = [] → t.startSweep = { t with sweeping := false, sweepList := [], flight := none }) ∧
    (∀ n rest, t.sweeping = false → entries = n :: rest → t.startSweep = { t with
      sweeping := true, sweepList := rest
      flight := some { entry := n, begun := !t.recoveryDue, contents := t.poll[n], discarded := false, stretchSum := 0 } }) := by
  have starts (off : t.sweeping = false) : t.startSweep = ({ t with sweeping := true, sweepList := entries } : Temps).takeNext := by
    rw [Temps.startSweep, off, ← enabled]
    rfl
  refine ⟨fun on => if_pos on, fun off none => ?_, fun n rest off first => ?_⟩
  · rw [starts off, none]
    rfl
  · rw [starts off, first]
    rfl

/-! ### Zone temperatures (R93, R102) -/

/-- A control tick senses each zone, forms its demand, and leaves the rest of its record (R93, R95 to R98). -/
theorem State.zoneTick_zone_formed (s : State) (z : ZoneId) : ∃ (sat : Bool) (load : Nat),
    s.zoneTick.zone z = ((s.zone z).sense (s.zoneReadings z)).formDemand s.ctl.op sat load := by
  let u := s.copyMode.senseZones
  have formed : s.zoneTick.zone z = u.formDemands.zone z :=
    congrArg (fun zones : Vector Zone 3 => zones[z.idx]) (State.judgeDerate_zones _)
  have demanded : u.formDemands.zone z = (u.zone z).formDemand u.ctl.op (u.saturated (u.zone z).mask) (u.load (u.zone z).basis) :=
    ZoneCtl.each_zones ..
  have sensed : u.zone z = (s.zone z).sense (s.zoneReadings z) := by
    simp only [u, State.senseZones, State.zone, State.raiseIf_fields, State.setZoneCtl_fields, ZoneCtl.each_zones]
    rfl
  have op : u.ctl.op = s.ctl.op := by simp [u, State.senseZones, State.copyMode]
  refine ⟨u.saturated (u.zone z).mask, u.load (u.zone z).basis, ?_⟩
  rw [formed, demanded, sensed, op]

theorem Zone.formDemand_seen (x : Zone) (op : OpState) (sat : Bool) (load : Nat) :
    (x.formDemand op sat load).blind = x.blind ∧ (x.formDemand op sat load).runOn = x.runOn := by
  unfold Zone.formDemand
  split
  · exact ⟨rfl, rfl⟩
  · split <;> exact ⟨rfl, rfl⟩

/-- After a control tick has sensed the zones, a zone is blind exactly where it has no temperature (R93). -/
theorem State.zoneTick_zone_cooling (s : State) (z : ZoneId) :
    (s.zoneTick.zone z).blind = (s.zoneTick.zone z).temp.isNone ∧ (s.zoneTick.zone z).runOn = (s.zone z).runOn := by
  obtain ⟨sat, load, formed⟩ := s.zoneTick_zone_formed z
  have seen := ((s.zone z).sense (s.zoneReadings z)).formDemand_seen s.ctl.op sat load
  have temp := (((s.zone z).sense (s.zoneReadings z)).formDemand_temp s.ctl.op sat load).1
  rw [formed, seen.1, seen.2, temp]
  refine ⟨?_, rfl⟩
  unfold Zone.sense
  cases s.zoneReadings z <;> rfl

theorem State.tickFormed_zoneTemp (s : State) (z : ZoneId) : (s.tickFormed.zone z).temp = (s.zoneTick.zone z).temp :=
  ((State.judgeDigital_sourcesKept _ _).trans ((State.fanTick_sourcesKept _).trans (State.sourceTick_sourcesKept _))).zones z

theorem State.controlTick_zoneTemp (s : State) (z : ZoneId) :
    (s.tickFormed.judgeRunOn.proceed.zone z).temp = (s.zoneTick.zone z).temp :=
  (((State.judgeRunOn_sourcesKept _).trans (.of_queue (State.proceed_frame _))).zones z).trans (s.tickFormed_zoneTemp z)

/-! ### A tick without a trip (R102, R105) -/

theorem State.judgeDigital_of_cool {s : State} (cool : ∀ z, s.zoneTrips z = false) (zs : List ZoneId) : s.judgeDigital zs = s := by
  induction zs with
  | nil => rfl
  | cons z zs ih => rw [State.judgeDigital, cool z]; exact ih

/-- No zone's temperature at a control tick reaches its trip threshold. -/
def State.TickCool (s : State) : Prop :=
  ∀ (z : ZoneId) (T : Int), (s.tickFormed.judgeRunOn.proceed.zone z).temp = some T → T < (s.zone z).trip

section

variable {s : State} (cool : s.TickCool) (op : s.ctl.op ≠ .tripped)
include cool

theorem State.judgeDigital_zoneTick : s.zoneTick.judgeDigital ZoneId.all = s.zoneTick := by
  refine State.judgeDigital_of_cool (fun z => ?_) _
  unfold State.zoneTrips
  split
  · rfl
  · rename_i T seen
    have below := cool z T ((s.controlTick_zoneTemp z).trans seen)
    rw [(s.zoneTick_zone z).2]
    exact decide_eq_false (Int.not_le.2 below)

include op

theorem State.tickFormed_eq : s.tickFormed = s.zoneTick.handDemands.formFans.sourceTick := by
  have fans : s.zoneTick.fanTick = s.zoneTick.handDemands.formFans := by
    refine if_neg ?_
    change s.zoneTick.ctl.op ≠ .tripped
    rwa [s.zoneTick_values.2.2.2]
  rw [State.tickFormed, State.judgeDigital_zoneTick cool, fans]

/-- Up to the judgement of the run-on a tick without a trip touches neither the motion requests nor the operating state. -/
theorem State.tickFormed_values : s.tickFormed.motion = s.motion ∧ s.tickFormed.axisH = s.axisH ∧ s.tickFormed.axisV = s.axisV ∧
    s.tickFormed.ctl = s.ctl := by
  have kept := s.zoneTick_values
  rw [State.tickFormed_eq cool op]
  generalize s.zoneTick = u at kept
  exact kept

theorem State.tickFormed_zone (z : ZoneId) : s.tickFormed.zone z = s.zoneTick.zone z := by
  rw [State.tickFormed_eq cool op]
  generalize s.zoneTick = u
  rfl

end

end Sys2Proof.Machine
end

section
/-! PROOF. O37: a control tick ends a completed run-on, and judges the executing request's leg starts again. -/

namespace Sys2Proof.Machine

/-! ### The run-on (R117, R120) -/

section

variable {s : State} (cool : s.TickCool)
include cool

/-- The run-on is over at a tick without a trip when its elapsed is, every zone is seen and cooled, and the lens rests. -/
theorem State.runOnComplete_tickFormed (op : s.ctl.op ≠ .tripped) : s.tickFormed.runOnComplete = true ↔
    (∃ n ∈ s.ctl.runOn, 60000 ≤ n) ∧ (∀ z : ZoneId, ∃ T, (s.tickFormed.zone z).temp = some T ∧ T ≤ (s.zone z).runOn) ∧
      s.axisH.inMotion = false ∧ s.axisV.inMotion = false ∧ s.motion.queue = [] ∧ s.motion.executing = none := by
  obtain ⟨motion, axisH, axisV, ctl⟩ := State.tickFormed_values cool op
  have elapsed : s.tickFormed.runOnElapsed = true ↔ ∃ n ∈ s.ctl.runOn, 60000 ≤ n := by
    rw [State.runOnElapsed, ctl]
    simp only [Option.any_eq_true, decide_eq_true_eq]
    rfl
  have cooled (z : ZoneId) : s.tickFormed.zoneCooled z = true ↔ ∃ T, (s.tickFormed.zone z).temp = some T ∧ T ≤ (s.zone z).runOn := by
    rw [State.zoneCooled, State.tickFormed_zone cool op, (s.zoneTick_zone_cooling z).2]
    cases (s.zoneTick.zone z).temp <;> simp
  have seen (z : ZoneId) (h : s.tickFormed.zoneCooled z = true) : (s.tickFormed.zone z).blind = false := by
    obtain ⟨T, temp, -⟩ := (cooled z).1 h
    rw [State.tickFormed_zone cool op] at temp ⊢
    rw [(s.zoneTick_zone_cooling z).1, temp]
    rfl
  have zones : (s.tickFormed.anyBlind = false ∧ ZoneId.all.all s.tickFormed.zoneCooled = true) ↔
      ∀ z : ZoneId, ∃ T, (s.tickFormed.zone z).temp = some T ∧ T ≤ (s.zone z).runOn := by
    have listed (z : ZoneId) : z ∈ ZoneId.all := by cases z <;> decide
    simp only [State.anyBlind, List.any_eq_false, List.all_eq_true, listed, forall_const, Bool.not_eq_true, cooled]
    exact ⟨fun h => h.2, fun h => ⟨fun z => seen z ((cooled z).2 (h z)), h⟩⟩
  have lens : s.tickFormed.lensIdle = true ↔
      s.axisH.inMotion = false ∧ s.axisV.inMotion = false ∧ s.motion.queue = [] ∧ s.motion.executing = none := by
    simp [State.lensIdle, motion, axisH, axisV, and_assoc]
  rw [State.runOnComplete, Bool.and_eq_true, Bool.and_eq_true, Bool.and_eq_true, Bool.not_eq_true', elapsed, lens, and_assoc, and_assoc,
    ← and_assoc (a := s.tickFormed.anyBlind = false), zones]

/-- While the run-on is not over, the tick leaves the state controller as it is. -/
theorem State.controlTick_ctl (op : s.ctl.op ≠ .tripped) (goesOn : s.tickFormed.runOnComplete = false) :
    s.tickFormed.judgeRunOn.proceed.ctl = s.ctl := by
  have stays : s.tickFormed.judgeRunOn = s.tickFormed := if_neg fun h => by simp [goesOn] at h
  rw [(State.proceed_frame _).ctl, stays, (State.tickFormed_values cool op).2.2.2]

end

/-- The entry to STANDBY from COOLDOWN, whole (R98, R117, R133). -/
theorem State.changeState_standby {s : State} (op : s.ctl.op = .cooldown) :
    s.changeState .standby = (s.writeOp .standby).clearIntegrators.raise .cooldownDone := by
  rw [State.changeState, op]
  rfl

theorem State.clearIntegrators_acc (s : State) (z : ZoneId) : (s.clearIntegrators.zone z).acc = 0 :=
  congrArg Zone.acc (s.zoneCtl.each_zones (fun _ x => { x with acc := 0 }) z)

/-- A run-on that is over takes the part to STANDBY, where nothing is left to go on with (R117, R120). -/
theorem State.controlTick_standby {s : State} (cool : s.TickCool) (op : s.ctl.op = .cooldown)
    (ended : s.tickFormed.runOnComplete = true) :
    s.tickFormed.judgeRunOn.proceed = (s.tickFormed.writeOp .standby).clearIntegrators.raise .cooldownDone := by
  have live : s.ctl.op ≠ .tripped := by simp [op]
  obtain ⟨motion, -, -, ctl⟩ := State.tickFormed_values cool live
  obtain ⟨-, -, -, -, queue, executing⟩ := (State.runOnComplete_tickFormed cool live).1 ended
  have cooldown : s.tickFormed.ctl.op = .cooldown := by rw [ctl, op]
  have ends : s.tickFormed.judgeRunOn = s.tickFormed.changeState .standby := if_pos ⟨cooldown, ended⟩
  have moves (u : State) : ((u.writeOp .standby).clearIntegrators.raise .cooldownDone).motion = u.motion := rfl
  rw [ends, State.changeState_standby cooldown]
  apply State.proceed_of_idle
  · rw [moves, motion, executing]
  · rw [moves, motion, queue]

end Sys2Proof.Machine
end

section
/-! PROOF. O37: a control tick judges the executing request's leg starts again. -/

namespace Sys2Proof.Machine

/-! ### The leg starts of the executing request at a tick (R155) -/

/-- A start is due by the axes and the orientation alone. -/
theorem State.StartDue.congr {s u : State} {x : Executing} {a : AxisId} {y : Axis} {e : AxisEvent} (d : s.StartDue x a y e)
    (axes : ∀ b, u.axis b = s.axis b) (ctl : u.ctl = s.ctl) : u.StartDue x a y e := by
  have approach : u.approachOf a = s.approachOf a := by
    cases a with
    | h => exact congrArg Axis.approach (axes .h)
    | v => rw [State.approachOf, State.approachOf, ctl]
  refine ⟨?_, ?_, ?_⟩
  · rw [State.wantsStart, axes]
    exact d.wants
  · rw [axes]
    exact d.rests
  · rw [State.legStart, axes, approach]
    exact d.becomes

/-- A control tick without a trip finds a request executing that has work left and that no stop request holds. -/
structure State.TickGoesOn (s : State) (x : Executing) : Prop where
  cool : s.TickCool
  op : s.ctl.op ≠ .tripped
  work : s.HasWork x

namespace State.TickGoesOn

variable {s : State} {x : Executing} (c : s.TickGoesOn x)
include c

theorem axes (a : AxisId) : s.tickFormed.axis a = s.axis a := by
  obtain ⟨-, axisH, axisV, -⟩ := State.tickFormed_values c.cool c.op
  cases a with
  | h => exact axisH
  | v => exact axisV

theorem motion : s.tickFormed.motion = s.motion := (State.tickFormed_values c.cool c.op).1

theorem ctl : s.tickFormed.ctl = s.ctl := (State.tickFormed_values c.cool c.op).2.2.2

theorem formed : s.tickFormed.HasWork x := by
  obtain ⟨executing, goesOn, phase⟩ := c.work
  exact ⟨(congrArg Motion.executing c.motion).trans executing, goesOn, phase⟩

/-- A request that executes keeps a run-on from ending (R120). -/
theorem judgeRunOn : s.tickFormed.judgeRunOn = s.tickFormed := by
  have busy : s.tickFormed.lensIdle = false := by simp [State.lensIdle, c.formed.executing]
  exact if_neg fun h => by simp [State.runOnComplete, busy] at h

theorem due {a : AxisId} {y : Axis} {e : AxisEvent} (d : s.StartDue x a y e) : s.tickFormed.StartDue x a y e :=
  d.congr c.axes c.ctl

/-- The fans as the tick has formed them are the fans it leaves (R155). -/
theorem fanDraw : s.tickFormed.fanDraw = s.tickFormed.judgeRunOn.proceed.fanDraw := by
  have fans : s.tickFormed.proceed.fanDrv = s.tickFormed.fanDrv := (State.proceed_frame _).fanDrv
  rw [c.judgeRunOn, State.fanDraw, State.fanDraw]
  simp only [State.fan, fans]

section

variable {a : AxisId} {y : Axis} {e : AxisEvent} (alone : s.wantsStart x (otherAxis a) = false)
include alone

theorem alone_formed : s.tickFormed.wantsStart x (otherAxis a) = false := by
  rw [State.wantsStart, c.axes]
  exact alone

theorem started (d : s.StartDue x a y .quiet)
    (room : s.tickFormed.fanDraw + (s.axis (otherAxis a)).movingDraw + (s.axis a).current ≤ s.ctl.budget) :
    s.tickFormed.judgeRunOn.proceed = (s.tickFormed.resume (x.setWork a .active)).setAxis a y := by
  rw [c.judgeRunOn]
  refine c.formed.proceed_started (c.due d) (c.alone_formed alone) ?_
  rwa [c.axes, c.axes, c.ctl]

theorem held (d : s.StartDue x a y e)
    (full : s.ctl.budget < s.tickFormed.fanDraw + (s.axis (otherAxis a)).movingDraw + (s.axis a).current) :
    s.tickFormed.judgeRunOn.proceed = s.tickFormed.holdStart x := by
  rw [c.judgeRunOn]
  refine c.formed.proceed_held (c.due d) (((c.due d).judgeRail (c.alone_formed alone)).trans (if_neg ?_))
  rw [c.axes, c.axes, c.ctl]
  exact Nat.not_le.2 full

theorem endstop {side : EndSide} (d : s.StartDue x a y (.outcome (.endstop side))) (other : x.work (otherAxis a) ≠ .active)
    (queue : s.motion.queue = [])
    (room : s.tickFormed.fanDraw + (s.axis (otherAxis a)).movingDraw + (s.axis a).current ≤ s.ctl.budget) :
    s.tickFormed.judgeRunOn.proceed = ((s.tickFormed.resume (x.setWork a .active)).setAxis a y).stoppedAtStart
      ((x.setWork a .active).setPhase .running) := by
  rw [c.judgeRunOn]
  refine c.formed.proceed_endstop (c.due d) (c.alone_formed alone) other ?_ ?_
  · rw [c.motion, queue]
  · rwa [c.axes, c.axes, c.ctl]

end

section

variable {yH yV : Axis} (h : s.StartDue x .h yH .quiet) (v : s.StartDue x .v yV .quiet)
include h v

theorem judged_both : s.tickFormed.judgeRail x =
    if s.tickFormed.fanDraw + (s.axisH.current + s.axisV.current) ≤ s.ctl.budget then s.tickFormed.startBoth x
    else if s.tickFormed.fanDraw + s.axisV.current ≤ s.ctl.budget then s.tickFormed.startOne x.vFirst .v
    else (s.tickFormed.holdStart x, .quiet, .quiet) := by
  have axisH : s.tickFormed.axisH = s.axisH := c.axes .h
  have axisV : s.tickFormed.axisV = s.axisV := c.axes .v
  rw [State.judgeRail_of_both_due (c.due h) (c.due v), axisH, axisV, c.ctl]

theorem startedBoth (room : s.tickFormed.fanDraw + (s.axisH.current + s.axisV.current) ≤ s.ctl.budget) :
    s.tickFormed.judgeRunOn.proceed =
      ((s.tickFormed.resume ((x.setWork .h .active).setWork .v .active)).setAxis .h yH).setAxis .v yV := by
  have judged := (c.judged_both h v).trans (if_pos room)
  rw [State.startBoth_of_due (c.due h) (c.due v)] at judged
  rw [c.judgeRunOn]
  exact c.formed.proceed_quiet (c.due h) judged rfl

theorem startedV (pair : s.ctl.budget < s.tickFormed.fanDraw + (s.axisH.current + s.axisV.current))
    (room : s.tickFormed.fanDraw + s.axisV.current ≤ s.ctl.budget) :
    s.tickFormed.judgeRunOn.proceed = (s.tickFormed.resume (x.vFirst.setWork .v .active)).setAxis .v yV := by
  have judged := (c.judged_both h v).trans ((if_neg (Nat.not_le.2 pair)).trans (if_pos room))
  rw [(c.due v).vFirst.startOne] at judged
  rw [c.judgeRunOn]
  exact c.formed.proceed_quiet (c.due h) judged rfl

theorem heldBoth (pair : s.ctl.budget < s.tickFormed.fanDraw + (s.axisH.current + s.axisV.current))
    (full : s.ctl.budget < s.tickFormed.fanDraw + s.axisV.current) :
    s.tickFormed.judgeRunOn.proceed = s.tickFormed.holdStart x := by
  have judged := (c.judged_both h v).trans ((if_neg (Nat.not_le.2 pair)).trans (if_neg (Nat.not_le.2 full)))
  rw [c.judgeRunOn]
  exact c.formed.proceed_held (c.due h) judged

end

end State.TickGoesOn

end Sys2Proof.Machine
end

section
/-! PROOF. O37: the control tick, clause by clause. -/

namespace Sys2Proof.Machine

/-! ### The axes and the motion requests as a judged start leaves them (R155 to R157) -/

section

variable {u : State} {x : Executing}

theorem State.resume_setAxis (z : Executing) (a : AxisId) (y : Axis) :
    ((u.resume z).setAxis a y).axis a = y ∧ ((u.resume z).setAxis a y).axis (otherAxis a) = u.axis (otherAxis a) ∧
    ((u.resume z).setAxis a y).motion = { u.motion with executing := some (z.setPhase .running), railTimer := none } := by
  cases a <;> exact ⟨rfl, rfl, rfl⟩

/-- A held start moves no axis. -/
theorem State.holdStart_axes (a : AxisId) : (u.holdStart x).axis a = u.axis a := by
  unfold State.holdStart
  split
  · rfl
  · split <;> rfl

/-- A start held while the other axis moves goes on in RUNNING; any other waits for the rail (R155). -/
theorem State.holdStart_motion {a : AxisId} (rests : (u.axis a).inMotion = false) : (u.holdStart x).motion =
    if x.work (otherAxis a) = .active ∧ (u.axis (otherAxis a)).inMotion = true then
      { u.motion with executing := some (x.setPhase .running), railTimer := none }
    else if x.req.phase = .waitRail then u.motion
    else { u.motion with executing := some (x.setPhase .waitRail), railTimer := some 10000 } := by
  rw [State.holdStart_of_rests rests]
  split
  · rfl
  · split <;> rfl

/-- Started ahead of H, V leaves an H whose work is owed to wait for it (R158). -/
theorem Executing.vFirst_running : (x.vFirst.setWork .v .active).setPhase .running =
    { (x.setWork .v .active).setPhase .running with inSequence := x.inSequence || decide (x.hWork = .owed) } := by
  unfold Executing.vFirst
  by_cases h : x.hWork = .owed
  · rw [if_pos h, decide_eq_true h, Bool.or_true]
    rfl
  · rw [if_neg h, decide_eq_false h, Bool.or_false]
    rfl

end

/-- The end of a request at an end-stop, as the axes, the flags and the motion requests show it (R144, R157, R164). -/
theorem State.stoppedAtStart_resume {u : State} {x : Executing} {a : AxisId} {z : Axis} (still : z.position = (u.axis a).position) :
    let t := ((u.resume (x.setWork a .active)).setAxis a z).stoppedAtStart ((x.setWork a .active).setPhase .running)
    t.axis a = z ∧ t.axis (otherAxis a) = u.axis (otherAxis a) ∧ t.chan.flag .endstop = true ∧ t.chan.flag .motionDone = true ∧
    t.motion = { u.motion with
      executing := none, railTimer := none, blankHold := false
      history := (⟨x.req.tag, x.req.job.kind, .endstop, u.axisH.position, u.axisV.position⟩ :: u.motion.history).take 8 } := by
  refine ⟨by cases a <;> rfl, by cases a <;> rfl, ChanState.flag_raise_mono (ChanState.flag_raise _ _) _, ChanState.flag_raise _ _, ?_⟩
  have positions : ((u.resume (x.setWork a .active)).setAxis a z).axisH.position = u.axisH.position ∧
      ((u.resume (x.setWork a .active)).setAxis a z).axisV.position = u.axisV.position := by
    cases a with
    | h => exact ⟨still, rfl⟩
    | v => exact ⟨rfl, still⟩
  rw [State.stoppedAtStart, State.putFirst_congr positions.1 positions.2]
  cases a <;> rfl

/-- A granted leg and an end-stop that stops it leave the position of their axis (R134, R144). -/
theorem State.MeetsEndstop.position {s : State} {x : Executing} {a : AxisId} {z : Axis} (m : s.MeetsEndstop x a z) :
    z.position = (s.axis a).position := by
  obtain ⟨-, y, grants, rfl⟩ := m
  rcases grants with ⟨-, -, -, -, _, _, _, _, _, -, -, -, -, -, -, rfl⟩ | ⟨-, -, -, p, -, -, rfl⟩ <;> rfl

namespace State.TickGoesOn

variable {s : State} {x : Executing} (c : s.TickGoesOn x)
include c

/-- A held start leaves both axes as they are (R155). -/
theorem heldAxes (held : s.tickFormed.judgeRunOn.proceed = s.tickFormed.holdStart x) :
    s.tickFormed.judgeRunOn.proceed.axisH = s.axisH ∧ s.tickFormed.judgeRunOn.proceed.axisV = s.axisV := by
  rw [held]
  exact ⟨(State.holdStart_axes .h).trans (c.axes .h), (State.holdStart_axes .v).trans (c.axes .v)⟩

theorem heldMotion {a : AxisId} (rests : (s.axis a).inMotion = false)
    (held : s.tickFormed.judgeRunOn.proceed = s.tickFormed.holdStart x) : s.tickFormed.judgeRunOn.proceed.motion =
      if x.work (otherAxis a) = .active ∧ (s.axis (otherAxis a)).inMotion = true then
        { s.motion with executing := some (x.setPhase .running), railTimer := none }
      else if x.req.phase = .waitRail then s.motion
      else { s.motion with executing := some (x.setPhase .waitRail), railTimer := some 10000 } := by
  have still : (s.tickFormed.axis a).inMotion = false := (congrArg Axis.inMotion (c.axes a)).trans rests
  rw [held, State.holdStart_motion still, c.axes, c.motion]

end State.TickGoesOn

/-- Settles O37: the tick up to the run-on, then either the run-on's end or one judgement of the leg starts. -/
theorem controlTickStartsSweepAndEndsRunOn : Obligations.ControlTickStartsSweepAndEndsRunOn := by
  intro s ready entries live hentries
  obtain ⟨goesOn, none, first⟩ := Temps.startSweep_cases hentries
  refine ⟨exec_runOnElapsedLimit live, _, exec_controlTick live, ?_, ?_, fun on => ?_, fun off empty => ?_, fun n rest off head => ?_,
    fun hready op cool => ?_, fun x draw executing op goes phase cool hdraw => ?_⟩
  · rw [State.controlTick_temps]
  · rw [State.controlTick_temps]
  · rw [State.controlTick_temps, goesOn on]
    exact ⟨rfl, rfl⟩
  · rw [State.controlTick_temps, none off empty]
    exact ⟨rfl, rfl⟩
  · rw [State.controlTick_temps, first n rest off head]
    exact ⟨rfl, rfl, rfl⟩
  · have noTrip : s.ctl.op ≠ .tripped := by simp [op]
    have ended : s.tickFormed.runOnComplete = true ↔ ready := by
      rw [State.runOnComplete_tickFormed cool noTrip, hready]
      simp only [State.tickFormed_zoneTemp, State.controlTick_zoneTemp]
    refine ⟨fun h => ?_, fun h => State.controlTick_ctl cool noTrip (Bool.eq_false_iff.2 (mt ended.1 h))⟩
    obtain ⟨-, axisH, axisV, ctl⟩ := State.tickFormed_values cool noTrip
    rw [State.controlTick_standby cool op (ended.2 h), ← axisH, ← axisV, ← ctl]
    generalize s.tickFormed = u
    exact ⟨rfl, ChanState.flag_raise _ _, fun z => (u.writeOp .standby).clearIntegrators_acc z, rfl, rfl, rfl, rfl⟩
  · have noTrip : s.ctl.op ≠ .tripped := by rcases op with op | op <;> simp [op]
    have c : s.TickGoesOn x := ⟨cool, noTrip, executing, goes, phase⟩
    obtain rfl : draw = s.tickFormed.fanDraw := by
      rw [hdraw, c.fanDraw, State.fanDraw]
      simp [FanId.all, Nat.add_assoc]
    refine ⟨fun a y moving begins owed granted hmoving => ?_, fun a z moving meets other hmoving queue room => ?_,
      fun yH yV beginsH beginsV => ⟨fun room => ?_, fun pair => ⟨fun room => ?_, fun full => ?_⟩⟩⟩
    · obtain rfl : moving = (s.axis (otherAxis a)).movingDraw := hmoving
      have alone := State.wantsStart_eq_false owed granted
      have due := begins.startDue
      refine ⟨fun room => ?_, fun full => ?_⟩
      · rw [c.started alone due room, ← c.axes (otherAxis a), ← c.motion]
        exact State.resume_setAxis _ _ _
      · have held := c.held alone due full
        exact ⟨(c.heldAxes held).1, (c.heldAxes held).2, c.heldMotion due.rests held⟩
    · obtain rfl : moving = (s.axis (otherAxis a)).movingDraw := hmoving
      obtain ⟨side, due⟩ := meets.startDue
      have owed : x.work (otherAxis a) ≠ .owed := by rcases other with h | h <;> simp [h]
      have idle : x.work (otherAxis a) ≠ .active := by rcases other with h | h <;> simp [h]
      have alone := State.wantsStart_eq_false (s := s) owed fun h => absurd h idle
      have still : z.position = (s.tickFormed.axis a).position := by rw [c.axes, meets.position]
      have axisH : s.axisH = s.tickFormed.axisH := (c.axes .h).symm
      have axisV : s.axisV = s.tickFormed.axisV := (c.axes .v).symm
      rw [c.endstop alone due idle queue room, ← c.axes (otherAxis a), ← c.motion, axisH, axisV]
      exact State.stoppedAtStart_resume still
    · rw [c.startedBoth beginsH.startDue beginsV.startDue room, ← c.motion]
      exact ⟨rfl, rfl, rfl⟩
    · have axisH : s.axisH = s.tickFormed.axisH := (c.axes .h).symm
      rw [c.startedV beginsH.startDue beginsV.startDue pair room, ← c.motion, axisH, ← Executing.vFirst_running]
      obtain ⟨started, other, motion⟩ := State.resume_setAxis (u := s.tickFormed) (x.vFirst.setWork .v .active) .v yV
      exact ⟨other, started, motion⟩
    · have due := beginsH.startDue
      have held := c.heldBoth due beginsV.startDue pair full
      have rests : ¬(x.work (otherAxis .h) = .active ∧ (s.axis (otherAxis .h)).inMotion = true) := fun h => by
        cases beginsV.startDue.rests.symm.trans h.2
      exact ⟨(c.heldAxes held).1, (c.heldAxes held).2, (c.heldMotion due.rests held).trans (if_neg rests)⟩

end Sys2Proof.Machine
end

section
/-! PROOF. O58: what each fan operation and each zone operation makes of a record that is in its form. -/

namespace Sys2Proof.Machine

/-! ### Fan records (R103, R107 to R111) -/

/-- A fan's parameters, its request and its retry count lie within their ranges (R103, R104, R110). -/
structure Fan.InRange (x : Fan) : Prop where
  params : 1 ≤ x.minDuty ∧ x.minDuty ≤ x.quiet ∧ x.minDuty ≤ x.standard ∧ x.minDuty ≤ x.high ∧
    x.quiet ≤ 1023 ∧ x.standard ≤ 1023 ∧ x.high ≤ 1023
  requested : x.requested ≤ 1023
  retry : x.retry ≤ 3

/-- A fan's duty, its flag and its timers are those of its state (R107 to R111, R113). -/
structure Fan.InState (x : Fan) : Prop where
  applied : x.applied = x.dutyOfState
  buffer : x.pwmBuffer = x.applied
  running : x.state = .running → 0 < x.requested
  failed : x.state = .failed → x.atCeiling = true
  kick : x.kickTimer.isSome = decide (x.state = .kick)
  pause : x.pauseTimer.isSome = decide (x.state = .pause)
  stall : x.stallTimer.isSome = decide (0 < x.applied)
  clear : x.clearTimer.isSome = true → x.state = .running

/-- What the invariant asks of a fan in every operating state. -/
structure Fan.Sound (x : Fan) : Prop extends x.InRange, x.InState

/-- What it asks besides in TRIPPED, where the fan is driven at full (R106). -/
structure Fan.Driven (x : Fan) : Prop where
  requested : x.requested = 1023
  notOff : x.state ≠ .off
  notPause : x.state ≠ .pause

theorem Fan.ok_iff (x : Fan) (op : OpState) : x.Ok op ↔ x.Sound ∧ (op = .tripped → x.Driven) := by
  constructor
  · rintro ⟨params, applied, buffer, requested, retry, running, failed, kick, pause, stall, clear, driven⟩
    exact ⟨⟨⟨params, requested, retry⟩, ⟨applied, buffer, running, failed, kick, pause, stall, clear⟩⟩,
      fun h => ⟨(driven h).1, (driven h).2.1, (driven h).2.2⟩⟩
  · rintro ⟨⟨⟨params, requested, retry⟩, ⟨applied, buffer, running, failed, kick, pause, stall, clear⟩⟩, driven⟩
    exact ⟨params, applied, buffer, requested, retry, running, failed, kick, pause, stall, clear,
      fun h => ⟨(driven h).requested, (driven h).notOff, (driven h).notPause⟩⟩

/-! ### Entries to the states (R107 to R111) -/

theorem Fan.InRange.enter {x y : Fan} (h : x.InRange)
    (params : y.minDuty = x.minDuty ∧ y.quiet = x.quiet ∧ y.standard = x.standard ∧ y.high = x.high)
    (requested : y.requested ≤ 1023) (retry : y.retry ≤ 3) : y.InRange := by
  obtain ⟨minDuty, quiet, standard, high⟩ := params
  refine ⟨?_, requested, retry⟩
  rw [minDuty, quiet, standard, high]
  exact h.params

theorem Fan.enterKick_inState (x : Fan) : x.enterKick.InState := ⟨rfl, rfl, nofun, nofun, rfl, rfl, rfl, nofun⟩

theorem Fan.enterOff_inState (x : Fan) : x.enterOff.InState := ⟨rfl, rfl, nofun, nofun, rfl, rfl, rfl, nofun⟩

theorem Fan.enterPause_inState (x : Fan) : x.enterPause.InState := ⟨rfl, rfl, nofun, nofun, rfl, rfl, rfl, nofun⟩

theorem Fan.enterFailed_inState (x : Fan) : x.enterFailed.InState := ⟨rfl, rfl, nofun, fun _ => rfl, rfl, rfl, rfl, nofun⟩

/-- A kick goes over into RUNNING with its stall timer going on (R107, R109). -/
theorem Fan.InState.enterRunning {x : Fan} (h : x.InState) (kick : x.state = .kick) (asked : 0 < x.requested) :
    x.enterRunning.InState := by
  have turning : x.stallTimer.isSome = true := by simp [h.stall, h.applied, Fan.dutyOfState, kick]
  have noPause : x.pauseTimer.isSome = false := by simp [h.pause, kick]
  exact ⟨rfl, rfl, fun _ => asked, nofun, rfl, noPause, turning.trans (decide_eq_true asked).symm, fun _ => rfl⟩

/-! ### Requested duties (R105 to R108) -/

/-- Where a fan does not run, a new request changes neither its duty nor its timers. -/
theorem Fan.InState.ask {x : Fan} (h : x.InState) (rests : x.state ≠ .running) {r c : Nat} {flag : Bool}
    (failed : x.state = .failed → flag = true) : ({ x with requested := r, atCeiling := flag, ceiling := c } : Fan).InState := by
  have duty : x.dutyOfState = ({ x with requested := r, atCeiling := flag, ceiling := c } : Fan).dutyOfState := by
    simp only [Fan.dutyOfState]
    split <;> first | rfl | exact absurd ‹_› rests
  exact ⟨h.applied.trans duty, h.buffer, fun k => absurd k rests, failed, h.kick, h.pause, h.stall, h.clear⟩

/-- A new requested duty that acts leaves the fan's duty, flag and timers those of the state it then has. -/
theorem Fan.InState.request {x : Fan} (h : x.InState) {r c : Nat} {flag : Bool} (failed : x.state = .failed → flag = true) :
    ({ x with requested := r, atCeiling := flag, ceiling := c } : Fan).act.InState := by
  let y : Fan := { x with requested := r, atCeiling := flag, ceiling := c }
  have asked (rests : x.state ≠ .running) : y.InState := h.ask rests failed
  rcases y.act_cases with ⟨off, -, e⟩ | ⟨-, -, e⟩ | ⟨-, -, e⟩ | ⟨running, some, e⟩ | ⟨rests, e⟩ <;> rw [e]
  · exact asked fun k => by cases off.symm.trans k
  · exact y.enterKick_inState
  · exact y.enterOff_inState
  · have running' : x.state = .running := running
    have turned : 0 < x.applied := by
      rw [h.applied, Fan.dutyOfState, running']
      exact h.running running'
    have stall : x.stallTimer.isSome = decide (0 < r) :=
      h.stall.trans ((decide_eq_true turned).trans (decide_eq_true some).symm)
    have duty : r = ({ y with applied := r, pwmBuffer := r } : Fan).dutyOfState := by rw [Fan.dutyOfState, running]
    exact ⟨duty, rfl, fun _ => some, failed, h.kick, h.pause, stall, h.clear⟩
  · refine asked fun k => ?_
    have state : y.state = .running := k
    simp [state] at rests

theorem Fan.act_values (x : Fan) : x.act.requested = x.requested ∧ x.act.retry = x.retry ∧ x.act.minDuty = x.minDuty ∧
    x.act.quiet = x.quiet ∧ x.act.standard = x.standard ∧ x.act.high = x.high := by
  rcases x.act_cases with ⟨-, -, e⟩ | ⟨-, -, e⟩ | ⟨-, -, e⟩ | ⟨-, -, e⟩ | ⟨-, e⟩ <;> rw [e] <;> exact ⟨rfl, rfl, rfl, rfl, rfl, rfl⟩

/-- A fan's ceiling for every acoustic mode lies within the duties (R103). -/
theorem Fan.InRange.modeCeiling {x : Fan} (h : x.InRange) (m : Acoustic) : x.modeCeiling m ≤ 1023 := by
  obtain ⟨-, -, -, -, quiet, standard, high⟩ := h.params
  cases m
  · exact quiet
  · exact standard
  · exact high

/-- The requested duty formed from the demands handed keeps a fan in its form (R105). -/
theorem Fan.Sound.formed {x : Fan} (h : x.Sound) (d : FanDrv) (capLost : Bool) (f : FanId) : (d.formed capLost f x).Sound := by
  have low : d.ceilingFor capLost f x ≤ 1023 := by
    unfold FanDrv.ceilingFor
    split
    · exact le_rfl
    · exact h.modeCeiling _
  obtain ⟨requested, retry, minDuty, quiet, standard, high⟩ := Fan.act_values { x with
    requested := min (x.floored (d.largest f x)) (d.ceilingFor capLost f x)
    atCeiling := decide (x.state = .failed) || decide (d.ceilingFor capLost f x ≤ x.floored (d.largest f x))
    ceiling := d.ceilingFor capLost f x }
  exact ⟨h.enter ⟨minDuty, quiet, standard, high⟩ (requested.trans_le ((Nat.min_le_right _ _).trans low)) (retry.trans_le h.retry),
    h.request fun k => by rw [decide_eq_true k, Bool.true_or]⟩

/-- A fan driven at full is in its form, in TRIPPED too (R106). -/
theorem Fan.Sound.full {x : Fan} (h : x.Sound) : x.full.Sound ∧ x.full.Driven := by
  obtain ⟨requested, -, -, retry, -, -, -, states⟩ := x.full_cases
  have state : x.full.state = .kick ∨ x.full.state = .running ∨ x.full.state = .failed := by
    rcases states with ⟨-, k, -⟩ | ⟨-, k, -⟩ | ⟨-, k, -⟩ | ⟨-, k, -⟩
    · exact .inl k
    · exact .inl k
    · exact .inr (.inl k)
    · exact .inr (.inr k)
  have params : x.full.minDuty = x.minDuty ∧ x.full.quiet = x.quiet ∧ x.full.standard = x.standard ∧ x.full.high = x.high := by
    obtain ⟨-, -, kept⟩ := Fan.act_values { x with requested := Config.fullDuty, atCeiling := true, ceiling := Config.fullDuty }
    unfold Fan.full
    dsimp only
    split
    · exact ⟨rfl, rfl, rfl, rfl⟩
    · exact kept
  have entered : x.full.InState := by
    unfold Fan.full
    dsimp only
    split
    · exact Fan.enterKick_inState _
    · exact h.request fun _ => rfl
  refine ⟨⟨h.enter params requested.le (retry.trans_le h.retry), entered⟩, requested, fun k => ?_, fun k => ?_⟩ <;> simp [k] at state

/-! ### Timers, stalls and the speed measurement (R107 to R112, R114) -/

section

variable {x : Fan} {op : OpState} (h : x.Ok op)
include h

theorem Fan.Ok.kickExpired : x.kickExpired.Ok op := by
  obtain ⟨sound, driven⟩ := (x.ok_iff op).1 h
  unfold Fan.kickExpired
  split
  · rename_i kick
    split
    · rename_i none
      exact (Fan.ok_iff _ _).2 ⟨⟨sound.enter ⟨rfl, rfl, rfl, rfl⟩ sound.requested sound.retry, x.enterOff_inState⟩,
        fun k => absurd ((driven k).requested.symm.trans none) (by decide)⟩
    · rename_i some
      exact (Fan.ok_iff _ _).2 ⟨⟨sound.enter ⟨rfl, rfl, rfl, rfl⟩ sound.requested sound.retry,
        sound.enterRunning kick (Nat.pos_of_ne_zero some)⟩, fun k => ⟨(driven k).requested, nofun, nofun⟩⟩
  · exact h

theorem Fan.Ok.pauseExpired : x.pauseExpired.Ok op := by
  obtain ⟨sound, driven⟩ := (x.ok_iff op).1 h
  unfold Fan.pauseExpired
  split
  · rename_i pause
    have outside (k : op = .tripped) : False := (driven k).notPause pause
    split
    · exact (Fan.ok_iff _ _).2
        ⟨⟨sound.enter ⟨rfl, rfl, rfl, rfl⟩ sound.requested sound.retry, x.enterOff_inState⟩, fun k => (outside k).elim⟩
    · exact (Fan.ok_iff _ _).2
        ⟨⟨sound.enter ⟨rfl, rfl, rfl, rfl⟩ sound.requested sound.retry, x.enterKick_inState⟩, fun k => (outside k).elim⟩
  · exact h

theorem Fan.Ok.clearExpired : x.clearExpired.Ok op := by
  obtain ⟨sound, driven⟩ := (x.ok_iff op).1 h
  unfold Fan.clearExpired
  split
  · exact (Fan.ok_iff _ _).2 ⟨⟨⟨sound.params, sound.requested, Nat.zero_le 3⟩,
      ⟨sound.applied, sound.buffer, sound.running, sound.failed, sound.kick, sound.pause, sound.stall, nofun⟩⟩,
      fun k => ⟨(driven k).requested, (driven k).notOff, (driven k).notPause⟩⟩
  · exact h

theorem Fan.Ok.edge (micros free : Nat) : (x.edge micros free).Ok op := by
  obtain ⟨params, applied, buffer, requested, retry, running, failed, kick, pause, stall, clear, driven⟩ := h
  exact ⟨params, applied, buffer, requested, retry, running, failed, kick, pause, (Option.isSome_map ..).trans stall, clear, driven⟩

theorem Fan.Ok.millisecond : x.millisecond.Ok op := by
  have runs (t : Option Nat) : (countDown t).isSome = t.isSome := Option.isSome_map ..
  obtain ⟨params, applied, buffer, requested, retry, running, failed, kick, pause, stall, clear, driven⟩ := h
  exact ⟨params, applied, buffer, requested, retry, running, failed, (runs _).trans kick, (runs _).trans pause,
    (runs _).trans stall, fun k => clear ((runs _).symm.trans k), driven⟩

/-- The next attempt after a stall: a kick at once in TRIPPED, a pause elsewhere (R110). -/
theorem Fan.Ok.tryAgain (few : x.retry < 3) : (x.tryAgain op).Ok op := by
  obtain ⟨sound, driven⟩ := (x.ok_iff op).1 h
  unfold Fan.tryAgain
  dsimp only
  split
  · exact (Fan.ok_iff _ _).2 ⟨⟨sound.enter ⟨rfl, rfl, rfl, rfl⟩ sound.requested few, Fan.enterKick_inState _⟩,
      fun k => ⟨(driven k).requested, nofun, nofun⟩⟩
  · rename_i outside
    exact (Fan.ok_iff _ _).2
      ⟨⟨sound.enter ⟨rfl, rfl, rfl, rfl⟩ sound.requested few, Fan.enterPause_inState _⟩, fun k => absurd k outside⟩

theorem Fan.Ok.enterFailed : x.enterFailed.Ok op := by
  obtain ⟨sound, driven⟩ := (x.ok_iff op).1 h
  exact (Fan.ok_iff _ _).2 ⟨⟨sound.enter ⟨rfl, rfl, rfl, rfl⟩ sound.requested sound.retry, x.enterFailed_inState⟩,
    fun k => ⟨(driven k).requested, nofun, nofun⟩⟩

/-- A FAILED fan that CLEAR_FAN brings back is in OFF, and driven at full in TRIPPED (R106, R112). -/
theorem Fan.Ok.cleared (failed : x.state = .failed) : (x.cleared op).Ok op := by
  obtain ⟨sound, -⟩ := (x.ok_iff op).1 h
  have rests : x.applied = 0 := by rw [sound.applied, Fan.dutyOfState, failed]
  have noClear : x.clearTimer.isSome = false :=
    Bool.not_eq_true _ ▸ fun k => by cases failed.symm.trans (sound.clear k)
  have off : ({ x with state := .off, retry := 0, atCeiling := false } : Fan).Sound :=
    ⟨⟨sound.params, sound.requested, Nat.zero_le 3⟩, ⟨rests, sound.buffer, nofun, nofun, by simp [sound.kick, failed],
      by simp [sound.pause, failed], sound.stall, fun k => by cases noClear.symm.trans k⟩⟩
  unfold Fan.cleared
  dsimp only
  split
  · exact (Fan.ok_iff _ _).2 ⟨off.full.1, fun _ => off.full.2⟩
  · rename_i outside
    exact (Fan.ok_iff _ _).2 ⟨off, fun k => absurd k outside⟩

end

/-! ### Zone records (R90, R91, R93 to R98) -/

theorem Zone.integrated_le {x : Zone} (h : x.acc ≤ 261888) (e : Int) (sat : Bool) : x.integrated e sat ≤ 261888 := by
  unfold Zone.integrated
  split
  · exact h
  · simp only [clampInt, Config.maxAccumulator]
    omega

/-- A zone sensed and its demand formed at a control tick (R93, R95 to R98). -/
theorem Zone.Ok.formed {x : Zone} {op : OpState} (h : x.Ok op) (readings : List Int) (sat : Bool) (load : Nat) :
    ((x.sense readings).formDemand op sat load).Ok op := by
  obtain ⟨most, rests, -, derate, trip⟩ := h
  have seen : readings.isEmpty = readings.max?.isNone := by
    cases readings <;> rfl
  unfold Zone.formDemand
  split
  · exact ⟨most, rests, seen, derate, trip⟩
  · rename_i works
    split
    · exact ⟨most, rests, seen, derate, trip⟩
    · exact ⟨Zone.integrated_le most _ _, fun k => absurd k works, seen, derate, trip⟩

end Sys2Proof.Machine
end

section
/-! PROOF. O58: what a step may do to the zones, the fans and the operating state so that both invariants last, and the
changes of operating state, trips, stalls and resets. -/

namespace Sys2Proof.Machine

/-! ### Both invariants kept -/

/-- From state `s` to state `t` the zones' invariant lasts, and so does the fans'. -/
structure CoolingKept (s t : State) : Prop where
  zones : s.ZonesOk → t.ZonesOk
  fans : s.FansOk → t.FansOk

theorem State.fansOk_iff (s : State) : s.FansOk ↔ ∀ f : FanId, (s.fan f).Ok s.ctl.op :=
  ⟨fun h f => h f (by cases f <;> decide), fun h f _ => h f⟩

namespace CoolingKept

variable {s t u : State}

theorem refl (s : State) : CoolingKept s s := ⟨id, id⟩

theorem trans (h : CoolingKept s t) (k : CoolingKept t u) : CoolingKept s u := ⟨k.zones ∘ h.zones, k.fans ∘ h.fans⟩

theorem ite {p : Prop} [Decidable p] {a b : State} (ha : p → CoolingKept s a) (hb : ¬p → CoolingKept s b) :
    CoolingKept s (if p then a else b) := iteInduction (motive := CoolingKept s) ha hb

/-- A change outside the zones' records, the fans' records and the operating state. -/
theorem of_blocks (zoneCtl : t.zoneCtl = s.zoneCtl) (fans : t.fanDrv.fans = s.fanDrv.fans) (op : t.ctl.op = s.ctl.op) :
    CoolingKept s t where
  zones h := by
    unfold State.ZonesOk State.zone at h ⊢
    rwa [zoneCtl, op]
  fans h := by
    unfold State.FansOk State.fan at h ⊢
    rwa [fans, op]

theorem of_queue (h : QueueFrame s t) : CoolingKept s t :=
  of_blocks h.zoneCtl (congrArg FanDrv.fans h.fanDrv) (congrArg StateCtl.op h.ctl)

/-- A change of the fans' records alone. -/
theorem of_fans (zoneCtl : t.zoneCtl = s.zoneCtl) (op : t.ctl.op = s.ctl.op)
    (fans : ∀ f, (s.fan f).Ok s.ctl.op → (t.fan f).Ok s.ctl.op) : CoolingKept s t where
  zones h := by
    unfold State.ZonesOk State.zone at h ⊢
    rwa [zoneCtl, op]
  fans h := by
    rw [State.fansOk_iff] at h ⊢
    rw [op]
    exact fun f => fans f (h f)

theorem set_fan {f : FanId} {x : Fan} (hx : (s.fan f).Ok s.ctl.op → x.Ok s.ctl.op) : CoolingKept s (s.setFan f x) :=
  of_fans rfl rfl fun g h => by
    by_cases e : g = f
    · subst e
      rw [State.fan_setFan]
      exact hx h
    · rwa [State.fan_setFan_of_ne _ e]

theorem each_fan {g : FanId → Fan → Fan} (hg : ∀ f, (s.fan f).Ok s.ctl.op → (g f (s.fan f)).Ok s.ctl.op) :
    CoolingKept s (s.setFanDrv (s.fanDrv.each g)) :=
  of_fans rfl rfl fun f h => by
    have each : (s.setFanDrv (s.fanDrv.each g)).fan f = g f (s.fan f) := FanDrv.each_fans ..
    rw [each]
    exact hg f h

/-- A change of the zones' records, the derate ceiling and the caps alone. -/
theorem of_zones (fans : t.fanDrv.fans = s.fanDrv.fans) (op : t.ctl.op = s.ctl.op) (zones : s.ZonesOk → t.ZonesOk) :
    CoolingKept s t := by
  refine ⟨zones, fun h => ?_⟩
  unfold State.FansOk State.fan at h ⊢
  rwa [fans, op]

theorem set_zone {z : ZoneId} {x : Zone} (hx : (s.zone z).Ok s.ctl.op → x.Ok s.ctl.op) : CoolingKept s (s.setZone z x) := by
  refine of_zones rfl rfl fun ⟨zones, rest⟩ => ⟨fun y hy => ?_, rest⟩
  by_cases e : y = z
  · subst e
    rw [State.zone_setZone]
    exact hx (zones y hy)
  · rw [State.zone_setZone_of_ne _ e]
    exact zones y hy

end CoolingKept

/-! ### Changes of operating state (R98, R106, R117) -/

/-- A zone's record meets the invariant in every operating state but STANDBY as it does in any. -/
theorem Zone.Ok.working {x : Zone} {op new : OpState} (h : x.Ok op) (works : new ≠ .standby) : x.Ok new :=
  ⟨h.1, fun k => absurd k works, h.2.2⟩

/-- The hand-offs of a departure write no zone, and the fans at most by a requested duty formed (R117). -/
theorem State.leave_cooling (s : State) (old : OpState) : (s.leave old).zoneCtl = s.zoneCtl ∧
    ∀ f, (s.fan f).Sound → ((s.leave old).fan f).Sound := by
  by_cases k : old = .tripped
  · subst k
    refine ⟨rfl, fun f h => ?_⟩
    have each : (s.leave .tripped).fan f = s.fanDrv.formed s.capLost f (s.fan f) := FanDrv.each_fans ..
    rw [each]
    exact h.formed ..
  · obtain ⟨fanDrv, zoneCtl, -⟩ := s.leave_blocks k
    refine ⟨zoneCtl, fun f h => ?_⟩
    rwa [State.fan, fanDrv]

/-- The hand-offs of an arrival at STANDBY clear the accumulators, those at TRIPPED drive the fans at full (R98, R106,
R117). -/
theorem State.arrive_cooling (s : State) (new : OpState) :
    (s.arrive new).zoneCtl = (if new = .standby then s.clearIntegrators.zoneCtl else s.zoneCtl) ∧
    ∀ f, (s.fan f).Sound → ((s.arrive new).fan f).Sound ∧ (new = .tripped → ((s.arrive new).fan f).Driven) := by
  have same (f : FanId) {t : State} (e : t.fanDrv = s.fanDrv) : t.fan f = s.fan f := congrArg (fun d : FanDrv => d.fans[f.idx]) e
  cases new with
  | standby => exact ⟨rfl, fun f h => ⟨h, nofun⟩⟩
  | lit | cooldown =>
    refine ⟨s.pump_frame.zoneCtl, fun f h => ⟨?_, nofun⟩⟩
    change (s.pump.fan f).Sound
    rwa [same f s.pump_frame.fanDrv]
  | tripped =>
    have queue := s.fullFans.abortMotion_frame
    refine ⟨queue.zoneCtl, fun f h => ?_⟩
    have full : (s.arrive .tripped).fan f = (s.fan f).full :=
      (congrArg (fun d : FanDrv => d.fans[f.idx]) queue.fanDrv).trans (FanDrv.each_fans ..)
    rw [full]
    exact ⟨h.full.1, fun _ => h.full.2⟩

/-- A change of operating state keeps both invariants, with whatever hands over (R117). -/
theorem State.changeState_cooling (s : State) (new : OpState) : CoolingKept s (s.changeState new) := by
  have op : (s.changeState new).ctl.op = new := congrArg StateCtl.op (s.changeState_frame new).2
  obtain ⟨zoneCtl, fans⟩ := (s.writeOp new).leave_cooling s.ctl.op
  obtain ⟨zoneCtl', fans'⟩ := State.arrive_cooling ((s.writeOp new).leave s.ctl.op) new
  constructor
  · rintro ⟨zones, limits⟩
    by_cases k : new = .standby
    · subst k
      have cleared : (s.changeState .standby).zoneCtl = s.clearIntegrators.zoneCtl := by
        refine zoneCtl'.trans ?_
        rw [if_pos rfl, State.clearIntegrators, zoneCtl]
        rfl
      refine ⟨fun z hz => ?_, ?_⟩
      · have record : (s.changeState .standby).zone z = { s.zone z with acc := 0 } := by
          rw [State.zone, cleared]
          exact ZoneCtl.each_zones ..
        rw [record]
        exact ⟨Nat.zero_le _, fun _ => rfl, (zones z hz).2.2⟩
      · rw [cleared]
        exact limits
    · have kept : (s.changeState new).zoneCtl = s.zoneCtl := by
        refine zoneCtl'.trans ?_
        rw [if_neg k, zoneCtl]
        rfl
      unfold State.ZonesOk State.zone
      rw [kept, op]
      exact ⟨fun z hz => (zones z hz).working k, limits⟩
  · intro h
    rw [State.fansOk_iff] at h ⊢
    intro f
    rw [op, Fan.ok_iff]
    exact fans' f (fans f ((Fan.ok_iff _ _).1 (h f)).1)

theorem State.trip_cooling (s : State) (cause : TripCause) : CoolingKept s (s.trip cause) := by
  have named : CoolingKept s (s.setCtl { s.ctl with lastTrip := cause }) := .of_blocks rfl rfl rfl
  exact .ite (fun _ => .refl s) fun _ => named.trans (State.changeState_cooling _ _)

theorem State.judgeComparator_cooling (s : State) : CoolingKept s s.judgeComparator := by
  have set (c : Comparator) : CoolingKept s (s.setComparator c) := .of_blocks rfl rfl rfl
  rcases s.judgeComparator_cases with ⟨-, -, e⟩ | ⟨-, -, e⟩ | ⟨-, e⟩ <;> rw [e]
  · exact (set _).trans (State.trip_cooling _ _)
  · exact set _
  · exact .refl s

theorem State.judgeDigital_cooling (s : State) (zs : List ZoneId) : CoolingKept s (s.judgeDigital zs) := by
  induction zs generalizing s with
  | nil => exact .refl s
  | cons z zs ih => exact CoolingKept.trans (.ite (fun _ => s.trip_cooling _) fun _ => .refl s) (ih _)

/-- The reset records meet both invariants (R90, R99, R103, R130). -/
theorem State.applyReset_cooling (s : State) : CoolingKept s s.applyReset := by
  have fresh : s.abandonBus.resetBlocks.ZonesOk ∧ s.abandonBus.resetBlocks.FansOk := by
    have reset : State.reset.ZonesOk ∧ State.reset.FansOk := by decide
    exact reset
  exact CoolingKept.trans ⟨fun _ => fresh.1, fun _ => fresh.2⟩ (State.judgeComparator_cooling _)

theorem State.assertReset_cooling (s : State) : CoolingKept s s.assertReset := by
  have fans : CoolingKept s (s.setFanDrv (s.fanDrv.each fun _ x => { x with pwmLevel := 0 })) := .each_fan fun _ h => h
  refine fans.trans (.of_blocks ?_ ?_ ?_) <;> simp [State.assertReset, State.abandonBus]

/-! ### Stalls (R110, R111) -/

theorem State.failFan_cooling (s : State) (f : FanId) : CoolingKept s (s.failFan f) := by
  have failed : CoolingKept s (s.setFan f (s.fan f).enterFailed) := .set_fan fun h => h.enterFailed
  unfold State.failFan
  dsimp only
  split
  · exact failed.trans (.ite (fun _ => State.trip_cooling _ _) fun _ => .refl _)
  · exact failed.trans (.of_blocks rfl rfl rfl)

theorem State.stall_cooling (s : State) (f : FanId) : CoolingKept s (s.stall f) := by
  have raised : CoolingKept s (s.raise .fanFault) := .of_blocks rfl rfl rfl
  exact .ite (fun few => raised.trans (.set_fan fun h => h.tryAgain few)) fun _ => raised.trans (State.failFan_cooling _ f)

theorem State.stallExpired_cooling (s : State) (f : FanId) : CoolingKept s (s.stallExpired f) := by
  unfold State.stallExpired
  split
  · exact s.stall_cooling f
  · exact s.stall_cooling f
  all_goals exact .refl s

/-! ### The control tick and the silence counter -/

theorem State.judgeDerate_limits (s : State) : s.judgeDerate.fanDrv = s.fanDrv ∧
    s.judgeDerate.zoneCtl = { s.zoneCtl with ceiling := s.judgeDerate.zoneCtl.ceiling } ∧
    (1024 ≤ s.zoneCtl.ceiling → s.zoneCtl.ceiling ≤ 4095 →
      1024 ≤ s.judgeDerate.zoneCtl.ceiling ∧ s.judgeDerate.zoneCtl.ceiling ≤ 4095) := by
  unfold State.judgeDerate
  split
  · simp [State.setCeiling, Config.derateStep, Config.derateFloor]
    omega
  · split
    · simp [State.setCeiling, Config.derateStep, Config.fullLevel]
      omega
    · exact ⟨rfl, rfl, fun low high => ⟨low, high⟩⟩

theorem State.zoneTick_cooling (s : State) : CoolingKept s s.zoneTick := by
  let u := s.copyMode.senseZones.formDemands
  have formed : u.fanDrv = s.fanDrv ∧ u.zoneCtl.ceiling = s.zoneCtl.ceiling ∧ u.zoneCtl.blindCap = s.zoneCtl.blindCap ∧
      u.zoneCtl.lossCap = s.zoneCtl.lossCap := by
    simp [u, State.formDemands, State.senseZones, State.copyMode, ZoneCtl.each]
  obtain ⟨fanDrv, ceiling, blindCap, lossCap⟩ := formed
  obtain ⟨fanDrv', zoneCtl', range⟩ := u.judgeDerate_limits
  have op : s.zoneTick.ctl.op = s.ctl.op := congrArg StateCtl.op s.zoneTick_values.2.2.2
  have limits : s.zoneTick.zoneCtl = u.judgeDerate.zoneCtl := rfl
  refine .of_zones (congrArg FanDrv.fans (fanDrv'.trans fanDrv)) op fun ⟨zones, low, high, blind, loss⟩ => ⟨fun z hz => ?_, ?_⟩
  · obtain ⟨sat, load, record⟩ := s.zoneTick_zone_formed z
    rw [record, op]
    exact (zones z hz).formed _ _ _
  · rw [limits, zoneCtl']
    obtain ⟨low', high'⟩ := range (ceiling ▸ low) (ceiling ▸ high)
    exact ⟨low', high', blindCap.trans_le blind, lossCap.trans_le loss⟩

/-- In TRIPPED every fan is driven at full; elsewhere the duties are formed from the demands handed (R105, R106). -/
theorem State.fanTick_cooling (s : State) : CoolingKept s s.fanTick := by
  have handed : CoolingKept s s.handDemands := .of_blocks rfl rfl rfl
  refine .ite (fun op => handed.trans (.each_fan fun f h => ?_)) fun op => handed.trans (.each_fan fun f h => ?_)
  · have full := ((Fan.ok_iff _ _).1 h).1.full
    exact (Fan.ok_iff _ _).2 ⟨full.1, fun _ => full.2⟩
  · exact (Fan.ok_iff _ _).2 ⟨((Fan.ok_iff _ _).1 h).1.formed .., fun k => absurd k op⟩

theorem State.controlTick_cooling (s : State) : CoolingKept s s.controlTick := by
  have judged := s.zoneTick_cooling.trans (State.judgeDigital_cooling s.zoneTick ZoneId.all)
  have sources (t : State) : CoolingKept t t.sourceTick := .of_blocks rfl rfl rfl
  have runOn (t : State) : CoolingKept t t.judgeRunOn := .ite (fun _ => t.changeState_cooling _) fun _ => .refl t
  exact (((judged.trans (State.fanTick_cooling _)).trans (sources _)).trans (runOn _)).trans (.of_queue (State.proceed_frame _))

theorem State.silenceExpires_cooling (s : State) : CoolingKept s s.silenceExpires := by
  let u := (s.setCtl { s.ctl with silence := Config.silenceLimit, armed := false }).raise .linkLost
  have lost : CoolingKept s u := .of_blocks rfl rfl rfl
  have dark : CoolingKept u (if u.ctl.op = .lit then u.changeState .cooldown else u) :=
    .ite (fun _ => u.changeState_cooling _) fun _ => .refl u
  have ended := (lost.trans dark).trans (.of_queue (State.endSwitching_frame _))
  exact .ite (fun _ => ended.trans (State.applyReset_cooling _)) fun _ => ended

theorem State.silenceCounts_cooling (s : State) : CoolingKept s s.silenceCounts :=
  .ite (fun _ => .ite (fun _ => s.silenceExpires_cooling) fun _ => .of_blocks rfl rfl rfl) fun _ => .refl s

end Sys2Proof.Machine
end

section
/-! PROOF. O58: the owners of the packet commands and the events keep the zones' and the fans' invariants, and so does
every step. -/

namespace Sys2Proof.Machine

/-! ### The owners of the packet commands (R91, R101, R104, R112, R170) -/

/-- WRITE_ZONE writes thresholds that rise, and neither accumulator nor temperature (R91). -/
theorem writeZone_cooling (zone : Byte) (setpoint derate trip runOn guard kp : BitVec 16) (ki : Byte) (kff : BitVec 16)
    (basis mask : Byte) (s : State) :
    CoolingKept s (writeZone zone setpoint derate trip runOn guard kp ki kff basis mask s).1 := by
  unfold writeZone
  split
  · split
    · rename_i taken
      simp only [zoneThresholdsOk, Bool.and_eq_true, decide_eq_true_eq] at taken
      obtain ⟨⟨⟨-, rises⟩, rises'⟩, -⟩ := taken
      exact .set_zone fun ⟨most, rests, seen, _⟩ => ⟨most, rests, seen, rises, rises'⟩
    · exact .refl s
  · exact .refl s

theorem dutyInRange_iff (d : Nat) : dutyInRange d = true ↔ 1 ≤ d ∧ d ≤ 1023 := by
  rw [dutyInRange, Bool.and_eq_true, decide_eq_true_eq, decide_eq_true_eq]
  rfl

theorem fanDutiesOk_iff (minDuty quiet standard high : Nat) : fanDutiesOk minDuty quiet standard high = true ↔
    (∀ d ∈ [minDuty, quiet, standard, high], 1 ≤ d ∧ d ≤ 1023) ∧ ∀ d ∈ [quiet, standard, high], minDuty ≤ d := by
  simp [fanDutiesOk, dutyInRange_iff, and_assoc]

/-- WRITE_FAN writes duties within their ranges, and neither state nor timer (R104). -/
theorem writeFan_cooling (fan : Byte) (minDuty : BitVec 16) (mayStop : Byte) (quiet standard high : BitVec 16)
    (current edges edgeSel : Byte) (s : State) :
    CoolingKept s (writeFan fan minDuty mayStop quiet standard high current edges edgeSel s).1 := by
  unfold writeFan
  split
  · split
    · rename_i taken
      simp only [fanDutiesOk_iff, List.forall_mem_cons, List.not_mem_nil, false_implies, forall_const] at taken
      obtain ⟨⟨⟨⟨low, -⟩, ⟨-, quiet⟩, ⟨-, standard⟩, ⟨-, high⟩, -⟩, leQuiet, leStandard, leHigh, -⟩, -⟩ := taken
      exact .set_fan fun ⟨_, rest⟩ => ⟨⟨low, leQuiet, leStandard, leHigh, quiet, standard, high⟩, rest⟩
    · exact .refl s
  · exact .refl s

theorem setThermalLimits_cooling (blindCap lossCap : BitVec 16) (s : State) :
    CoolingKept s (setThermalLimits blindCap lossCap s).1 := by
  unfold setThermalLimits
  split
  · rename_i taken
    exact .of_zones rfl rfl fun ⟨zones, low, high, _⟩ => ⟨zones, low, high, taken⟩
  · exact .refl s

theorem clearFan_cooling (fan : Byte) (s : State) : CoolingKept s (clearFan fan s).1 := by
  unfold clearFan
  split
  · exact .refl s
  · rename_i f _
    refine .ite (fun failed => ?_) fun _ => .refl s
    have cleared : CoolingKept s (s.setFan f ((s.fan f).cleared s.ctl.op)) := .set_fan fun h => h.cleared failed
    exact cleared.trans (.of_blocks rfl rfl rfl)

theorem tryLight_cooling (s : State) : CoolingKept s (tryLight s).1 := by
  unfold tryLight
  split
  · exact .refl s
  · exact s.changeState_cooling .lit

theorem setTripComparator_cooling (channel : Byte) (threshold : BitVec 16) (s : State) :
    CoolingKept s (setTripComparator channel threshold s).1 := by
  have set (c : Comparator) : CoolingKept s (s.setComparator c) := .of_blocks rfl rfl rfl
  unfold setTripComparator
  split
  · exact .refl s
  · split
    · exact .refl s
    · split
      · exact (set _).trans (State.judgeComparator_cooling _)
      · exact .refl s

theorem enqueue_cooling (tag : Byte) (j : Job) (s : State) : CoolingKept s (enqueue tag j s).1 := by
  have appended (r : Request) : CoolingKept s (s.append r) := .of_blocks rfl rfl rfl
  unfold enqueue
  split
  · exact .refl s
  · split
    · exact .refl s
    · exact (appended _).trans (.of_queue (State.pump_frame _))

/-- Whether a command's owner works in blocks other than the zones, the fans, the state controller and the motion queue's
requests. -/
def sparesCooling : Instr → Bool
  | .writeZone .. | .setThermalLimits .. | .writeFan .. | .clearFan .. | .lightOn .. | .lightOff .. | .clearTrip ..
  | .setTripComparator .. | .moveAxis .. | .stepAxis .. | .home .. | .recallPreset .. | .stopMotion .. => false
  | _ => true

/-- Such an owner leaves zones, fans and operating state alone, whether it refuses, reads or writes (R170). -/
theorem ownerOf_sparesCooling (i : Instr) (s : State) (hi : sparesCooling i = true) : CoolingKept s (ownerOf i s).1 := by
  cases i
  case readGrid | gridInfo | readPoll | readThermistorTable | readZone | readFan | readPreset | readMotion =>
    simp only [ownerOf, readGrid, gridInfo, readPoll, readTable, readZone, readFan, readPreset, readMotion, answer]
    split <;> exact .refl s
  case setLight | setLightRamp | assignSource | writePoll | engineReset | erasePreset | ackEvents | setEventEnable =>
    simp only [ownerOf, setLight, setLightRamp, assignSource, writePoll, engineReset, erasePreset, ackEvents, setEventEnable, answer]
    split <;> exact .of_blocks rfl rfl rfl
  case writeGrid | commitGrid | eraseGrid | selectGrid | writeChannel | setInstall | readSource | writeThermistorTableFirst
      | writeThermistorTableSecond | storePreset =>
    simp only [ownerOf, writeGrid, commitGrid, eraseGrid, selectGrid, writeChannel, setInstall, readSource, writeTableFirst,
      writeTableSecond, storePreset, storeExplicit, storeCurrent, answer]
    repeat' split
    all_goals exact .of_blocks rfl rfl rfl
  case writeAxis | readAxis =>
    simp only [ownerOf, writeAxis, readAxis, answer]
    repeat' split
    all_goals exact .of_blocks (by simp) (by simp) (by simp)
  all_goals first | contradiction | exact .refl s

/-- What the owner of a packet command does keeps both invariants (R170). -/
theorem ownerOf_cooling (i : Instr) (s : State) : CoolingKept s (ownerOf i s).1 := by
  cases i
  case writeZone => exact writeZone_cooling ..
  case setThermalLimits => exact setThermalLimits_cooling ..
  case writeFan => exact writeFan_cooling ..
  case clearFan => exact clearFan_cooling ..
  case setTripComparator => exact setTripComparator_cooling ..
  case lightOn =>
    simp only [ownerOf, lightOn]
    split
    · exact tryLight_cooling s
    · exact tryLight_cooling s
    · exact .refl s
    · exact .refl s
  case lightOff => exact .ite (fun _ => s.changeState_cooling _) fun _ => .refl s
  case clearTrip =>
    simp only [ownerOf, clearTrip]
    split
    · split
      · exact .refl s
      · exact s.changeState_cooling .cooldown
    · exact .refl s
  case moveAxis =>
    simp only [ownerOf, moveAxis]
    split
    · exact .refl s
    · exact enqueue_cooling _ _ s
  case stepAxis =>
    simp only [ownerOf, stepAxis]
    split
    · exact .refl s
    · split
      · exact enqueue_cooling _ _ s
      · exact .refl s
  case home =>
    simp only [ownerOf, home]
    split
    · exact .refl s
    · exact enqueue_cooling _ _ s
  case recallPreset =>
    simp only [ownerOf, recallPreset]
    split
    · exact .refl s
    · split
      · exact .refl s
      · exact enqueue_cooling _ _ s
  case stopMotion => exact .of_queue s.stopMotion_frame
  all_goals exact ownerOf_sparesCooling _ s rfl

/-- A packet keeps both invariants where its owner's work does (R167). -/
theorem State.takePacket_cooling (s : State) (tag : Byte) {run : Owner} (owner : ∀ t, CoolingKept t (run t).1) :
    CoolingKept s (s.takePacket tag run) :=
  State.takePacket_keeps (P := CoolingKept s) (.refl s) (fun _ _ h => h.trans (.of_blocks rfl rfl rfl)) fun t h => h.trans (owner t)

theorem State.receive_cooling (s : State) (r : PacketRead) : CoolingKept s (s.receive r) := by
  cases r with
  | badCheck tag => exact s.takePacket_cooling tag .refl
  | unknownCommand tag => exact s.takePacket_cooling tag .refl
  | badLength tag => exact s.takePacket_cooling tag .refl
  | command tag i => exact s.takePacket_cooling tag (ownerOf_cooling i)

/-- A packet command completes and keeps both invariants (R167, R170). -/
theorem exec_packet_cooling {i : Instr} (hi : (packetOf i).isSome = true) (s : State) :
    ∃ t, exec i s = .next t ∧ CoolingKept s t := by
  obtain ⟨⟨tag, code, payload⟩, hp⟩ := Option.isSome_iff_exists.1 hi
  obtain ⟨run, he, hr⟩ := exec_packet hp s
  refine ⟨_, he, s.takePacket_cooling tag fun t => ?_⟩
  rcases hr with rfl | ⟨-, rfl⟩
  · exact ownerOf_cooling i t
  · exact .refl t

/-! ### The events of the video path, the return lane and the lens axes -/

theorem State.endOutput_cooling (s : State) (b : Bool) : CoolingKept s (s.endOutput b) := by
  unfold State.endOutput
  split
  · exact .refl s
  · exact .of_blocks rfl rfl rfl

theorem State.outputFrameStart_cooling (s : State) : CoolingKept s s.outputFrameStart := by
  have entered (t : State) : CoolingKept t t.enterOutput := .of_blocks rfl rfl rfl
  have latched (t : State) : CoolingKept t t.latch := by
    unfold State.latch
    split
    · exact .refl t
    · exact .of_blocks rfl rfl rfl
  have counted (t : State) (x : Stats) : CoolingKept t (t.setStats x) := .of_blocks rfl rfl rfl
  have begun := ((s.endOutput_cooling false).trans (entered _)).trans (latched _)
  unfold State.outputFrameStart
  rw [State.startOutput_eq]
  exact .ite (fun _ => (begun.trans (counted _ _)).trans (.of_queue (State.endSwitching_frame _))) fun _ => .refl s

theorem State.inputFrameStart_cooling (s : State) (l : Line) : CoolingKept s (s.inputFrameStart l) := by
  have timed (t : State) (n : Nat) : CoolingKept t (t.setLineTime n) := .of_blocks rfl rfl rfl
  have due : CoolingKept s s.startDueFirst := ((timed s _).trans (State.outputFrameStart_cooling _)).trans (timed _ _)
  have begun (t : State) : CoolingKept t (t.beginFrame l) := by
    have started : CoolingKept t (t.setWarp (t.warp.startFrame l)) := .of_blocks rfl rfl rfl
    have answers (u : State) : CoolingKept u u.formAnswer.rearm := .of_blocks rfl rfl rfl
    exact (CoolingKept.ite (fun _ => started.trans (.of_queue (State.endSwitching_frame _))) fun _ => started).trans (answers _)
  exact due.trans (begun _)

theorem State.outputLine_cooling (s : State) : CoolingKept s s.outputLine := by
  unfold State.outputLine
  split
  · exact .refl s
  · rename_i f _
    have sent : CoolingKept s (s.sendLine f) := .of_blocks rfl rfl rfl
    rw [State.produceLine_eq]
    exact .ite (fun _ => .ite (fun _ => sent.trans (State.endOutput_cooling _ _)) fun _ => sent) fun _ => .refl s

theorem State.answerCut_cooling (s : State) : CoolingKept s s.answerCut :=
  .ite (fun _ => s.applyReset_cooling) fun _ => .of_blocks rfl rfl rfl

theorem State.answerSent_cooling (s : State) : CoolingKept s s.answerSent :=
  .ite (fun _ => .ite (fun _ => s.applyReset_cooling) fun _ => .of_blocks rfl rfl rfl) fun _ => .refl s

theorem State.profileTick_cooling (s : State) : CoolingKept s s.profileTick := by
  have ticked : CoolingKept s ((s.setAxis .h s.axisH.tick.1).setAxis .v s.axisV.tick.1) := .of_blocks rfl rfl rfl
  have taken (t : State) (a : AxisId) (e : AxisEvent) : CoolingKept t (t.takeEvent a e) :=
    .of_queue ((queueFrame_closed t).takeEvent a e (.refl t))
  exact .ite (fun _ => ticked) fun _ =>
    ((ticked.trans (taken _ _ _)).trans (taken _ _ _)).trans (.of_queue (State.proceed_frame _))

theorem State.setAxis_cooling (s : State) (a : AxisId) (x : Axis) : CoolingKept s (s.setAxis a x) :=
  .of_blocks (by simp) (by simp) (by simp)

/-! ### The temperature sources -/

theorem State.applyReading_cooling (s : State) (n : Fin 12) (r : Reading) : CoolingKept s (s.applyReading n r) := by
  apply CoolingKept.of_blocks <;> simp [State.applyReading]

theorem State.endFlight_cooling (s : State) (f : Flight) (r : Reading) (wire : List SbSignal) :
    CoolingKept s (s.endFlight f r wire) := by
  have moved (t : State) (x : Temps) : CoolingKept t (t.setTemps x) := .of_blocks rfl rfl rfl
  exact CoolingKept.trans (.ite (fun _ => .refl s) fun _ => s.applyReading_cooling _ _) (moved _ _)

theorem State.cutFlight_cooling (s : State) (f : Flight) (o : ReadOutcome) (p : SbPlace) : CoolingKept s (s.cutFlight f o p) := by
  have due : CoolingKept s (s.setTemps { s.temps with recoveryDue := true }) := .of_blocks rfl rfl rfl
  have drawn (t : State) : CoolingKept t t.drawFree := .of_blocks rfl rfl rfl
  exact (due.trans (State.endFlight_cooling _ f (.bad o) (f.cutWire p s.freeCount))).trans (drawn _)

theorem State.cutBegun_cooling (s : State) (o : ReadOutcome) (p : SbPlace) : CoolingKept s (s.cutBegun o p) := by
  unfold State.cutBegun
  split
  · exact .refl s
  · exact s.cutFlight_cooling _ _ _

theorem State.addStretch_cooling (s : State) (micros : Nat) : CoolingKept s (s.addStretch micros) := by
  unfold State.addStretch
  split
  · exact .refl s
  · exact .ite (fun _ => s.cutFlight_cooling _ _ _) fun _ => .of_blocks rfl rfl rfl

theorem State.recoveryAbandoned_cooling (s : State) : CoolingKept s s.recoveryAbandoned := by
  unfold State.recoveryAbandoned
  split
  · exact .refl s
  · exact s.cutFlight_cooling _ _ _

theorem State.stopBegun_cooling (s : State) (e : SbEnd) : CoolingKept s (s.stopBegun e) := by
  unfold State.stopBegun
  split
  · exact .refl s
  · exact s.endFlight_cooling _ _ _

theorem State.recoveryDone_cooling (s : State) : CoolingKept s s.recoveryDone := by
  unfold State.recoveryDone
  split
  · exact .refl s
  · exact .of_blocks rfl rfl rfl

/-! ### Every command, and every step -/

/-- Every command completes and keeps both invariants. -/
theorem exec_cooling (i : Instr) (s : State) : ∃ t, exec i s = .next t ∧ CoolingKept s t := by
  have live (f : State → State) (hf : CoolingKept s (f s)) : CoolingKept s (s.whenLive f) := .ite (fun _ => hf) fun _ => .refl s
  have linked (f : State → State) (hf : CoolingKept s (f s)) : CoolingKept s (s.whenLinked f) := .ite (fun _ => hf) fun _ => .refl s
  cases i
  case inputActiveLine ps =>
    exact ⟨_, rfl, linked _ (.ite (fun _ => s.inputFrameStart_cooling _) fun _ => .of_blocks rfl rfl rfl)⟩
  case controlLine ps =>
    have line : CoolingKept s s.blankingLine := .of_blocks rfl rfl rfl
    exact ⟨_, rfl, linked _ (.ite (fun _ => line.trans (State.receive_cooling _ _)) fun _ => line)⟩
  case outputLine => exact ⟨_, rfl, linked _ s.outputLine_cooling⟩
  case outputFrameStart => exact ⟨_, rfl, linked _ s.outputFrameStart_cooling⟩
  case plainBlankingLine => exact ⟨_, rfl, linked _ (.of_blocks rfl rfl rfl)⟩
  case linkLockLost =>
    have lost : CoolingKept s s.lockLost := by
      have darkened : CoolingKept s s.darken := .of_blocks rfl rfl rfl
      rw [State.lockLost_eq]
      exact darkened.trans (State.answerCut_cooling _)
    exact ⟨_, rfl, .ite (fun _ => lost) fun _ => .of_blocks rfl rfl rfl⟩
  case linkLockRegained => exact ⟨_, rfl, .ite (fun _ => .of_blocks rfl rfl rfl) fun _ => .of_blocks rfl rfl rfl⟩
  case answerSent => exact ⟨_, rfl, linked _ s.answerSent_cooling⟩
  case resetNAsserted => exact ⟨_, rfl, live _ s.assertReset_cooling⟩
  case resetNReleased =>
    have released : CoolingKept s (s.setResetAsserted false) := .of_blocks rfl rfl rfl
    exact ⟨_, rfl, released.trans (State.applyReset_cooling _)⟩
  case controlTick => exact ⟨_, rfl, live _ s.controlTick_cooling⟩
  case thermistorConversionDone ch code =>
    have taken : CoolingKept s (s.takeConversion ch code) := .ite (fun _ => .refl s) fun _ => s.applyReading_cooling _ _
    have advanced (t : State) : CoolingKept t (t.advanceScan ch) := .ite (fun _ => .of_blocks rfl rfl rfl) fun _ => .refl t
    exact ⟨_, rfl, live _ (taken.trans (advanced _))⟩
  case sbTransactionEnd e => exact ⟨_, rfl, live _ (s.stopBegun_cooling e)⟩
  case sbStretchLimit micros => exact ⟨_, rfl, live _ (s.addStretch_cooling micros)⟩
  case sbClockTimeout => exact ⟨_, rfl, live _ (s.cutBegun_cooling _ _)⟩
  case sbBusError => exact ⟨_, rfl, live _ (s.cutBegun_cooling _ _)⟩
  case sbRecoveryDone => exact ⟨_, rfl, live _ s.recoveryDone_cooling⟩
  case sbRecoveryAbandoned => exact ⟨_, rfl, live _ s.recoveryAbandoned_cooling⟩
  case comparatorTrip level | comparatorRelease level =>
    let u := s.setPinCode level.ch level.code
    have shown : CoolingKept s u := .of_blocks rfl rfl rfl
    exact ⟨_, rfl, shown.trans (.ite (fun _ => u.judgeComparator_cooling) fun _ => .refl u)⟩
  case rampTick | lightPwmPeriodBoundary | runOnElapsedLimit => exact ⟨_, rfl, live _ (.of_blocks rfl rfl rfl)⟩
  case fanPwmPeriodBoundary f | tachTimeout f => exact ⟨_, rfl, live _ (.set_fan fun h => h)⟩
  case kickTimerExpiry f => exact ⟨_, rfl, live _ (.set_fan fun h => h.kickExpired)⟩
  case pauseTimerExpiry f => exact ⟨_, rfl, live _ (.set_fan fun h => h.pauseExpired)⟩
  case retryClearTimerExpiry f => exact ⟨_, rfl, live _ (.set_fan fun h => h.clearExpired)⟩
  case stallTimerExpiry f => exact ⟨_, rfl, live _ (s.stallExpired_cooling f)⟩
  case tachEdge f e =>
    have edge : CoolingKept s (s.updateFan f fun x => x.edge e.micros (Config.freeSpeed s.freeCount)) := .set_fan fun h => h.edge _ _
    have drawn (t : State) (b : Bool) : CoolingKept t (t.drawFreeIf b) := .of_blocks (by simp) (by simp) (by simp)
    exact ⟨_, rfl, live _ (.ite (fun _ => edge.trans (drawn _ _)) fun _ => .refl s)⟩
  case profileTick => exact ⟨_, rfl, live _ s.profileTick_cooling⟩
  case endstopEdge e | endstopInactive e =>
    exact ⟨_, rfl, .ite (fun _ => (s.setAxis_cooling _ _).trans (.of_queue (State.afterEvent_frame _ _ _)))
      fun _ => s.setAxis_cooling _ _⟩
  case railWaitTimeout => exact ⟨_, rfl, live _ (.of_queue s.railTimeout_frame)⟩
  case silenceTick => exact ⟨_, rfl, live _ s.silenceCounts_cooling⟩
  case silenceExpiry => exact ⟨_, rfl, live _ (.ite (fun _ => s.silenceExpires_cooling) fun _ => .refl s)⟩
  all_goals exact exec_packet_cooling rfl s

/-- Settles O58: a millisecond or the command at the front of the queue, each of which keeps both invariants. -/
theorem everyStepKeepsZonesAndFans : Obligations.EveryStepKeepsZonesAndFans := by
  intro s t he
  have kept : CoolingKept s t := by
    unfold step at he
    split at he
    · cases he
      have fans : CoolingKept s (s.setFanDrv (s.fanDrv.each fun _ x => x.millisecond)) := .each_fan fun _ h => h.millisecond
      exact .ite (fun _ => fans.trans (.of_blocks rfl rfl rfl)) fun _ => .refl s
    · rename_i i rest _
      have waits : CoolingKept s (s.setPending rest) := .of_blocks rfl rfl rfl
      obtain ⟨u, hu, k⟩ := exec_cooling i (s.setPending rest)
      cases hu.symm.trans he
      exact waits.trans k
  exact ⟨kept.zones, kept.fans⟩

end Sys2Proof.Machine
end

section
/-! PROOF. O34 to O36: a control tick block by block, whether or not it trips the part. -/

namespace Sys2Proof.Machine

/-! ### The zones (R93 to R98) -/

/-- What a control tick makes of a zone's record: sensed, and its demand formed by the fans' flags and the load as they stood
before the tick (R93, R95 to R98). -/
theorem State.zoneTick_zone_eq (s : State) (z : ZoneId) : s.zoneTick.zone z =
    ((s.zone z).sense (s.zoneReadings z)).formDemand s.ctl.op (s.saturated (s.zone z).mask) (s.load (s.zone z).basis) := by
  let u := s.copyMode.senseZones
  have formed : s.zoneTick.zone z = u.formDemands.zone z :=
    congrArg (fun zones : Vector Zone 3 => zones[z.idx]) (State.judgeDerate_zones _)
  have demanded : u.formDemands.zone z = (u.zone z).formDemand u.ctl.op (u.saturated (u.zone z).mask) (u.load (u.zone z).basis) :=
    ZoneCtl.each_zones ..
  have sensed : u.zone z = (s.zone z).sense (s.zoneReadings z) := by
    simp only [u, State.senseZones, State.zone, State.raiseIf_fields, State.setZoneCtl_fields, ZoneCtl.each_zones]
    rfl
  have blocks : u.ctl = s.ctl ∧ u.fanDrv = s.fanDrv ∧ u.light = s.light ∧ u.stats = s.stats := by
    simp [u, State.senseZones, State.copyMode]
  obtain ⟨ctl, fanDrv, light, stats⟩ := blocks
  have saturated (m : BitVec 3) : u.saturated m = s.saturated m := by simp only [State.saturated, State.fan, fanDrv]
  have load (b : LoadBasis) : u.load b = s.load b := by cases b <;> simp only [State.load, State.dumpLoad, light, stats]
  rw [formed, demanded, sensed, ctl, saturated, load]
  rfl

/-- A demand formed writes the accumulator and the demand alone (R95 to R98). -/
theorem Zone.formDemand_eq (x : Zone) (op : OpState) (sat : Bool) (load : Nat) : x.formDemand op sat load =
    { x with acc := (x.formDemand op sat load).acc, demand := (x.formDemand op sat load).demand } := by
  unfold Zone.formDemand
  split
  · rfl
  · split <;> rfl

/-! ### The derate ceiling (R99, R100) -/

theorem State.judgeDerate_ceiling (s : State) :
    (s.derates = true → s.judgeDerate.zoneCtl.ceiling = max (s.zoneCtl.ceiling - 64) 1024 ∧
      (s.zoneCtl.ceiling = 4095 → s.judgeDerate.chan.flag .derate = true)) ∧
    (s.derates = false → s.recovers = true → s.judgeDerate.zoneCtl.ceiling = min (s.zoneCtl.ceiling + 64) 4095) ∧
    (s.derates = false → s.recovers = false → s.judgeDerate.zoneCtl.ceiling = s.zoneCtl.ceiling) := by
  refine ⟨fun derates => ?_, fun steady recovers => ?_, fun steady stays => ?_⟩
  · rw [State.judgeDerate, if_pos derates]
    refine ⟨by simp [State.setCeiling, Config.derateStep, Config.derateFloor], fun full => ?_⟩
    have leaves : decide (s.zoneCtl.ceiling = Config.fullLevel) = true := decide_eq_true full
    rw [leaves]
    exact ChanState.flag_raise ..
  · rw [State.judgeDerate, if_neg (by simp [steady]), if_pos recovers]
    rfl
  · rw [State.judgeDerate, if_neg (by simp [steady]), if_neg (by simp [stays])]

/-- A control tick copies the acoustic mode of the installation record (R94). -/
theorem State.zoneTick_mode (s : State) : s.zoneTick.zoneCtl.mode = s.ctl.acoustic := by
  have derate (u : State) : u.judgeDerate.zoneCtl.mode = u.zoneCtl.mode :=
    (congrArg ZoneCtl.mode u.judgeDerate_limits.2.1 :)
  simp [State.zoneTick, State.reformThermal, derate, State.formDemands, State.senseZones, State.copyMode, ZoneCtl.each]

/-! ### The digital trips (R102, R121) -/

/-- Of the zones judged the first that stands at its trip threshold trips the part; the others change nothing. -/
theorem State.judgeDigital_eq {s : State} (op : s.ctl.op ≠ .tripped) (zs : List ZoneId) : s.judgeDigital zs =
    match zs.find? s.zoneTrips with
    | none => s
    | some z => s.trip (.zone z) := by
  induction zs with
  | nil => rfl
  | cons z zs ih =>
    rw [State.judgeDigital, List.find?_cons]
    cases trips : s.zoneTrips z with
    | true => exact State.judgeDigital_of_tripped (State.trip_trippedFrom op (.zone z)).op zs
    | false => exact ih

/-- The digital trips leave everything as it is, or are one trip. -/
theorem State.judgeDigital_cases (s : State) (zs : List ZoneId) :
    s.judgeDigital zs = s ∨ s.ctl.op ≠ .tripped ∧ ∃ z, s.judgeDigital zs = s.trip (.zone z) := by
  by_cases op : s.ctl.op = .tripped
  · exact .inl (State.judgeDigital_of_tripped op zs)
  · rw [State.judgeDigital_eq op]
    split
    · exact .inl rfl
    · exact .inr ⟨op, _, rfl⟩

/-- The part at a control tick once the zones are formed and the digital trips judged. -/
def State.tickJudged (s : State) : State := s.zoneTick.judgeDigital ZoneId.all

theorem State.tickFormed_eq_judged (s : State) : s.tickFormed = s.tickJudged.fanTick.sourceTick := rfl

theorem State.tickJudged_zoneCtl (s : State) : s.tickJudged.zoneCtl = s.zoneTick.zoneCtl := by
  rcases s.zoneTick.judgeDigital_cases ZoneId.all with e | ⟨op, z, e⟩ <;> rw [State.tickJudged, e]
  exact (State.trip_blocks op (.zone z)).1

/-- A control tick takes the part to TRIPPED or leaves the state controller as the tick found it, up to the run-on. -/
theorem State.tickJudged_ctl (s : State) : s.tickJudged = s.zoneTick ∧ s.tickJudged.ctl = s.ctl ∨
    s.ctl.op ≠ .tripped ∧ s.tickJudged.ctl.op = .tripped := by
  have ctl := s.zoneTick_values.2.2.2
  rcases s.zoneTick.judgeDigital_cases ZoneId.all with e | ⟨op, z, e⟩
  · exact .inl ⟨e, (congrArg State.ctl e).trans ctl⟩
  · refine .inr ⟨by rwa [← ctl], ?_⟩
    rw [State.tickJudged, e]
    exact (State.trip_trippedFrom op _).op

theorem State.fanTick_blocks (s : State) : s.fanTick.zoneCtl = s.zoneCtl ∧ s.fanTick.ctl = s.ctl ∧ s.fanTick.light = s.light ∧
    s.fanTick.chan = s.chan := by
  unfold State.fanTick
  dsimp only
  split <;> exact ⟨rfl, rfl, rfl, rfl⟩

theorem State.tickFormed_blocks (s : State) : s.tickFormed.zoneCtl = s.zoneTick.zoneCtl ∧ s.tickFormed.ctl = s.tickJudged.ctl ∧
    s.tickFormed.light = s.tickJudged.light ∧ s.tickFormed.chan = s.tickJudged.chan := by
  have source (u : State) : u.sourceTick.zoneCtl = u.zoneCtl ∧ u.sourceTick.ctl = u.ctl ∧ u.sourceTick.light = u.light ∧
      u.sourceTick.chan = u.chan := ⟨rfl, rfl, rfl, rfl⟩
  obtain ⟨zoneCtl, ctl, light, chan⟩ := s.tickJudged.fanTick_blocks
  obtain ⟨zoneCtl', ctl', light', chan'⟩ := source s.tickJudged.fanTick
  rw [s.tickFormed_eq_judged, zoneCtl', ctl', light', chan', zoneCtl, s.tickJudged_zoneCtl]
  exact ⟨rfl, ctl, light, chan⟩

/-! ### The end of the tick: the run-on, and the requests (R120, R155) -/

/-- The judgement of the run-on takes the part from COOLDOWN to STANDBY, or changes nothing (R120). -/
theorem State.judgeRunOn_cases (s : State) : s.judgeRunOn = s ∨
    s.ctl.op = .cooldown ∧ s.judgeRunOn = (s.writeOp .standby).clearIntegrators.raise .cooldownDone := by
  by_cases ends : s.ctl.op = .cooldown ∧ s.runOnComplete
  · exact .inr ⟨ends.1, (if_pos ends).trans (State.changeState_standby ends.1)⟩
  · exact .inl (if_neg ends)

section

variable (s : State)

/-- The end of a tick changes a zone's accumulator alone, and that where the run-on ends (R98, R117). -/
theorem State.endTick_zone (z : ZoneId) : s.judgeRunOn.proceed.zone z = s.zone z ∨
    s.ctl.op = .cooldown ∧ s.judgeRunOn.proceed.ctl.op = .standby ∧
      s.judgeRunOn.proceed.zone z = { s.zone z with acc := 0 } := by
  have queue := s.judgeRunOn.proceed_frame
  rw [State.zone, queue.zoneCtl, queue.ctl, ← State.zone]
  rcases s.judgeRunOn_cases with e | ⟨op, e⟩ <;> rw [e]
  · exact .inl rfl
  · exact .inr ⟨op, rfl, ZoneCtl.each_zones ..⟩

theorem State.endTick_limits : s.judgeRunOn.proceed.zoneCtl.ceiling = s.zoneCtl.ceiling ∧
    s.judgeRunOn.proceed.zoneCtl.mode = s.zoneCtl.mode := by
  rw [(State.proceed_frame _).zoneCtl]
  rcases s.judgeRunOn_cases with e | ⟨-, e⟩ <;> rw [e] <;> exact ⟨rfl, rfl⟩

theorem State.endTick_fan (f : FanId) : s.judgeRunOn.proceed.fan f = s.fan f := by
  rw [State.fan, (State.proceed_frame _).fanDrv]
  rcases s.judgeRunOn_cases with e | ⟨-, e⟩ <;> rw [e] <;> rfl

/-- The end of a tick leaves TRIPPED alone, and leads there from no other state. -/
theorem State.endTick_ctl : (s.ctl.op = .tripped → s.judgeRunOn.proceed.ctl = s.ctl) ∧
    (s.judgeRunOn.proceed.ctl.op = .tripped → s.ctl.op = .tripped) := by
  rw [(State.proceed_frame _).ctl]
  rcases s.judgeRunOn_cases with e | ⟨op, e⟩ <;> rw [e]
  · exact ⟨fun _ => rfl, id⟩
  · exact ⟨fun k => (nomatch op.symm.trans k), nofun⟩

end

/-! ### Flags that a tick sets (R173) -/

/-- The motion queue clears no flag. -/
theorem flag_queueClosed (e : EventFlag) : QueueClosed fun s => s.chan.flag e = true where
  axis _ a _ h := by cases a <;> exact h
  motion _ _ _ _ h := h
  done _ h := ChanState.flag_raise_mono h _
  endstop _ h := ChanState.flag_raise_mono h _
  homeFail _ h := ChanState.flag_raise_mono h _
  unhold s h := by
    rw [s.releaseHold_values.2.2.2.2.1]
    exact h
  hold s j h := by
    unfold State.takeHold
    split
    · split <;> exact h
    all_goals exact h
  place _ _ _ _ h := h
  unplace _ h := h

theorem State.leave_flag {s : State} {e : EventFlag} (h : s.chan.flag e = true) (old : OpState) :
    (s.leave old).chan.flag e = true := by
  cases old with
  | lit => exact (flag_queueClosed e).unhold s h
  | standby | cooldown | tripped => exact h

/-- A trip clears no flag (R173). -/
theorem State.trip_flag {s : State} {e : EventFlag} (h : s.chan.flag e = true) (cause : TripCause) :
    (s.trip cause).chan.flag e = true := by
  by_cases op : s.ctl.op = .tripped
  · rw [State.trip, if_pos op]
    exact h
  · let w := (s.setCtl { s.ctl with lastTrip := cause }).writeOp .tripped
    have eq : s.trip cause = (w.leave s.ctl.op).fullFans.abortMotion.raise .trip := by rw [State.trip, if_neg op]; rfl
    have left : (w.leave s.ctl.op).fullFans.chan.flag e = true := State.leave_flag (s := w) h s.ctl.op
    rw [eq]
    exact ChanState.flag_raise_mono ((flag_queueClosed e).abortMotion left) .trip

theorem State.endTick_flag {s : State} {e : EventFlag} (h : s.chan.flag e = true) :
    s.judgeRunOn.proceed.chan.flag e = true := by
  refine (flag_queueClosed e).proceed ?_
  rcases s.judgeRunOn_cases with k | ⟨-, k⟩ <;> rw [k]
  · exact h
  · exact ChanState.flag_raise_mono h _

/-! ### The tick as a whole -/

section

variable (s : State)

/-- A zone's record after a control tick is the one its zone controller formed, but for the accumulator where the run-on
ends (R98, R117). -/
theorem State.controlTick_zone (z : ZoneId) : s.tickFormed.judgeRunOn.proceed.zone z = s.zoneTick.zone z ∨
    s.ctl.op = .cooldown ∧ s.tickFormed.judgeRunOn.proceed.ctl.op = .standby ∧
      s.tickFormed.judgeRunOn.proceed.zone z = { s.zoneTick.zone z with acc := 0 } := by
  obtain ⟨zoneCtl, ctl, -, -⟩ := s.tickFormed_blocks
  have formed : s.tickFormed.zone z = s.zoneTick.zone z := congrArg (fun c : ZoneCtl => c.zones[z.idx]) zoneCtl
  rw [← formed]
  refine (s.tickFormed.endTick_zone z).imp_right fun ⟨op, rest⟩ => ⟨?_, rest⟩
  rw [ctl] at op
  rcases s.tickJudged_ctl with ⟨-, same⟩ | ⟨-, tripped⟩
  · rwa [← same]
  · cases op.symm.trans tripped

theorem State.controlTick_limits : s.tickFormed.judgeRunOn.proceed.zoneCtl.ceiling = s.zoneTick.zoneCtl.ceiling ∧
    s.tickFormed.judgeRunOn.proceed.zoneCtl.mode = s.ctl.acoustic := by
  obtain ⟨ceiling, mode⟩ := s.tickFormed.endTick_limits
  rw [ceiling, mode, s.tickFormed_blocks.1, s.zoneTick_mode]
  exact ⟨rfl, rfl⟩

/-- A control tick ends in TRIPPED exactly where its digital trips left it there, with the state controller as they left
it. -/
theorem State.controlTick_ctl_of_tripped :
    (s.tickFormed.judgeRunOn.proceed.ctl.op = .tripped ↔ s.tickJudged.ctl.op = .tripped) ∧
    (s.tickJudged.ctl.op = .tripped → s.tickFormed.judgeRunOn.proceed.ctl = s.tickJudged.ctl) := by
  obtain ⟨stays, back⟩ := s.tickFormed.endTick_ctl
  rw [s.tickFormed_blocks.2.1] at stays back
  exact ⟨⟨back, fun h => (congrArg StateCtl.op (stays h)).trans h⟩, stays⟩

/-- A flag that the zone controller sets at a tick is set after the tick. -/
theorem State.controlTick_flag {e : EventFlag} (h : s.zoneTick.chan.flag e = true) :
    s.tickFormed.judgeRunOn.proceed.chan.flag e = true := by
  have judged : s.tickJudged.chan.flag e = true := by
    rcases s.zoneTick.judgeDigital_cases ZoneId.all with k | ⟨-, z, k⟩ <;> rw [State.tickJudged, k]
    · exact h
    · exact State.trip_flag h _
  exact State.endTick_flag (by rwa [s.tickFormed_blocks.2.2.2])

end

end Sys2Proof.Machine
end

section
/-! PROOF. O34: a zone's temperature and demand at a control tick. -/

namespace Sys2Proof.Machine

/-! ### The zone's readings (R93) -/

theorem State.mem_zoneReadings {s : State} {z : ZoneId} {v : Int} : v ∈ s.zoneReadings z ↔
    ∃ n : Fin 12, (s.source n).zone = some z ∧ (s.source n).state = .ok ∧ (s.source n).lastGood = some v := by
  have counts (x : Source) : (if x.zone = some z ∧ x.state = .ok then x.lastGood else none) = some v ↔
      x.zone = some z ∧ x.state = .ok ∧ x.lastGood = some v := by
    split
    · rename_i h
      exact ⟨fun k => ⟨h.1, h.2, k⟩, fun k => k.2.2⟩
    · rename_i h
      exact ⟨nofun, fun k => absurd ⟨k.1, k.2.1⟩ h⟩
  simp only [State.zoneReadings, List.mem_filterMap, counts]
  constructor
  · rintro ⟨x, mem, h⟩
    obtain ⟨k, hk, rfl⟩ := Vector.mem_iff_getElem.1 (Vector.mem_toList_iff.1 mem)
    exact ⟨⟨k, hk⟩, h⟩
  · rintro ⟨n, h⟩
    exact ⟨s.source n, Vector.mem_toList_iff.2 (Vector.getElem_mem n.isLt), h⟩

/-- The largest of the readings is the zone's temperature, and there is none where there are no readings (R93). -/
theorem State.max_zoneReadings {s : State} {z : ZoneId} {temp : Option Int}
    (h : temp = none ∧ (∀ (n : Fin 12) (v : Int),
        ¬((s.source n).zone = some z ∧ (s.source n).state = .ok ∧ (s.source n).lastGood = some v)) ∨
      ∃ T, temp = some T ∧
        (∃ n : Fin 12, (s.source n).zone = some z ∧ (s.source n).state = .ok ∧ (s.source n).lastGood = some T) ∧
        ∀ (n : Fin 12) (v : Int), (s.source n).zone = some z → (s.source n).state = .ok → (s.source n).lastGood = some v → v ≤ T) :
    (s.zoneReadings z).max? = temp := by
  rcases h with ⟨rfl, none⟩ | ⟨T, rfl, reading, most⟩
  · refine List.max?_eq_none_iff.2 (List.eq_nil_iff_forall_not_mem.2 fun v hv => ?_)
    obtain ⟨n, h⟩ := State.mem_zoneReadings.1 hv
    exact none n v h
  · refine List.max?_eq_some_iff.2 ⟨State.mem_zoneReadings.2 reading, fun v hv => ?_⟩
    obtain ⟨n, zone, ok, good⟩ := State.mem_zoneReadings.1 hv
    exact most n v zone ok good

theorem State.saturated_iff (s : State) (m : BitVec 3) :
    s.saturated m = true ↔ ∀ f ∈ FanId.all, inMask m f = true → (s.fan f).atCeiling = true := by
  simp only [State.saturated, List.all_eq_true, Bool.or_eq_true, Bool.not_eq_true', ← Bool.not_eq_true, imp_iff_not_or]

/-! ### The demand (R95 to R98) -/

/-- A blind zone's temperature is absent, and the record keeps what it is not sensed for (R93). -/
theorem Zone.sense_eq (x : Zone) (readings : List Int) :
    x.sense readings = { x with temp := readings.max?, blind := readings.max?.isNone } := by
  cases readings <;> rfl

/-- A seen zone's accumulator and demand as whole numbers (R95, R96). -/
theorem Zone.regulate_values (x : Zone) {T A : Int} {sat : Bool} (load : Nat)
    (hA : A = if 0 < T - x.setpoint ∧ sat = true then (x.acc : Int) else max 0 (min (x.acc + x.ki * (T - x.setpoint)) 261888)) :
    ((x.regulate T sat load).acc : Int) = A ∧ (x.regulate T sat load).demand =
      .duty (max 0 (min ((x.kff * load / 4096 : Nat) + (x.kp * (T - x.setpoint) + 128) / 256 + A / 256) 1023)).toNat := by
  have acc : (x.integrated (T - x.setpoint) sat : Int) = A := by
    rw [hA, Zone.integrated]
    split
    · rfl
    · exact Int.toNat_of_nonneg (Int.le_max_left ..)
  refine ⟨acc, ?_⟩
  have term : (integralTerm (x.integrated (T - x.setpoint) sat) : Int) = A / 256 := by
    rw [integralTerm, Int.natCast_ediv, acc]
    rfl
  simp only [Zone.regulate, term]
  rfl

/-! ### The record after the tick -/

/-- A zone that sees and finds no readings goes blind, with ZONE_BLIND (R93). -/
theorem State.zoneTick_zoneBlind {s : State} {z : ZoneId} (seen : (s.zone z).blind = false) (none : (s.zoneReadings z).max? = none) :
    s.zoneTick.chan.flag .zoneBlind = true := by
  have goes : ZoneId.all.any s.copyMode.goesBlind = true := by
    refine List.any_eq_true.2 ⟨z, by cases z <;> decide, ?_⟩
    change (!(s.zone z).blind && (s.zoneReadings z).isEmpty) = true
    rw [seen, List.max?_eq_none_iff.1 none]
    rfl
  have raised : s.copyMode.senseZones.chan.flag .zoneBlind = true := by
    rw [State.senseZones, goes]
    exact ChanState.flag_raise ..
  have derate {u : State} (h : u.chan.flag .zoneBlind = true) : u.judgeDerate.chan.flag .zoneBlind = true := by
    unfold State.judgeDerate State.raiseIf
    split
    · split
      · exact ChanState.flag_raise_mono h _
      · exact h
    · split <;> exact h
  exact derate (u := s.copyMode.senseZones.formDemands) raised

/-- After the tick a zone's record is the one formed, its accumulator cleared where the run-on ends (R98, R117). -/
theorem State.controlTick_record {s : State} {z : ZoneId} {y : Zone} (formed : s.zoneTick.zone z = y) :
    s.tickFormed.judgeRunOn.proceed.zone z = { y with acc := (s.tickFormed.judgeRunOn.proceed.zone z).acc } ∧
    ((s.tickFormed.judgeRunOn.proceed.zone z).acc = y.acc ∨
      s.ctl.op = .cooldown ∧ s.tickFormed.judgeRunOn.proceed.ctl.op = .standby) := by
  have tick := s.controlTick_zone z
  rw [formed] at tick
  generalize s.tickFormed.judgeRunOn.proceed = t at tick
  rcases tick with e | ⟨op, op', e⟩ <;> rw [e]
  · exact ⟨rfl, .inl rfl⟩
  · exact ⟨rfl, .inr ⟨op, op'⟩⟩

/-- Settles O34: the record that the zone controller forms at the tick, and what the tick then leaves of it. -/
theorem controlTickFormsZoneDemands : Obligations.ControlTickFormsZoneDemands := by
  intro s z x temp B A live hx htemp hB hA
  subst hx
  have highest := State.max_zoneReadings htemp
  let sensed : Zone := { s.zone z with temp := temp, blind := temp.isNone }
  obtain ⟨y, hy⟩ : ∃ y, y = sensed.formDemand s.ctl.op (s.saturated (s.zone z).mask) B := ⟨_, rfl⟩
  have load : s.load (s.zone z).basis = B := by
    rw [hB]
    cases (s.zone z).basis <;> rfl
  have formed : s.zoneTick.zone z = y := by rw [s.zoneTick_zone_eq, load, Zone.sense_eq, highest, hy]
  have written : y = { sensed with acc := y.acc, demand := y.demand } := hy ▸ Zone.formDemand_eq ..
  have flag (seen : (s.zone z).blind = false) (none : temp = .none) :=
    s.controlTick_flag (State.zoneTick_zoneBlind seen (highest.trans none))
  obtain ⟨record, acc⟩ := State.controlTick_record formed
  refine ⟨_, exec_controlTick live, s.controlTick_limits.2, ?_⟩
  generalize s.tickFormed.judgeRunOn.proceed = t at record acc flag
  have demand : (t.zone z).demand = y.demand := (congrArg Zone.demand record :)
  have kept : t.zone z = { sensed with acc := (t.zone z).acc, demand := y.demand } := by
    rw [written] at record
    exact record
  refine ⟨congrArg Zone.temp kept, congrArg Zone.blind kept, flag, fun op => ?_, fun op none => ?_, fun T op some => ?_, ?_⟩
  · have rests : y = { sensed with demand := sensed.guardDemand } := hy.trans (if_pos op)
    rw [demand, acc.resolve_right fun k => (nomatch op.symm.trans k.1), rests]
    exact ⟨rfl, rfl⟩
  · subst none
    have blind : y = { sensed with demand := .duty 1023 } := hy.trans (if_neg op)
    rw [demand, blind]
    exact ⟨rfl, fun works => (acc.resolve_right fun k => works k.2).trans (congrArg Zone.acc blind :)⟩
  · subst some
    have regulated : y = sensed.regulate T (s.saturated (s.zone z).mask) B := hy.trans (if_neg op)
    have value := (hA T rfl).trans (if_congr (and_congr Iff.rfl (s.saturated_iff _).symm) rfl rfl)
    obtain ⟨acc', demand'⟩ := sensed.regulate_values B value
    rw [demand, regulated]
    exact ⟨demand', fun works => by rw [acc.resolve_right fun k => works k.2, regulated]; exact acc'⟩
  · rw [kept]
    exact ⟨rfl, rfl, rfl, rfl, rfl, rfl, rfl, rfl, rfl, rfl⟩

end Sys2Proof.Machine
end

section
/-! PROOF. O35: the derate ceiling, THERMAL and the digital trips at a control tick. -/

namespace Sys2Proof.Machine

/-! ### The zones as the ceiling and the trips are judged (R99, R100, R102) -/

/-- The part at a control tick with its zones' temperatures and demands formed. -/
def State.zonesFormed (s : State) : State := s.copyMode.senseZones.formDemands

theorem State.zonesFormed_zone (s : State) (z : ZoneId) : s.zonesFormed.zone z = s.zoneTick.zone z :=
  congrArg (fun zones : Vector Zone 3 => zones[z.idx]) s.zonesFormed.judgeDerate_zones.symm

theorem State.zonesFormed_blocks (s : State) :
    s.zonesFormed.fanDrv = s.fanDrv ∧ s.zonesFormed.zoneCtl.ceiling = s.zoneCtl.ceiling := by
  simp [State.zonesFormed, State.formDemands, State.senseZones, State.copyMode, ZoneCtl.each]

/-- The thresholds and the mask of a zone are what a control tick judges its temperature by. -/
theorem State.zoneTick_settings (s : State) (z : ZoneId) : (s.zoneTick.zone z).derate = (s.zone z).derate ∧
    (s.zoneTick.zone z).trip = (s.zone z).trip ∧ (s.zoneTick.zone z).mask = (s.zone z).mask := by
  rw [s.zoneTick_zone_eq, Zone.formDemand_eq]
  exact ⟨rfl, rfl, rfl⟩

theorem ZoneId.mem_all (z : ZoneId) : z ∈ ZoneId.all := by cases z <;> decide

theorem FanId.mem_all (f : FanId) : f ∈ FanId.all := by cases f <;> decide

theorem State.zoneDerates_iff (s : State) (z : ZoneId) : s.zoneDerates z = true ↔
    ∃ T, (s.zone z).temp = some T ∧ (s.zone z).derate ≤ T ∧ ∀ f : FanId, inMask (s.zone z).mask f = true → (s.fan f).atCeiling = true := by
  unfold State.zoneDerates
  cases (s.zone z).temp <;> simp [State.saturated_iff, FanId.mem_all]

theorem State.zoneRecovers_iff (s : State) (z : ZoneId) : s.zoneRecovers z = true ↔
    ∃ T, (s.zone z).temp = some T ∧ T < (s.zone z).derate - 32 := by
  unfold State.zoneRecovers
  cases (s.zone z).temp with
  | none => simp
  | some T =>
    simp only [decide_eq_true_eq, Option.some.injEq, exists_eq_left']
    rfl

theorem State.zoneTrips_iff (s : State) (z : ZoneId) : s.zoneTrips z = true ↔
    ∃ T, (s.zone z).temp = some T ∧ (s.zone z).trip ≤ T := by
  unfold State.zoneTrips
  cases (s.zone z).temp <;> simp

section

variable (s : State)

/-- The derate condition, by the temperatures as the tick leaves them (R99). -/
theorem State.zonesFormed_derates : s.zonesFormed.derates = true ↔
    ∃ (z : ZoneId) (T : Int), (s.tickFormed.judgeRunOn.proceed.zone z).temp = some T ∧ (s.zone z).derate ≤ T ∧
      ∀ f : FanId, inMask (s.zone z).mask f = true → (s.fan f).atCeiling = true := by
  have fan (f : FanId) : s.zonesFormed.fan f = s.fan f := congrArg (fun d : FanDrv => d.fans[f.idx]) s.zonesFormed_blocks.1
  have zone (z : ZoneId) : s.zonesFormed.zoneDerates z = true ↔
      ∃ T, (s.tickFormed.judgeRunOn.proceed.zone z).temp = some T ∧ (s.zone z).derate ≤ T ∧
        ∀ f : FanId, inMask (s.zone z).mask f = true → (s.fan f).atCeiling = true := by
    obtain ⟨derate, -, mask⟩ := s.zoneTick_settings z
    simp only [State.zoneDerates_iff, s.zonesFormed_zone, s.controlTick_zoneTemp, derate, mask, fan]
  simp only [State.derates, List.any_eq_true, ZoneId.mem_all, true_and, zone]

/-- The recovery condition, by the temperatures as the tick leaves them (R100). -/
theorem State.zonesFormed_recovers : s.zonesFormed.recovers = true ↔
    ∀ z : ZoneId, ∃ T, (s.tickFormed.judgeRunOn.proceed.zone z).temp = some T ∧ T < (s.zone z).derate - 32 := by
  have zone (z : ZoneId) : s.zonesFormed.zoneRecovers z = true ↔
      ∃ T, (s.tickFormed.judgeRunOn.proceed.zone z).temp = some T ∧ T < (s.zone z).derate - 32 := by
    simp only [State.zoneRecovers_iff, s.zonesFormed_zone, s.controlTick_zoneTemp, (s.zoneTick_settings z).1]
  simp only [State.recovers, List.all_eq_true, ZoneId.mem_all, forall_const, zone]

/-- The trip condition, by the temperatures as the tick leaves them (R102). -/
theorem State.zoneTick_trips (z : ZoneId) : s.zoneTick.zoneTrips z = true ↔
    ∃ T, (s.tickFormed.judgeRunOn.proceed.zone z).temp = some T ∧ (s.zone z).trip ≤ T := by
  simp only [State.zoneTrips_iff, s.controlTick_zoneTemp, (s.zoneTick_settings z).2.1]

end

/-! ### THERMAL (R54) -/

/-- THERMAL is the smallest of the thermal ceilings in force. -/
def State.ThermalFormed (s : State) : Prop := s.light.thermal = s.thermalCeiling

theorem Light.reform_thermal (l : Light) : l.reform.thermal = l.thermal := l.reform_limiters.2.1

theorem State.reformThermal_formed (s : State) : s.reformThermal.ThermalFormed := Light.reform_thermal _

namespace State.ThermalFormed

variable {s t : State}

theorem kept (h : s.ThermalFormed) (k : LightKept s t) : t.ThermalFormed := by
  rw [State.ThermalFormed, k.light, k.inForce]
  exact h

/-- A write of another limiter leaves THERMAL as it is formed. -/
theorem of_light (h : s.ThermalFormed) (zoneCtl : t.zoneCtl = s.zoneCtl) (fanDrv : t.fanDrv = s.fanDrv)
    (thermal : t.light.thermal = s.light.thermal) : t.ThermalFormed := by
  have inForce : t.thermalCeiling = s.thermalCeiling :=
    State.thermalCeiling_congr (congrArg ZoneCtl.ceiling zoneCtl) (congrArg ZoneCtl.blindCap zoneCtl)
      (congrArg ZoneCtl.lossCap zoneCtl) (fun _ => by rw [State.zone, zoneCtl, State.zone])
      fun _ _ => by rw [State.fan, fanDrv, State.fan]
  rw [State.ThermalFormed, thermal, inForce]
  exact h

theorem releaseHold (h : s.ThermalFormed) : s.releaseHold.ThermalFormed := by
  have thermal : s.light.release.thermal = s.light.thermal := by
    unfold Light.release
    split
    · exact Light.reform_thermal _
    · rfl
  unfold State.releaseHold
  split
  · exact h.of_light rfl rfl thermal
  · exact h

/-- The motion queue writes MOTION alone (R56). -/
theorem queueClosed : QueueClosed State.ThermalFormed where
  axis s a x h := h.kept (.of_blocks (by simp) (by simp) (by simp) (by simp) (by simp) (by simp))
  motion s m hold _ h := h.kept (.of_blocks rfl rfl rfl hold rfl rfl)
  done s h := h.kept (.of_blocks rfl rfl rfl rfl rfl rfl)
  endstop s h := h.kept (.of_blocks rfl rfl rfl rfl rfl rfl)
  homeFail s h := h.kept (.of_blocks rfl rfl rfl rfl rfl rfl)
  unhold s h := h.releaseHold
  hold s j h := by
    unfold State.takeHold
    split
    · split
      · exact h.of_light rfl rfl (Light.reform_thermal _)
      · exact h
    all_goals exact h
  place s n tag _ h := h.kept (.of_blocks rfl rfl rfl rfl rfl rfl)
  unplace s h := h.kept (.of_blocks rfl rfl rfl rfl rfl rfl)

theorem changeState (h : s.ThermalFormed) (new : OpState) : (s.changeState new).ThermalFormed := by
  have written : (s.writeOp new).ThermalFormed := h.of_light rfl rfl (Light.reform_thermal _)
  have left : ((s.writeOp new).leave s.ctl.op).ThermalFormed := by
    cases s.ctl.op with
    | lit => exact written.releaseHold
    | standby | cooldown => exact written
    | tripped => exact written.kept (State.formFans_lightKept _)
  unfold State.changeState
  generalize (s.writeOp new).leave s.ctl.op = u at left
  cases new with
  | standby =>
    have blind (z : ZoneId) : (u.clearIntegrators.zone z).blind = (u.zone z).blind :=
      (congrArg Zone.blind (u.zoneCtl.each_zones (fun _ x => { x with acc := 0 }) z) :)
    have inForce : u.clearIntegrators.thermalCeiling = u.thermalCeiling :=
      State.thermalCeiling_congr rfl rfl rfl blind fun _ _ => Iff.rfl
    exact left.trans inForce.symm
  | lit | cooldown => exact queueClosed.pump left
  | tripped =>
    exact (queueClosed.abortMotion (left.kept u.fullFans_lightKept)).kept (.of_blocks rfl rfl rfl rfl rfl rfl)

theorem trip (h : s.ThermalFormed) (cause : TripCause) : (s.trip cause).ThermalFormed := by
  have named : (s.setCtl { s.ctl with lastTrip := cause }).ThermalFormed := h.kept ⟨rfl, rfl, rfl, rfl, rfl, rfl⟩
  exact iteInduction (motive := State.ThermalFormed) (fun _ => h) fun _ => named.changeState .tripped

theorem fanTick (h : s.ThermalFormed) : s.fanTick.ThermalFormed := by
  have handed : s.handDemands.ThermalFormed := h.kept (.of_fans fun _ _ => Iff.rfl)
  exact iteInduction (motive := State.ThermalFormed) (fun _ => handed.kept (State.fullFans_lightKept _)) fun _ =>
    handed.kept (State.formFans_lightKept _)

theorem judgeRunOn (h : s.ThermalFormed) : s.judgeRunOn.ThermalFormed :=
  iteInduction (motive := State.ThermalFormed) (fun _ => h.changeState _) fun _ => h

end State.ThermalFormed

/-- A control tick forms THERMAL, and all that it does afterwards leaves it formed (R54). -/
theorem State.controlTick_thermal (s : State) : s.tickFormed.judgeRunOn.proceed.ThermalFormed := by
  have formed : s.zoneTick.ThermalFormed := State.reformThermal_formed _
  have judged : s.tickJudged.ThermalFormed := by
    rcases s.zoneTick.judgeDigital_cases ZoneId.all with e | ⟨-, z, e⟩ <;> rw [State.tickJudged, e]
    · exact formed
    · exact formed.trip _
  have sources (u : State) (h : u.ThermalFormed) : u.sourceTick.ThermalFormed := h.of_light rfl rfl rfl
  have fans := sources _ judged.fanTick
  rw [← s.tickFormed_eq_judged] at fans
  exact State.ThermalFormed.queueClosed.proceed fans.judgeRunOn

/-! ### A digital trip (R102, R121) -/

/-- After a digital trip the rest of the tick leaves the part in TRIPPED, dark, with its cause. -/
theorem State.controlTick_tripped {s : State} {z : ZoneId} (op : s.ctl.op ≠ .tripped)
    (judged : s.tickJudged = s.zoneTick.trip (.zone z)) :
    s.tickFormed.judgeRunOn.proceed.ctl.op = .tripped ∧ s.tickFormed.judgeRunOn.proceed.ctl.lastTrip = .zone z ∧
    s.tickFormed.judgeRunOn.proceed.chan.flag .trip = true ∧ s.tickFormed.judgeRunOn.proceed.light.lightEn = false ∧
    s.tickFormed.judgeRunOn.proceed.light.Dark := by
  obtain ⟨-, ctl, light, chan⟩ := s.tickFormed_blocks
  have op' : s.zoneTick.ctl.op ≠ .tripped := by rwa [s.zoneTick_values.2.2.2]
  have trip := State.trip_trippedFrom op' (.zone z)
  obtain ⟨-, -, cause⟩ := (s.zoneTick.trip_cases (.zone z)).resolve_left fun k => op' k.1
  have dark := (State.trip_blocks op' (.zone z)).2.2
  rw [← judged] at trip cause dark
  have tripped : s.tickJudged.ctl.op = .tripped := trip.op
  have formed : s.tickFormed.chan.flag .trip = true ∧ s.tickFormed.light.lightEn = false ∧ s.tickFormed.light.Dark := by
    rw [chan, light]
    exact ⟨trip.flag, trip.lightEn, dark⟩
  have stays : s.tickFormed.judgeRunOn = s.tickFormed := by
    rcases s.tickFormed.judgeRunOn_cases with e | ⟨cooldown, -⟩
    · exact e
    · rw [ctl, tripped] at cooldown
      cases cooldown
  have after := s.controlTick_ctl_of_tripped.2 tripped
  rw [after, cause, stays]
  exact ⟨rfl, rfl, (flag_queueClosed _).proceed formed.1, (lightEn_closed false).proceed formed.2.1, dark_closed.proceed formed.2.2⟩

/-- The first zone that trips, in the order of the zones' numbers. -/
theorem ZoneId.find_all_of_first {p : ZoneId → Bool} {z : ZoneId} (h : p z = true) (first : ∀ y : ZoneId, y.code < z.code → p y = false) :
    ZoneId.all.find? p = some z := by
  cases z
  · simp [ZoneId.all, h]
  · simp [ZoneId.all, h, first .light (by decide)]
  · simp [ZoneId.all, h, first .light (by decide), first .panel (by decide)]

/-- Settles O35: the ceiling's three courses, THERMAL kept formed, and the first tripping zone's trip. -/
theorem controlTickDeratesAndTrips : Obligations.ControlTickDeratesAndTrips := by
  intro s t derates recovers live he hderates hrecovers
  obtain rfl : s.tickFormed.judgeRunOn.proceed = t := Host.Outcome.next.inj ((exec_controlTick live).symm.trans he)
  rw [← s.zonesFormed_derates] at hderates
  rw [← s.zonesFormed_recovers] at hrecovers
  obtain ⟨falls, rises, stays⟩ := s.zonesFormed.judgeDerate_ceiling
  have ceiling : s.tickFormed.judgeRunOn.proceed.zoneCtl.ceiling = s.zonesFormed.judgeDerate.zoneCtl.ceiling := s.controlTick_limits.1
  rw [s.zonesFormed_blocks.2] at falls rises stays
  have steady (h : ¬derates) : s.zonesFormed.derates = false := Bool.eq_false_iff.2 (mt hderates.2 h)
  refine ⟨fun h => ?_, fun h k => ?_, fun h k => ?_, s.controlTick_thermal, fun op z trips first => ?_, fun op => ?_⟩
  · obtain ⟨low, flag⟩ := falls (hderates.1 h)
    exact ⟨ceiling.trans low, fun full => s.controlTick_flag (flag full)⟩
  · exact ceiling.trans (rises (steady h) (hrecovers.1 k))
  · exact ceiling.trans (stays (steady h) (Bool.eq_false_iff.2 (mt hrecovers.2 k)))
  · have found : ZoneId.all.find? s.zoneTick.zoneTrips = some z :=
      ZoneId.find_all_of_first ((s.zoneTick_trips z).2 trips) fun y lt => Bool.eq_false_iff.2 fun k => by
        obtain ⟨T, seen, hot⟩ := (s.zoneTick_trips y).1 k
        exact absurd hot (Int.not_le.2 (first y lt T seen))
    have judged : s.tickJudged = s.zoneTick.trip (.zone z) := by
      rw [State.tickJudged, State.judgeDigital_eq (by rwa [s.zoneTick_values.2.2.2]), found]
    obtain ⟨tripped, cause, flag, lightEn, dark⟩ := State.controlTick_tripped op judged
    exact ⟨tripped, cause, flag, lightEn, dark.2⟩
  · have same : s.tickJudged.ctl = s.ctl := by
      rcases s.tickJudged_ctl with ⟨-, e⟩ | ⟨works, -⟩
      · exact e
      · exact absurd op works
    have after := s.controlTick_ctl_of_tripped.2 (by rw [same, op])
    rw [after, same]
    exact ⟨op, rfl⟩

end Sys2Proof.Machine
end

section
/-! PROOF. O36: the fans at a control tick. -/

namespace Sys2Proof.Machine

/-! ### A requested duty formed (R105) -/

/-- A fan whose requested duty is formed takes it as `Fan.FormedFrom` says, from the largest demand on it and its ceiling in
force. -/
theorem FanDrv.formed_formedFrom (d : FanDrv) (capLost : Bool) (f : FanId) (x : Fan) :
    x.FormedFrom (d.formed capLost f x) (d.largest f x) (d.ceilingFor capLost f x) := by
  intro want floored
  have formed : d.formed capLost f x = ({ x with
      requested := min want (d.ceilingFor capLost f x)
      atCeiling := decide (x.state = .failed) || decide (d.ceilingFor capLost f x ≤ want)
      ceiling := d.ceilingFor capLost f x } : Fan).act := by subst floored; rfl
  rw [formed]
  generalize d.ceilingFor capLost f x = ceiling
  have flag : (decide (x.state = .failed) || decide (ceiling ≤ want)) = true ↔ x.state = .failed ∨ ceiling ≤ want := by
    simp only [Bool.or_eq_true, decide_eq_true_eq]
  generalize (decide (x.state = .failed) || decide (ceiling ≤ want)) = b at flag ⊢
  generalize min want ceiling = asked
  rcases Fan.act_cases { x with requested := asked, atCeiling := b, ceiling := ceiling }
    with ⟨off, zero, e⟩ | ⟨off, some, e⟩ | ⟨running, zero, e⟩ | ⟨running, some, e⟩ | ⟨rests, e⟩ <;> rw [e]
  · dsimp only at off zero
    simp [off, zero, flag]
  · refine ⟨rfl, rfl, flag, ?_⟩
    dsimp only at off some
    simp [off, some.ne', Fan.enterKick, Fan.setApplied, Config.fullDuty, Config.kickTime, Config.stallTime]
  · refine ⟨rfl, rfl, flag, ?_⟩
    dsimp only at running zero
    simp [running, zero, Fan.enterOff, Fan.setApplied]
  · refine ⟨rfl, rfl, flag, ?_⟩
    dsimp only at running some
    simp [running, some.ne', Fan.setApplied]
  · refine ⟨rfl, rfl, flag, ?_⟩
    dsimp only at rests
    rcases rests with h | h | h <;> simp [h]

theorem State.capLost_iff (s : State) :
    s.capLost = true ↔ (s.fan .f1).state = .failed ∨ (s.fan .f2).state = .failed := by
  simp [State.capLost, FanId.all, lossAction]

/-! ### The demands handed (R105, R106) -/

theorem State.zones_toList (s : State) : s.zoneCtl.zones.toList = ZoneId.all.map s.zone :=
  List.ext_getElem (by simp [ZoneId.all]) fun n h _ => by
    have small : n < 3 := by simpa using h
    interval_cases n <;> simp [ZoneId.all, State.zone] <;> rfl

section

variable (s : State) (f : FanId) (x : Fan)

/-- The demands handed are those of the zones, with their masks and blind flags (R105). -/
theorem State.handDemands_serving : s.handDemands.fanDrv.serving f =
    (ZoneId.all.filter fun z => inMask (s.zone z).mask f).map fun z => ⟨(s.zone z).demand, (s.zone z).mask, (s.zone z).blind⟩ := by
  have handed : s.handDemands.fanDrv.handed.toList =
      ZoneId.all.map fun z => (⟨(s.zone z).demand, (s.zone z).mask, (s.zone z).blind⟩ : Handed) := by
    change (s.zoneCtl.zones.map _).toList = _
    rw [Vector.toList_map, s.zones_toList, List.map_map]
    rfl
  rw [FanDrv.serving, handed, List.filter_map]
  rfl

theorem State.handDemands_largest : s.handDemands.fanDrv.largest f x =
    ((ZoneId.all.filter fun z => inMask (s.zone z).mask f).map fun z => x.demandOf (s.zone z).demand).foldl max 0 := by
  rw [FanDrv.largest, s.handDemands_serving, List.map_map]
  rfl

theorem State.handDemands_ceilingFor : s.handDemands.fanDrv.ceilingFor s.capLost f x =
    if (s.fan .f1).state = .failed ∨ (s.fan .f2).state = .failed ∨
        ∃ z ∈ ZoneId.all, inMask (s.zone z).mask f = true ∧ (s.zone z).blind = true then 1023
    else x.modeCeiling s.zoneCtl.mode := by
  have blind : ((s.handDemands.fanDrv.serving f).any fun h => h.blind) = true ↔
      ∃ z ∈ ZoneId.all, inMask (s.zone z).mask f = true ∧ (s.zone z).blind = true := by
    rw [s.handDemands_serving, List.any_map]
    simp only [List.any_eq_true, List.mem_filter, Function.comp_apply, and_assoc]
  refine if_congr ?_ rfl rfl
  rw [Bool.or_eq_true, s.capLost_iff, blind, or_assoc]

end

/-! ### The fans after the tick (R105, R106) -/

section

variable (s : State) (f : FanId)

theorem State.fanTick_fan : (s.ctl.op = .tripped → s.fanTick.fan f = (s.fan f).full) ∧
    (s.ctl.op ≠ .tripped → s.fanTick.fan f = s.handDemands.fanDrv.formed s.capLost f (s.fan f)) := by
  refine ⟨fun op => ?_, fun op => ?_⟩
  · rw [show s.fanTick = s.handDemands.fullFans from if_pos op]
    exact FanDrv.each_fans ..
  · rw [show s.fanTick = s.handDemands.formFans from if_neg op]
    exact FanDrv.each_fans ..

theorem State.zoneTick_fan : s.zoneTick.fan f = s.fan f := by
  have derate : s.zonesFormed.judgeDerate.fanDrv = s.zonesFormed.fanDrv := s.zonesFormed.judgeDerate_limits.1
  have same : s.zoneTick.fanDrv = s.fanDrv := derate.trans s.zonesFormed_blocks.1
  rw [State.fan, same, State.fan]

theorem State.controlTick_fan : s.tickFormed.judgeRunOn.proceed.fan f = s.tickJudged.fanTick.fan f := by
  have source (u : State) : u.sourceTick.fan f = u.fan f := rfl
  rw [State.endTick_fan, s.tickFormed_eq_judged, source]

/-- In TRIPPED a control tick drives every fan at full, whether it found the part there or took it there (R106). -/
theorem State.controlTick_fan_tripped (op : s.tickJudged.ctl.op = .tripped) :
    s.tickFormed.judgeRunOn.proceed.fan f = (s.fan f).full := by
  rw [s.controlTick_fan, (s.tickJudged.fanTick_fan f).1 op]
  rcases s.zoneTick.judgeDigital_cases ZoneId.all with e | ⟨works, z, e⟩ <;> rw [State.tickJudged, e]
  · rw [s.zoneTick_fan]
  · rw [(State.trip_blocks works _).2.1, s.zoneTick_fan, Fan.full_full]

end

/-- Settles O36: the duty formed from the demands that the tick hands, or full in TRIPPED. -/
theorem controlTickDrivesFans : Obligations.ControlTickDrivesFans := by
  intro s t f x largest ceiling live he hx
  subst hx
  have after : s.tickFormed.judgeRunOn.proceed = t := Host.Outcome.next.inj ((exec_controlTick live).symm.trans he)
  have tripped : t.ctl.op = .tripped ↔ s.tickJudged.ctl.op = .tripped := after ▸ s.controlTick_ctl_of_tripped.1
  refine ⟨fun op => ?_, fun _ works hlargest hceiling => ?_⟩
  · rw [← after, s.controlTick_fan_tripped f (tripped.1 op)]
    exact (s.fan f).full_cases
  · have op : s.tickJudged.ctl.op ≠ .tripped := mt tripped.2 works
    have judged : s.tickJudged = s.zoneTick := (s.tickJudged_ctl.resolve_right fun k => op k.2).1
    have formed : t.fan f = s.zoneTick.handDemands.fanDrv.formed s.zoneTick.capLost f (s.zoneTick.fan f) := by
      rw [← after, s.controlTick_fan, (s.tickJudged.fanTick_fan f).2 op, judged]
    have zone (z : ZoneId) : (t.zone z).demand = (s.zoneTick.zone z).demand ∧ (t.zone z).blind = (s.zoneTick.zone z).blind := by
      have record := (State.controlTick_record (s := s) (z := z) rfl).1
      rw [after] at record
      exact ⟨(congrArg Zone.demand record :), (congrArg Zone.blind record :)⟩
    have mask (z : ZoneId) : (s.zoneTick.zone z).mask = (s.zone z).mask := (s.zoneTick_settings z).2.2
    have fan (g : FanId) : s.zoneTick.fan g = s.fan g := s.zoneTick_fan g
    have mode : s.zoneTick.zoneCtl.mode = s.ctl.acoustic := s.zoneTick_mode
    generalize s.zoneTick = u at formed zone mask fan mode
    have asked := u.handDemands.fanDrv.formed_formedFrom u.capLost f (u.fan f)
    rw [← formed] at asked
    simp only [State.handDemands_largest, State.handDemands_ceilingFor, fan, mode, mask] at asked
    simp only [zone] at hlargest hceiling
    subst hlargest hceiling
    exact asked

end Sys2Proof.Machine
end

section
/-! PROOF. O38: WRITE_ZONE, READ_ZONE and SET_THERMAL_LIMITS. -/

namespace Sys2Proof.Machine

/-! ### Codes in packets (R178) -/

theorem ZoneId.ofCode_of_le {b : Byte} (h : 3 ≤ b.toNat) : ZoneId.ofCode b = none := by
  unfold ZoneId.ofCode
  split <;> first | omega | rfl

theorem ZoneId.ofCode_code {b : Byte} {z : ZoneId} (h : b.toNat = z.code) : ZoneId.ofCode b = some z := by
  rw [ZoneId.ofCode, h]
  cases z <;> rfl

theorem LoadBasis.ofCode_of_le {b : Byte} (h : 3 ≤ b.toNat) : LoadBasis.ofCode b = none := by
  unfold LoadBasis.ofCode
  split <;> first | omega | rfl

theorem LoadBasis.ofCode_code {b : Byte} {l : LoadBasis} (h : b.toNat = l.code) : LoadBasis.ofCode b = some l := by
  rw [LoadBasis.ofCode, h]
  cases l <;> rfl

/-! ### WRITE_ZONE (R91) -/

section

variable {s : State} {zone ki basis mask : Byte} {setpoint derate trip runOn guard kp kff : BitVec 16}

/-- The parameters of WRITE_ZONE lie within their ranges and order. -/
def ZoneParamsOk (setpoint derate trip runOn guard kp kff : BitVec 16) (mask : Byte) : Prop :=
  ((∀ v ∈ [setpoint, derate, trip, runOn, guard], -640 ≤ v.toInt ∧ v.toInt ≤ 2400) ∧ setpoint.toInt < derate.toInt ∧
    derate.toInt < trip.toInt) ∧ kp.toNat ≤ 4095 ∧ kff.toNat ≤ 4095 ∧ mask.toNat < 8

theorem zoneParamsOk_iff : (zoneThresholdsOk setpoint.toInt derate.toInt trip.toInt runOn.toInt guard.toInt &&
    zoneGainsOk kp.toNat kff.toNat mask.toNat) = true ↔ ZoneParamsOk setpoint derate trip runOn guard kp kff mask := by
  simp [zoneThresholdsOk, zoneGainsOk, plausible_iff, ZoneParamsOk, and_assoc]

theorem writeZone_refused (h : ¬ZoneParamsOk setpoint derate trip runOn guard kp kff mask ∨ 3 ≤ zone.toNat ∨ 3 ≤ basis.toNat) :
    writeZone zone setpoint derate trip runOn guard kp ki kff basis mask s = answer .refusedRange s := by
  unfold writeZone
  split
  · rename_i z b hz hb
    rcases h with h | h | h
    · exact if_neg (mt zoneParamsOk_iff.1 h)
    · cases hz.symm.trans (ZoneId.ofCode_of_le h)
    · cases hb.symm.trans (LoadBasis.ofCode_of_le h)
  · rfl

theorem writeZone_taken {z : ZoneId} {b : LoadBasis} (hz : zone.toNat = z.code) (hb : basis.toNat = b.code)
    (h : ZoneParamsOk setpoint derate trip runOn guard kp kff mask) :
    writeZone zone setpoint derate trip runOn guard kp ki kff basis mask s = (s.setZone z { s.zone z with
      setpoint := setpoint.toInt, derate := derate.toInt, trip := trip.toInt, runOn := runOn.toInt, guard := guard.toInt
      kp := kp.toNat, ki := ki.toNat, kff := kff.toNat, basis := b, mask := mask.setWidth 3 }, .ok) := by
  rw [writeZone, ZoneId.ofCode_code hz, LoadBasis.ofCode_code hb]
  exact if_pos (zoneParamsOk_iff.2 h)

end

/-! ### READ_ZONE (R92) -/

theorem exec_readZone {s : State} (takes : s.takes) (tag : Byte) {zone : Byte} {z : ZoneId} (hz : zone.toNat = z.code) (page : Fin 4) :
    exec (.readZone tag zone page) s = .next (s.onlyAnswered tag .ok (page8 ((s.zone z).page page))) := by
  refine congrArg _ (State.takePacket_same (r := .okWith (page8 ((s.zone z).page page))) takes tag ?_)
  rw [readZone, ZoneId.ofCode_code hz]
  rfl

/-! ### SET_THERMAL_LIMITS (R54, R101) -/

theorem State.anyBlind_iff (s : State) : s.anyBlind = true ↔ ∃ z ∈ ZoneId.all, (s.zone z).blind = true := by
  simp only [State.anyBlind, List.any_eq_true]

/-- The thermal ceiling by the ceilings in force (R54). -/
theorem State.thermalCeiling_eq {s : State} {c : Nat}
    (hc : c = if ∃ z ∈ ZoneId.all, (s.zone z).blind = true then min s.zoneCtl.ceiling s.zoneCtl.blindCap else s.zoneCtl.ceiling) :
    s.thermalCeiling = if (s.fan .f1).state = .failed ∨ (s.fan .f2).state = .failed then min c s.zoneCtl.lossCap else c := by
  simp only [← s.anyBlind_iff] at hc
  simp only [← s.capLost_iff]
  rw [hc]
  rfl

/-- THERMAL formed where the applied level stands at or below the limiters that cut it (R54, R55, R58). -/
theorem Light.setThermal_of_le {l : Light} (n : Nat) (safety : l.applied ≤ l.safety) (motion : l.applied ≤ l.motion) :
    (l.setThermal n).thermal = n ∧ (l.setThermal n).target = min (min l.safety l.motion) (min n l.user) ∧
    l.setThermal n = { l with thermal := (l.setThermal n).thermal, target := (l.setThermal n).target
                              governing := (l.setThermal n).governing } := by
  have formed : l.setThermal n = _ := Light.reform_of_le (l := { l with thermal := n }) safety motion
  rw [formed]
  exact ⟨rfl, rfl, rfl⟩

/-- Settles O38: each command as the zone controller takes it. -/
theorem zoneCommands : Obligations.ZoneCommands := by
  intro s tag zone sp de tr ro gu kp ki kff basis mask blindCap lossCap takes
  refine ⟨fun out => ?_, fun high page => ?_, fun z hz => ⟨fun b hb range rises rises' hkp hkff hmask => ?_, ?_, ?_, ?_, ?_⟩,
    fun out => ?_, fun blind loss safety motion => ?_⟩
  · refine congrArg _ (State.takePacket_answer takes tag (writeZone_refused ?_))
    rcases out with high | ⟨v, mem, beyond⟩ | order | order | high | high | high | high
    · exact .inr (.inl high)
    · refine .inl fun ⟨⟨range, _⟩, _⟩ => ?_
      have := range v mem
      omega
    · exact .inl fun ⟨⟨_, rises, _⟩, _⟩ => Int.not_lt.2 order rises
    · exact .inl fun ⟨⟨_, _, rises⟩, _⟩ => Int.not_lt.2 order rises
    · exact .inl fun ⟨_, low, _⟩ => Nat.not_lt.2 low high
    · exact .inl fun ⟨_, _, low, _⟩ => Nat.not_lt.2 low high
    · exact .inr (.inr high)
    · exact .inl fun ⟨_, _, _, low⟩ => Nat.not_lt.2 high low
  · refine congrArg _ (State.takePacket_answer takes tag ?_)
    rw [readZone, ZoneId.ofCode_of_le high]
  · exact congrArg _ (State.takePacket_work takes tag (writeZone_taken hz hb ⟨⟨range, rises, rises'⟩, hkp, hkff, hmask⟩))
  · exact (exec_readZone takes tag hz 0).trans (by rw [page8_filled 0 rfl]; rfl)
  · exact (exec_readZone takes tag hz 1).trans (by rw [page8_filled 0 rfl, List.replicate_zero, List.append_nil]; rfl)
  · refine (exec_readZone takes tag hz 2).trans ?_
    rw [page8_filled 1 (by simp [Zone.page, tempBytes_length, byte, be24, be16, flagByte])]
    rfl
  · refine (exec_readZone takes tag hz 3).trans ?_
    have length (d : Demand) : d.bytes.length = 2 := by cases d <;> rfl
    rw [page8_filled 4 (by simp [Zone.page, length, be16]), Zone.page]
    cases (s.zone z).demand <;> rfl
  · exact congrArg _ (State.takePacket_answer takes tag (if_neg fun ⟨blind, loss⟩ =>
      out.elim (Nat.not_lt.2 blind) (Nat.not_lt.2 loss)))
  · let u := s.countTaken.setZoneCtl { s.zoneCtl with blindCap := blindCap.toNat, lossCap := lossCap.toNat }
    have taken : setThermalLimits blindCap lossCap s.countTaken = (u.reformThermal, .ok) := if_pos ⟨blind, loss⟩
    obtain ⟨thermal, target, rest⟩ := Light.setThermal_of_le u.thermalCeiling safety motion
    refine ⟨s.light.setThermal u.thermalCeiling, congrArg _ (State.takePacket_work takes tag taken), fun c hc => ?_, ?_, ?_⟩
    · exact thermal.trans (State.thermalCeiling_eq (s := u) hc)
    · rw [target, thermal]
    · rw [rest]
      exact ⟨rfl, rfl, rfl, rfl⟩

end Sys2Proof.Machine
end

section
/-! PROOF. O39: the fans' timers, stalls and failures. -/

namespace Sys2Proof.Machine

section

variable {s : State} (live : s.resetAsserted = false) (f : FanId)
include live

/-! ### The kick, pause and retry-clear timers (R107, R108, R110) -/

theorem exec_kickTimerExpiry (kick : (s.fan f).state = .kick) : exec (.kickTimerExpiry f) s =
    .next (s.setFan f (if (s.fan f).requested = 0 then (s.fan f).enterOff else (s.fan f).enterRunning)) := by
  have expired : (s.fan f).kickExpired = _ := if_pos kick
  rw [← expired]
  exact congrArg _ (State.whenLive_of_live live _)

theorem exec_pauseTimerExpiry (pause : (s.fan f).state = .pause) : exec (.pauseTimerExpiry f) s =
    .next (s.setFan f (if (s.fan f).requested = 0 then (s.fan f).enterOff else (s.fan f).enterKick)) := by
  have expired : (s.fan f).pauseExpired = _ := if_pos pause
  rw [← expired]
  exact congrArg _ (State.whenLive_of_live live _)

theorem exec_retryClearTimerExpiry (running : (s.fan f).state = .running) : exec (.retryClearTimerExpiry f) s =
    .next (s.setFan f { s.fan f with retry := 0, clearTimer := none }) := by
  have expired : (s.fan f).clearExpired = _ := if_pos running
  rw [← expired]
  exact congrArg _ (State.whenLive_of_live live _)

/-! ### Stalls (R109, R110) -/

theorem exec_stallTimerExpiry (turns : (s.fan f).state = .kick ∨ (s.fan f).state = .running) :
    exec (.stallTimerExpiry f) s = .next (s.stall f) := by
  have stalls : s.stallExpired f = s.stall f := by
    unfold State.stallExpired
    rcases turns with h | h <;> rw [h]
  rw [← stalls]
  exact congrArg _ (State.whenLive_of_live live _)

end

theorem State.stall_of_lt {s : State} {f : FanId} (h : (s.fan f).retry < 3) :
    s.stall f = (s.raise .fanFault).setFan f ((s.fan f).tryAgain s.ctl.op) := if_pos h

theorem State.stall_of_eq {s : State} {f : FanId} (h : (s.fan f).retry = 3) : s.stall f = (s.raise .fanFault).failFan f :=
  if_neg (by omega)

/-! ### Failures (R111) -/

/-- Driving a FAILED fan at full leaves it FAILED, with its duty and timers (R106). -/
theorem Fan.full_of_failed {x : Fan} (h : x.state = .failed) :
    x.full = { x with requested := 1023, atCeiling := true, ceiling := 1023 } := by
  simp [Fan.full, Fan.act, h, Config.fullDuty]

/-- The failure of F1 or F2 forms THERMAL afresh under the loss cap (R54, R111). -/
theorem State.failFan_cap {s : State} {f : FanId} (h : f ≠ .f0) :
    s.failFan f = (s.setFan f (s.fan f).enterFailed).reformThermal ∧ (s.failFan f).light.thermal = (s.failFan f).thermalCeiling ∧
    (s.failFan f).light.thermal ≤ s.zoneCtl.lossCap ∧
    (s.failFan f).light.target = min (min s.light.safety s.light.motion) (min (s.failFan f).light.thermal s.light.user) := by
  have fails : s.failFan f = (s.setFan f (s.fan f).enterFailed).reformThermal := by
    cases f
    · exact absurd rfl h
    all_goals rfl
  let u := s.setFan f (s.fan f).enterFailed
  have lost : u.capLost = true := by
    have failed : (u.fan f).state = .failed := by rw [State.fan_setFan]; rfl
    rw [State.capLost_iff]
    cases f
    · exact absurd rfl h
    · exact .inl failed
    · exact .inr failed
  have low : u.thermalCeiling ≤ s.zoneCtl.lossCap := by
    simp only [State.thermalCeiling, lost, if_true]
    exact Nat.min_le_right ..
  have thermal : u.reformThermal.light.thermal = u.thermalCeiling := Light.reform_thermal _
  refine ⟨fails, ?_⟩
  rw [fails]
  refine ⟨State.reformThermal_formed u, thermal.trans_le low, ?_⟩
  rw [thermal]
  have target (l : Light) (n : Nat) : (l.setThermal n).target = min (min l.safety l.motion) (min n l.user) := by
    rw [Light.setThermal, Light.reform_eq]
    rfl
  exact target ..

/-- The failure of F0 trips the part from LIT alone (R111, R122). -/
theorem State.failFan_f0 (s : State) : s.failFan .f0 =
    if s.ctl.op = .lit then (s.setFan .f0 (s.fan .f0).enterFailed).trip .fanLoss else s.setFan .f0 (s.fan .f0).enterFailed := rfl

/-- Whatever its loss action does, a fan that fails stays at rest with its timers stopped (R106, R111). -/
theorem State.failFan_fan (s : State) (f : FanId) : (s.failFan f).fan f = (s.fan f).enterFailed ∨
    (s.failFan f).fan f = (s.fan f).enterFailed.full := by
  cases f with
  | f0 =>
    rw [State.failFan_f0]
    split
    · rename_i lit
      have op : (s.setFan .f0 (s.fan .f0).enterFailed).ctl.op ≠ .tripped := by simp [lit]
      rw [(State.trip_blocks op .fanLoss).2.1, State.fan_setFan]
      exact .inr rfl
    · rw [State.fan_setFan]
      exact .inl rfl
  | f1 | f2 => exact .inl (State.fan_setFan ..)

theorem State.failFan_flag {s : State} {e : EventFlag} (h : s.chan.flag e = true) (f : FanId) : (s.failFan f).chan.flag e = true := by
  cases f with
  | f0 =>
    rw [State.failFan_f0]
    split
    · exact State.trip_flag (s := s.setFan .f0 (s.fan .f0).enterFailed) h _
    · exact h
  | f1 | f2 => exact h

/-- A failed fan is at rest, its timers stopped (R111). -/
def Fan.AtRest (x : Fan) (retry : Nat) : Prop :=
  x.state = .failed ∧ x.applied = 0 ∧ x.atCeiling = true ∧ x.retry = retry ∧ x.kickTimer = none ∧ x.stallTimer = none ∧
    x.pauseTimer = none ∧ x.clearTimer = none

theorem State.failFan_atRest (s : State) (f : FanId) : ((s.failFan f).fan f).AtRest (s.fan f).retry := by
  rcases s.failFan_fan f with e | e <;> rw [e]
  · exact ⟨rfl, rfl, rfl, rfl, rfl, rfl, rfl, rfl⟩
  · rw [Fan.full_of_failed rfl]
    exact ⟨rfl, rfl, rfl, rfl, rfl, rfl, rfl, rfl⟩

/-- Settles O39: each expiry by the state of its fan, and the failure by its loss action. -/
theorem fanTimersAndStalls : Obligations.FanTimersAndStalls := by
  intro s f x off kick live hx hoff hkick
  subst hx hoff hkick
  refine ⟨fun k none => ?_, fun k asked => ?_, fun k none => ?_, fun k asked => ?_, fun k => exec_retryClearTimerExpiry live f k,
    fun turns => ⟨fun left works => ?_, fun left op => ?_, fun last => ?_⟩⟩
  · rw [exec_kickTimerExpiry live f k, if_pos none]
    rfl
  · rw [exec_kickTimerExpiry live f k, if_neg asked]
    rfl
  · rw [exec_pauseTimerExpiry live f k, if_pos none]
    rfl
  · rw [exec_pauseTimerExpiry live f k, if_neg asked]
    rfl
  · rw [exec_stallTimerExpiry live f turns, State.stall_of_lt left, Fan.tryAgain, if_neg works]
    rfl
  · rw [exec_stallTimerExpiry live f turns, State.stall_of_lt left, Fan.tryAgain, if_pos op]
    rfl
  · let u := s.raise .fanFault
    obtain ⟨failed, applied, atCeiling, retry, kick, stall, pause, clear⟩ := u.failFan_atRest f
    have flag : u.chan.flag .fanFault = true := ChanState.flag_raise ..
    refine ⟨u.failFan f, (exec_stallTimerExpiry live f turns).trans (by rw [State.stall_of_eq last]), failed, applied, atCeiling,
      retry.trans last, kick, stall, pause, clear, State.failFan_flag flag f, fun f0 lit => ?_, fun f0 dark => ?_, fun cap => ?_⟩
    · subst f0
      let v := u.setFan .f0 (u.fan .f0).enterFailed
      have op : v.ctl.op ≠ .tripped := fun k => nomatch (lit.symm.trans k : OpState.lit = .tripped)
      have fails : u.failFan .f0 = v.trip .fanLoss := if_pos lit
      obtain ⟨-, -, ctl⟩ := (v.trip_cases .fanLoss).resolve_left fun k => op k.1
      have trip := State.trip_trippedFrom op .fanLoss
      rw [fails]
      exact ⟨ctl, trip.flag, trip.lightEn⟩
    · subst f0
      have fails : u.failFan .f0 = u.setFan .f0 (u.fan .f0).enterFailed := if_neg dark
      rw [fails]
      exact ⟨rfl, rfl⟩
    · obtain ⟨fails, formed, low, target⟩ := State.failFan_cap (s := u) cap
      refine ⟨?_, formed, low, target⟩
      rw [fails]
      rfl

end Sys2Proof.Machine
end

section
/-! PROOF. O40: the tachometers, WRITE_FAN, CLEAR_FAN and READ_FAN. -/

namespace Sys2Proof.Machine

/-! ### Tach edges (R109, R114) -/

theorem Fan.selects_iff (x : Fan) (rise : Bool) : x.selects rise = true ↔
    x.edgeSel = .rising ∧ rise = true ∨ x.edgeSel = .falling ∧ rise = false ∨ x.edgeSel = .both := by
  unfold Fan.selects
  cases x.edgeSel <;> simp

section

variable {s : State} {f : FanId} {micros v : Nat}

/-- A selected edge writes the speed it measures, holds itself, and draws a free value where the interval is 0. -/
theorem State.selectedEdge_eq {draws : Bool}
    (speed : (if (s.fan f).edgeHeld then
      (if micros ≤ 1000000 then (s.fan f).speedOver micros (Config.freeSpeed s.freeCount) else 0) else (s.fan f).speed) = v)
    (free : (s.fan f).drawsFree micros = draws) :
    s.selectedEdge f micros = (s.setFan f { s.fan f with
      speed := v, edgeHeld := true, stallTimer := (s.fan f).stallTimer.map fun _ => 1000 }).drawFreeIf draws := by
  rw [State.selectedEdge, free, ← speed]
  rfl

theorem Fan.drawsFree_of_pos {x : Fan} (some : 1 ≤ micros) (edges : 1 ≤ x.edges) : x.drawsFree micros = false := by
  have : micros * x.edges ≠ 0 := (Nat.mul_pos some edges).ne'
  simp [Fan.drawsFree, this]

theorem Fan.speedOver_of_pos {x : Fan} (some : 1 ≤ micros) (edges : 1 ≤ x.edges) (free : Nat) :
    x.speedOver micros free = 60000000 / (micros * x.edges) := if_neg (Nat.mul_pos some edges).ne'

end

/-! ### Codes in packets (R178) -/

theorem FanId.ofCode_of_le {b : Byte} (h : 3 ≤ b.toNat) : FanId.ofCode b = none := by
  unfold FanId.ofCode
  split <;> first | omega | rfl

theorem FanId.ofCode_idx {b : Byte} {f : FanId} (h : b.toNat = f.idx.val) : FanId.ofCode b = some f := by
  rw [FanId.ofCode, h]
  cases f <;> rfl

theorem TachSelect.ofCode_of_le {b : Byte} (h : 3 ≤ b.toNat) : TachSelect.ofCode b = none := by
  unfold TachSelect.ofCode
  split <;> first | omega | rfl

theorem TachSelect.ofCode_code {b : Byte} {e : TachSelect} (h : b.toNat = e.code) : TachSelect.ofCode b = some e := by
  rw [TachSelect.ofCode, h]
  cases e <;> rfl

/-! ### WRITE_FAN (R104) -/

section

variable {s : State} {fan mayStop current edges edgeSel : Byte} {minDuty quiet standard high : BitVec 16}

/-- The parameters of WRITE_FAN lie within their ranges, the minimum duty at or below every ceiling. -/
def FanParamsOk (minDuty quiet standard high : BitVec 16) (edges : Byte) : Prop :=
  ((∀ d ∈ [minDuty, quiet, standard, high], 1 ≤ d.toNat ∧ d.toNat ≤ 1023) ∧
    ∀ d ∈ [quiet, standard, high], minDuty.toNat ≤ d.toNat) ∧ 1 ≤ edges.toNat ∧ edges.toNat ≤ 8

theorem fanParamsOk_iff : (fanDutiesOk minDuty.toNat quiet.toNat standard.toNat high.toNat = true ∧ 1 ≤ edges.toNat ∧
    edges.toNat ≤ 8) ↔ FanParamsOk minDuty quiet standard high edges := by
  rw [fanDutiesOk_iff]
  simp [FanParamsOk]

theorem writeFan_refused (h : ¬FanParamsOk minDuty quiet standard high edges ∨ 3 ≤ fan.toNat ∨ 3 ≤ edgeSel.toNat) :
    writeFan fan minDuty mayStop quiet standard high current edges edgeSel s = answer .refusedRange s := by
  unfold writeFan
  split
  · rename_i f e hf he
    rcases h with h | h | h
    · exact if_neg (mt fanParamsOk_iff.1 h)
    · cases hf.symm.trans (FanId.ofCode_of_le h)
    · cases he.symm.trans (TachSelect.ofCode_of_le h)
  · rfl

theorem writeFan_taken {f : FanId} {e : TachSelect} (hf : fan.toNat = f.idx.val) (he : edgeSel.toNat = e.code)
    (h : FanParamsOk minDuty quiet standard high edges) :
    writeFan fan minDuty mayStop quiet standard high current edges edgeSel s = (s.setFan f { s.fan f with
      minDuty := minDuty.toNat, mayStop := decide (mayStop ≠ 0), quiet := quiet.toNat, standard := standard.toNat
      high := high.toNat, current := current.toNat, edges := edges.toNat, edgeSel := e, edgeHeld := false, speed := 0 }, .ok) := by
  rw [writeFan, FanId.ofCode_idx hf, TachSelect.ofCode_code he]
  exact if_pos (fanParamsOk_iff.2 h)

end

/-! ### READ_FAN (R115) -/

theorem exec_readFan {s : State} (takes : s.takes) (tag : Byte) {fan : Byte} {f : FanId} (hf : fan.toNat = f.idx.val) (page : Fin 4) :
    exec (.readFan tag fan page) s = .next (s.onlyAnswered tag .ok (page8 ((s.fan f).page f page))) := by
  refine congrArg _ (State.takePacket_same (r := .okWith (page8 ((s.fan f).page f page))) takes tag ?_)
  rw [readFan, FanId.ofCode_idx hf]
  rfl

/-! ### CLEAR_FAN (R54, R112) -/

theorem Fan.cleared_eq (x : Fan) (op : OpState) : x.cleared op =
    if op = .tripped then { x with
      state := .kick, retry := 0, requested := 1023, atCeiling := true, ceiling := 1023, applied := 1023, pwmBuffer := 1023
      kickTimer := some 400, stallTimer := some 1000, pauseTimer := none, clearTimer := none }
    else { x with state := .off, retry := 0, atCeiling := false } := rfl

/-- Whatever the operating state, a cleared fan is no longer FAILED. -/
theorem Fan.cleared_state (x : Fan) (op : OpState) : (x.cleared op).state ≠ .failed := by
  rw [Fan.cleared_eq]
  split <;> exact nofun

theorem State.thermalCeiling_of_capLost {s t : State} (zoneCtl : t.zoneCtl = s.zoneCtl) (capLost : t.capLost = s.capLost) :
    t.thermalCeiling = s.thermalCeiling := by
  have blind : t.anyBlind = s.anyBlind := by simp only [State.anyBlind, State.zone, zoneCtl]
  rw [State.thermalCeiling, zoneCtl, blind, capLost]
  rfl

/-- THERMAL formed at the value it has leaves a formed drive as it is (R55, R58). -/
theorem Light.Formed.setThermal_same {l : Light} (h : l.Formed) : l.setThermal l.thermal = l := by
  have formed : l.setThermal l.thermal = { l with target := l.lowest, governing := l.governor } :=
    Light.reform_of_le (l := l) h.safety h.motion
  rw [formed, ← h.target, ← h.governing]

section

variable {s : State} {f : FanId} {x : Fan}

/-- Where another CAP fan is FAILED, and for F0, a fan's record does not decide the loss cap (R54). -/
theorem State.capLost_setFan_same
    (other : f = .f0 ∨ (f = .f1 ∧ (s.fan .f2).state = .failed) ∨ (f = .f2 ∧ (s.fan .f1).state = .failed)) :
    (s.setFan f x).capLost = s.capLost := by
  rw [Bool.eq_iff_iff, State.capLost_iff, State.capLost_iff]
  rcases other with rfl | ⟨rfl, other⟩ | ⟨rfl, other⟩
  · rw [s.fan_setFan_of_ne (by decide), s.fan_setFan_of_ne (by decide)]
  · rw [s.fan_setFan_of_ne (g := .f2) (by decide)]
    exact iff_of_true (.inr other) (.inr other)
  · rw [s.fan_setFan_of_ne (g := .f1) (by decide)]
    exact iff_of_true (.inl other) (.inl other)

/-- The only CAP fan that was FAILED takes the loss cap with it when it is cleared (R54, R112). -/
theorem State.capLost_setFan_none (cleared : x.state ≠ .failed) (f1 : f = .f1 → (s.fan .f2).state ≠ .failed)
    (f2 : f = .f2 → (s.fan .f1).state ≠ .failed) (f0 : f ≠ .f0) : ¬(((s.setFan f x).fan .f1).state = .failed ∨ ((s.setFan f x).fan .f2).state = .failed) := by
  cases f with
  | f0 => exact absurd rfl f0
  | f1 =>
    rw [s.fan_setFan, s.fan_setFan_of_ne (by decide)]
    exact not_or.2 ⟨cleared, f1 rfl⟩
  | f2 =>
    rw [s.fan_setFan, s.fan_setFan_of_ne (by decide)]
    exact not_or.2 ⟨f2 rfl, cleared⟩

end

theorem exec_clearFan {s : State} (takes : s.takes) (tag : Byte) {fan : Byte} {f : FanId} (hf : fan.toNat = f.idx.val) :
    ((s.fan f).state ≠ .failed → exec (.clearFan tag fan) s = .next (s.onlyAnswered tag .ok [])) ∧
    ((s.fan f).state = .failed → exec (.clearFan tag fan) s = .next { s.setFan f ((s.fan f).cleared s.ctl.op) with
      light := s.light.setThermal (s.setFan f ((s.fan f).cleared s.ctl.op)).thermalCeiling, chan := s.answered tag .ok [] }) := by
  have taken : clearFan fan s.countTaken = (s.countTaken.clearFan f, .ok) := by rw [clearFan, FanId.ofCode_idx hf]
  refine ⟨fun works => ?_, fun failed => ?_⟩
  · have same : s.countTaken.clearFan f = s.countTaken := if_neg works
    exact congrArg _ (State.takePacket_same (r := .ok) takes tag (taken.trans (by rw [same])))
  · have clears : s.countTaken.clearFan f = (s.countTaken.setFan f ((s.fan f).cleared s.ctl.op)).reformThermal := if_pos failed
    exact congrArg _ (State.takePacket_work takes tag (taken.trans (by rw [clears])))

/-- Settles O40: the edges by what the fan selects and holds, and each command as the fan drivers take it. -/
theorem tachometerAndFanCommands : Obligations.TachometerAndFanCommands := by
  intro s f x tag fan minDuty mayStop quiet standard high current edges edgeSel hx
  subst hx
  refine ⟨fun rise micros selected live hselected => ?_, fun takes beyond => ⟨?_, ?_, fun page => ?_⟩, fun takes hf =>
    ⟨fun out => ?_, fun e he range least low most => ?_, (exec_clearFan takes tag hf).1, fun failed => ?_, ?_, ?_, ?_, ?_⟩⟩
  · rw [← Fan.selects_iff] at hselected
    have edge (h : selected) : exec (.tachEdge f ⟨rise, micros⟩) s = .next (s.selectedEdge f micros) :=
      congrArg _ ((State.whenLive_of_live live _).trans (if_pos (hselected.1 h)))
    refine ⟨fun h => ?_, fun h held late some => ?_, fun h first => ?_, fun h held some soon some' => ?_, fun h held zero => ?_, ?_⟩
    · exact congrArg _ ((State.whenLive_of_live live _).trans (if_neg (mt hselected.2 h)))
    · rw [edge h, State.selectedEdge_eq (by rw [if_pos held, if_neg (Nat.not_le.2 late)])
        (Fan.drawsFree_of_pos (by omega) some)]
      rfl
    · rw [edge h, State.selectedEdge_eq (draws := false) (if_neg (by simp [first])) (by simp [Fan.drawsFree, first])]
      rfl
    · rw [edge h, State.selectedEdge_eq (by rw [if_pos held, if_pos soon, Fan.speedOver_of_pos some some'])
        (Fan.drawsFree_of_pos some some')]
      rfl
    · subst zero
      refine ⟨min (Config.freeSpeed s.freeCount) 60000000, Nat.min_le_right .., ?_⟩
      rw [edge h, State.selectedEdge_eq (draws := true) (v := min (Config.freeSpeed s.freeCount) 60000000)
        ((if_pos held).trans ((if_pos (Nat.zero_le _)).trans (if_pos (Nat.zero_mul _)))) (by simp [Fan.drawsFree, held])]
      rfl
    · exact congrArg _ (State.whenLive_of_live live _)
  · exact congrArg _ (State.takePacket_answer takes tag (writeFan_refused (.inr (.inl beyond))))
  · exact congrArg _ (State.takePacket_answer takes tag (by rw [clearFan, FanId.ofCode_of_le beyond]))
  · exact congrArg _ (State.takePacket_answer takes tag (by rw [readFan, FanId.ofCode_of_le beyond]))
  · refine congrArg _ (State.takePacket_answer takes tag (writeFan_refused ?_))
    rcases out with ⟨d, mem, beyond⟩ | ⟨d, mem, below⟩ | none | many | unknown
    · refine .inl fun ⟨⟨range, _⟩, _⟩ => ?_
      have := range d mem
      omega
    · exact .inl fun ⟨⟨_, least⟩, _⟩ => Nat.not_le.2 below (least d mem)
    · exact .inl fun ⟨_, least, _⟩ => absurd none (by omega)
    · exact .inl fun ⟨_, _, few⟩ => Nat.not_le.2 many few
    · exact .inr (.inr unknown)
  · exact congrArg _ (State.takePacket_work takes tag (writeFan_taken hf he ⟨⟨range, least⟩, low, most⟩))
  · let y := (s.fan f).cleared s.ctl.op
    let u := s.setFan f y
    have cleared : y.state ≠ .failed := (s.fan f).cleared_state s.ctl.op
    refine ⟨s.light.setThermal u.thermalCeiling, (exec_clearFan takes tag hf).2 failed, fun ok other => ?_,
      fun f1 f2 f0 safety motion => ?_⟩
    · obtain ⟨formed, fit, -⟩ := s.lightOk_iff.1 ok
      have inForce : u.thermalCeiling = s.thermalCeiling :=
        State.thermalCeiling_of_capLost rfl (State.capLost_setFan_same other)
      rw [inForce, ← fit.thermal]
      exact formed.setThermal_same
    · obtain ⟨thermal, target, rest⟩ := Light.setThermal_of_le u.thermalCeiling safety motion
      have inForce : u.thermalCeiling = _ := State.thermalCeiling_eq (s := u) rfl
      refine ⟨rest, ?_, by rw [target, thermal]⟩
      rw [thermal, inForce, if_neg (State.capLost_setFan_none cleared f1 f2 f0)]
      rfl
  · exact (exec_readFan takes tag hf 0).trans (by rw [page8_filled 0 rfl, List.replicate_zero, List.append_nil]; rfl)
  · refine (exec_readFan takes tag hf 1).trans ?_
    rw [page8_filled 0 rfl, List.replicate_zero, List.append_nil]
    cases f <;> rfl
  · exact (exec_readFan takes tag hf 2).trans (by rw [page8_filled 2 rfl]; rfl)
  · exact (exec_readFan takes tag hf 3).trans (by rw [page8_filled 4 rfl]; rfl)

end Sys2Proof.Machine
end

section
/-! PROOF. O22 and O27: the steps that clear no event flag and do not light the part. -/

namespace Sys2Proof.Machine

/-! ### Flags kept, and a part that is not lit -/

/-- No flag is cleared, and a part in LIT was in LIT before (R117, R173). -/
structure Steady (s t : State) : Prop where
  flags : ∀ e, s.chan.flag e = true → t.chan.flag e = true
  unlit : t.ctl.op = .lit → s.ctl.op = .lit

namespace Steady

variable {s t u : State}

theorem refl (s : State) : Steady s s := ⟨fun _ => id, id⟩

theorem trans (h : Steady s t) (k : Steady t u) : Steady s u := ⟨fun e => k.flags e ∘ h.flags e, h.unlit ∘ k.unlit⟩

theorem ite {p : Prop} [Decidable p] {a b : State} (ha : Steady s a) (hb : Steady s b) : Steady s (if p then a else b) :=
  iteInduction (motive := Steady s) (fun _ => ha) fun _ => hb

/-- A change of neither the flags nor the operating state. -/
theorem of_eq (flags : t.chan.flags = s.chan.flags) (op : t.ctl.op = s.ctl.op) : Steady s t :=
  ⟨fun e h => (congrArg (BitVec.getLsbD · e.bit) flags).trans h, op.symm.trans⟩

/-- A flag raised (R173). -/
theorem raise (s : State) (e : EventFlag) : Steady s (s.raise e) := ⟨fun _ h => ChanState.flag_raise_mono h e, id⟩

/-- The motion queue clears no flag and leaves the operating state. -/
theorem queueClosed (s : State) : QueueClosed (Steady s) where
  axis _ a _ h := by cases a <;> exact h.trans (.of_eq rfl rfl)
  motion _ _ _ _ h := h.trans (.of_eq rfl rfl)
  done _ h := h.trans (.raise ..)
  endstop _ h := h.trans (.raise ..)
  homeFail _ h := h.trans (.raise ..)
  unhold _ h := h.trans (.ite (.of_eq rfl rfl) (.refl _))
  hold t j h := by
    unfold State.takeHold
    split
    · exact h.trans (.ite (.of_eq rfl rfl) (.refl _))
    all_goals exact h
  place _ _ _ _ h := h.trans (.of_eq rfl rfl)
  unplace _ h := h.trans (.of_eq rfl rfl)

end Steady

/-! ### Changes of operating state, trips and resets (R117, R121, R130) -/

theorem State.arrive_flag {s : State} {e : EventFlag} (h : s.chan.flag e = true) (new : OpState) :
    (s.arrive new).chan.flag e = true := by
  cases new with
  | standby => exact ChanState.flag_raise_mono h _
  | lit | cooldown => exact (flag_queueClosed e).pump h
  | tripped => exact ChanState.flag_raise_mono ((flag_queueClosed e).abortMotion (s := s.fullFans) h) _

/-- A change of operating state clears no flag (R173). -/
theorem State.changeState_flag {s : State} {e : EventFlag} (h : s.chan.flag e = true) (new : OpState) :
    (s.changeState new).chan.flag e = true :=
  State.arrive_flag (State.leave_flag (s := s.writeOp new) h s.ctl.op) new

theorem State.changeState_op (s : State) (new : OpState) : (s.changeState new).ctl.op = new :=
  congrArg StateCtl.op (s.changeState_frame new).2

theorem State.changeState_steady (s : State) {new : OpState} (dark : new ≠ .lit) : Steady s (s.changeState new) :=
  ⟨fun _ h => State.changeState_flag h new, fun lit => absurd ((s.changeState_op new).symm.trans lit) dark⟩

theorem State.trip_steady (s : State) (cause : TripCause) : Steady s (s.trip cause) := by
  have named : Steady s (s.setCtl { s.ctl with lastTrip := cause }) := .of_eq rfl rfl
  exact .ite (.refl s) (named.trans (State.changeState_steady _ nofun))

theorem State.judgeComparator_steady (s : State) : Steady s s.judgeComparator := by
  have set (c : Comparator) : Steady s (s.setComparator c) := .of_eq rfl rfl
  rcases s.judgeComparator_cases with ⟨-, -, e⟩ | ⟨-, -, e⟩ | ⟨-, e⟩ <;> rw [e]
  · exact (set _).trans (State.trip_steady _ _)
  · exact set _
  · exact .refl s

/-- A reset leaves the part dark: in STANDBY, or in TRIPPED where the comparator trips (R86, R129). -/
theorem State.applyReset_op (s : State) : s.applyReset.ctl.op ≠ .lit := fun lit =>
  nomatch (State.judgeComparator_steady s.abandonBus.resetBlocks).unlit lit

theorem State.assertReset_steady (s : State) : Steady s s.assertReset := by
  apply Steady.of_eq <;> simp [State.assertReset, State.abandonBus]

/-! ### Fans, the control tick and the silence counter -/

theorem State.stallExpired_steady (s : State) (f : FanId) : Steady s (s.stallExpired f) := by
  have failed (t : State) : Steady t (t.failFan f) := by
    have set : Steady t (t.setFan f (t.fan f).enterFailed) := .of_eq rfl rfl
    unfold State.failFan
    dsimp only
    split
    · exact set.trans (.ite (State.trip_steady _ _) (.refl _))
    · exact .of_eq rfl rfl
  have stalls : Steady s (s.stall f) :=
    .ite ((Steady.raise s _).trans (.of_eq rfl rfl)) ((Steady.raise s _).trans (failed _))
  unfold State.stallExpired
  split
  · exact stalls
  · exact stalls
  all_goals exact .refl s

theorem State.raiseIf_steady (s : State) (b : Bool) (e : EventFlag) : Steady s (s.raiseIf b e) := .ite (.raise s e) (.refl s)

theorem State.zoneTick_steady (s : State) : Steady s s.zoneTick := by
  have derate (t : State) : Steady t t.judgeDerate := by
    have set (n : Nat) : Steady t (t.setCeiling n) := .of_eq rfl rfl
    exact .ite ((set _).trans (State.raiseIf_steady _ _ _)) (.ite (set _) (.refl t))
  have sensed : Steady s s.copyMode.senseZones := by
    have zones (t : State) (c : ZoneCtl) : Steady t (t.setZoneCtl c) := .of_eq rfl rfl
    exact ((zones s _).trans (zones _ _)).trans (State.raiseIf_steady _ _ _)
  have formed (t : State) : Steady t t.formDemands := .of_eq rfl rfl
  have thermal (t : State) : Steady t t.reformThermal := .of_eq rfl rfl
  exact ((sensed.trans (formed _)).trans (derate _)).trans (thermal _)

theorem State.judgeDigital_steady (s : State) (zs : List ZoneId) : Steady s (s.judgeDigital zs) := by
  rcases s.judgeDigital_cases zs with e | ⟨-, z, e⟩ <;> rw [e]
  · exact .refl s
  · exact s.trip_steady _

theorem State.controlTick_steady (s : State) : Steady s s.controlTick := by
  have judged := s.zoneTick_steady.trans (State.judgeDigital_steady s.zoneTick ZoneId.all)
  have fans (t : State) : Steady t t.fanTick := .ite (.of_eq rfl rfl) (.of_eq rfl rfl)
  have sources (t : State) : Steady t t.sourceTick := .of_eq rfl rfl
  have runOn (t : State) : Steady t t.judgeRunOn := .ite (t.changeState_steady nofun) (.refl t)
  exact (Steady.queueClosed s).proceed (((judged.trans (fans _)).trans (sources _)).trans (runOn _))

/-- The expiry of the silence counter, but for the reset that it applies where one is pending (R125). -/
def State.silenceEnds (s : State) : State :=
  let u := (s.setCtl { s.ctl with silence := Config.silenceLimit, armed := false }).raise .linkLost
  (if u.ctl.op = .lit then u.changeState .cooldown else u).endSwitching

theorem State.silenceEnds_pending (s : State) : s.silenceEnds.ctl.resetPending = s.ctl.resetPending := by
  unfold State.silenceEnds
  dsimp only
  rw [(State.endSwitching_frame _).ctl]
  split
  · rw [(State.changeState_frame _ _).2]
    rfl
  · rfl

theorem State.silenceExpires_eq (s : State) :
    s.silenceExpires = if s.ctl.resetPending then s.silenceEnds.applyReset else s.silenceEnds := by
  rw [← s.silenceEnds_pending]
  rfl

theorem State.silenceEnds_steady (s : State) : Steady s s.silenceEnds := by
  have counted : Steady s (s.setCtl { s.ctl with silence := Config.silenceLimit, armed := false }) := .of_eq rfl rfl
  have lost := counted.trans (.raise _ .linkLost)
  exact (Steady.queueClosed s).endSwitching (lost.trans (.ite (State.changeState_steady _ nofun) (.refl _)))

end Sys2Proof.Machine
end

section
/-! PROOF. O22 and O27: the owners of the packet commands, and every command but those that may clear a flag or light the
part. -/

namespace Sys2Proof.Machine

/-! ### The owners of the packet commands (R170) -/

theorem enqueue_steady (tag : Byte) (j : Job) (s : State) : Steady s (enqueue tag j s).1 := by
  have appended (r : Request) : Steady s (s.append r) := .of_eq rfl rfl
  unfold enqueue
  split
  · exact .refl s
  · split
    · exact .refl s
    · exact (Steady.queueClosed s).pump (appended _)

/-- Whether a command's owner works in blocks other than the event flags, the state controller and the motion queue's
requests. -/
def sparesEvents : Instr → Bool
  | .ackEvents .. | .lightOn .. | .lightOff .. | .clearTrip .. | .setTripComparator .. | .moveAxis .. | .stepAxis ..
  | .home .. | .recallPreset .. | .stopMotion .. => false
  | _ => true

/-- Such an owner leaves the flags and the operating state alone, whether it refuses, reads or writes (R170). -/
theorem ownerOf_sparesEvents (i : Instr) (s : State) (hi : sparesEvents i = true) : Steady s (ownerOf i s).1 := by
  cases i
  case readGrid | gridInfo | readPoll | readThermistorTable | readZone | readFan | readPreset | readMotion =>
    simp only [ownerOf, readGrid, gridInfo, readPoll, readTable, readZone, readFan, readPreset, readMotion, answer]
    split <;> exact .refl s
  case setLight | setLightRamp | assignSource | writePoll | engineReset | erasePreset | setEventEnable | setThermalLimits =>
    simp only [ownerOf, setLight, setLightRamp, assignSource, writePoll, engineReset, erasePreset, setEventEnable,
      setThermalLimits, answer]
    split <;> exact .of_eq rfl rfl
  case writeGrid | commitGrid | eraseGrid | selectGrid | writeChannel | setInstall | readSource | writeThermistorTableFirst
      | writeThermistorTableSecond | storePreset | writeZone | writeFan =>
    simp only [ownerOf, writeGrid, commitGrid, eraseGrid, selectGrid, writeChannel, setInstall, readSource, writeTableFirst,
      writeTableSecond, storePreset, storeExplicit, storeCurrent, writeZone, writeFan, answer]
    repeat' split
    all_goals exact .of_eq rfl rfl
  case clearFan =>
    simp only [ownerOf, clearFan, answer]
    split
    · exact .refl s
    · exact .ite (.of_eq rfl rfl) (.refl s)
  case writeAxis | readAxis =>
    simp only [ownerOf, writeAxis, readAxis, answer]
    repeat' split
    all_goals exact .of_eq (by simp) (by simp)
  all_goals first | contradiction | exact .refl s

/-- The owners of all commands but ACK_EVENTS and LIGHT_ON clear no flag and do not light the part. -/
theorem ownerOf_steady (i : Instr) (s : State) (ack : ∀ tag events, i ≠ .ackEvents tag events) (on : ∀ tag, i ≠ .lightOn tag) :
    Steady s (ownerOf i s).1 := by
  cases i
  case ackEvents tag events => exact absurd rfl (ack tag events)
  case lightOn tag => exact absurd rfl (on tag)
  case lightOff => exact .ite (s.changeState_steady nofun) (.refl s)
  case clearTrip =>
    simp only [ownerOf, clearTrip]
    split
    · split
      · exact .refl s
      · exact s.changeState_steady (new := .cooldown) nofun
    · exact .refl s
  case setTripComparator channel threshold =>
    have set (c : Comparator) : Steady s (s.setComparator c) := .of_eq rfl rfl
    simp only [ownerOf, setTripComparator, answer]
    repeat' split
    all_goals first | exact (set _).trans (State.judgeComparator_steady _) | exact .refl s
  case moveAxis | stepAxis | home | recallPreset =>
    simp only [ownerOf, moveAxis, stepAxis, home, recallPreset, answer]
    repeat' split
    all_goals first | exact enqueue_steady _ _ s | exact .refl s
  case stopMotion => exact (Steady.queueClosed s).stopMotion (.refl s)
  all_goals exact ownerOf_sparesEvents _ s rfl

/-- A packet clears no flag where its owner clears none: its count, its entry and a line ignored clear none (R167, R170). -/
theorem State.takePacket_flag {s : State} {e : EventFlag} (h : s.chan.flag e = true) (tag : Byte) {run : Owner}
    (owner : (run s.countTaken).1.chan.flag e = true) : (s.takePacket tag run).chan.flag e = true := by
  rcases s.takePacket_cases tag run with ⟨-, k⟩ | ⟨-, -, k⟩ | ⟨-, -, -, k⟩ | ⟨-, -, -, k⟩ <;> rw [k]
  · exact h
  · exact h
  · exact owner
  · exact (State.raiseIf_steady _ _ _).flags e h

/-- A packet leaves the operating state as its owner does, or as it was (R167, R170). -/
theorem State.takePacket_op (s : State) (tag : Byte) (run : Owner) :
    (s.takePacket tag run).ctl.op = s.ctl.op ∨ (s.takePacket tag run).ctl.op = (run s.countTaken).1.ctl.op := by
  rcases s.takePacket_cases tag run with ⟨-, k⟩ | ⟨-, -, k⟩ | ⟨-, -, -, k⟩ | ⟨-, -, -, k⟩ <;> rw [k]
  · exact .inl rfl
  · exact .inl rfl
  · exact .inr rfl
  · refine .inl ?_
    simp [State.ignoreLine]

theorem State.takePacket_steady (s : State) (tag : Byte) {run : Owner} (owner : ∀ t, Steady t (run t).1) :
    Steady s (s.takePacket tag run) := by
  have work := owner s.countTaken
  refine ⟨fun e h => State.takePacket_flag h tag (work.flags e h), fun lit => ?_⟩
  rcases s.takePacket_op tag run with k | k
  · exact k.symm.trans lit
  · exact work.unlit (k.symm.trans lit)

end Sys2Proof.Machine
end

section
/-! PROOF. O22 and O27: a set event flag stays set, and the light comes on in a LIGHT_ON that is judged fit alone. -/

namespace Sys2Proof.Machine

/-! ### The events of the video path and of the return lane -/

theorem State.endOutput_steady (s : State) (b : Bool) : Steady s (s.endOutput b) := by
  unfold State.endOutput
  split
  · exact .refl s
  · exact .of_eq rfl rfl

theorem State.outputFrameStart_steady (s : State) : Steady s s.outputFrameStart := by
  have entered (t : State) : Steady t t.enterOutput := .of_eq rfl rfl
  have latched (t : State) : Steady t t.latch := by
    unfold State.latch
    split
    · exact .refl t
    · rename_i c _
      have chosen : Steady t (t.setWarp { t.warp with active := c.slot, choice := none }) := .of_eq rfl rfl
      exact chosen.trans (.raise _ _)
  have counted (t : State) (x : Stats) : Steady t (t.setStats x) := .of_eq rfl rfl
  have begun := ((s.endOutput_steady false).trans (entered _)).trans (latched _)
  unfold State.outputFrameStart
  rw [State.startOutput_eq]
  exact .ite ((Steady.queueClosed s).endSwitching (begun.trans (counted _ _))) (.refl s)

theorem State.inputFrameStart_steady (s : State) (l : Line) : Steady s (s.inputFrameStart l) := by
  have timed (t : State) (n : Nat) : Steady t (t.setLineTime n) := .of_eq rfl rfl
  have due : Steady s s.startDueFirst := ((timed s _).trans (State.outputFrameStart_steady _)).trans (timed _ _)
  have begun (t : State) : Steady t (t.beginFrame l) := by
    have started : Steady t (t.setWarp (t.warp.startFrame l)) := .of_eq rfl rfl
    have answers (u : State) : Steady u u.formAnswer.rearm := by
      obtain ⟨c, e, flags, -⟩ := u.formAnswer_frame
      rw [e]
      exact .of_eq flags rfl
    exact (Steady.ite ((Steady.queueClosed t).endSwitching started) started).trans (answers _)
  exact due.trans (begun _)

theorem State.outputLine_steady (s : State) : Steady s s.outputLine := by
  unfold State.outputLine
  split
  · exact .refl s
  · rename_i f _
    have sent : Steady s (s.sendLine f) := .of_eq rfl rfl
    rw [State.produceLine_eq]
    exact .ite (.ite (sent.trans (State.endOutput_steady _ _)) sent) (.refl s)

theorem State.blankingLine_steady (s : State) : Steady s s.blankingLine := .of_eq rfl rfl

/-! ### The lens axes and the temperature sources -/

theorem State.setAxis_steady (s : State) (a : AxisId) (x : Axis) : Steady s (s.setAxis a x) := .of_eq (by simp) (by simp)

theorem State.profileTick_steady (s : State) : Steady s s.profileTick := by
  have ticked : Steady s ((s.setAxis .h s.axisH.tick.1).setAxis .v s.axisV.tick.1) := .of_eq rfl rfl
  have queue := Steady.queueClosed s
  exact .ite ticked (queue.proceed (queue.takeEvent _ _ (queue.takeEvent _ _ ticked)))

theorem State.applyReading_steady (s : State) (n : Fin 12) (r : Reading) : Steady s (s.applyReading n r) := by
  have set : Steady s (s.setSource n ((s.source n).apply r)) := .of_eq rfl rfl
  rcases s.applyReading_cases n r with ⟨-, e⟩ | ⟨-, e⟩ <;> rw [e]
  · exact set.trans (.raise _ _)
  · exact set

theorem State.endFlight_steady (s : State) (f : Flight) (r : Reading) (wire : List SbSignal) :
    Steady s (s.endFlight f r wire) := by
  have moved (t : State) (x : Temps) : Steady t (t.setTemps x) := .of_eq rfl rfl
  exact (Steady.ite (.refl s) (s.applyReading_steady _ _)).trans (moved _ _)

theorem State.cutFlight_steady (s : State) (f : Flight) (o : ReadOutcome) (p : SbPlace) : Steady s (s.cutFlight f o p) := by
  have due : Steady s (s.setTemps { s.temps with recoveryDue := true }) := .of_eq rfl rfl
  have drawn (t : State) : Steady t t.drawFree := .of_eq rfl rfl
  exact (due.trans (State.endFlight_steady _ f (.bad o) (f.cutWire p s.freeCount))).trans (drawn _)

theorem State.stopBegun_steady (s : State) (e : SbEnd) : Steady s (s.stopBegun e) := by
  unfold State.stopBegun
  split
  · exact .refl s
  · exact s.endFlight_steady _ _ _

theorem State.cutBegun_steady (s : State) (o : ReadOutcome) (p : SbPlace) : Steady s (s.cutBegun o p) := by
  unfold State.cutBegun
  split
  · exact .refl s
  · exact s.cutFlight_steady _ _ _

theorem State.addStretch_steady (s : State) (micros : Nat) : Steady s (s.addStretch micros) := by
  unfold State.addStretch
  split
  · exact .refl s
  · exact .ite (s.cutFlight_steady _ _ _) (.of_eq rfl rfl)

theorem State.recovery_steady (s : State) : Steady s s.recoveryDone ∧ Steady s s.recoveryAbandoned := by
  unfold State.recoveryDone State.recoveryAbandoned
  split
  · exact ⟨.refl s, .refl s⟩
  · exact ⟨.of_eq rfl rfl, s.cutFlight_steady _ _ _⟩

/-! ### The steps that apply a pending reset (R129) -/

/-- The step clears no flag and does not light the part, or it applies a pending ENGINE_RESET. -/
def SteadyOrReset (s t : State) : Prop := Steady s t ∨ s.ctl.resetPending = true ∧ ∃ u : State, t = u.applyReset

theorem State.silenceExpires_steady (s : State) : SteadyOrReset s s.silenceExpires := by
  rw [s.silenceExpires_eq]
  split
  · rename_i pending
    exact .inr ⟨pending, _, rfl⟩
  · exact .inl s.silenceEnds_steady

theorem State.silenceCounts_steady (s : State) : SteadyOrReset s s.silenceCounts := by
  unfold State.silenceCounts
  split
  · split
    · exact s.silenceExpires_steady
    · exact .inl (.of_eq rfl rfl)
  · exact .inl (.refl s)

theorem State.answerSent_steady (s : State) : SteadyOrReset s s.answerSent := by
  unfold State.answerSent
  split
  · split
    · rename_i holds
      exact .inr ⟨(s.laneHoldsReset_iff.1 holds).1, s, rfl⟩
    · exact .inl (.of_eq rfl rfl)
  · exact .inl (.refl s)

theorem State.lockLost_steady (s : State) : SteadyOrReset s s.lockLost := by
  rw [s.lockLost_eq, State.answerCut]
  split
  · rename_i holds
    exact .inr ⟨(s.darken.laneHoldsReset_iff.1 holds).1, _, rfl⟩
  · exact .inl (.of_eq rfl rfl)

/-! ### Every command -/

/-- A packet command but ACK_EVENTS and LIGHT_ON clears no flag and does not light the part. -/
theorem exec_packet_steady {c : Instr} (hc : (packetOf c).isSome = true) (s : State)
    (ack : ∀ tag events, c ≠ .ackEvents tag events) (on : ∀ tag, c ≠ .lightOn tag) :
    ∃ t, exec c s = .next t ∧ SteadyOrReset s t := by
  obtain ⟨⟨tag, code, payload⟩, hp⟩ := Option.isSome_iff_exists.1 hc
  obtain ⟨run, he, hr⟩ := exec_packet hp s
  refine ⟨_, he, .inl (s.takePacket_steady tag fun t => ?_)⟩
  rcases hr with rfl | ⟨-, rfl⟩
  · exact ownerOf_steady c t ack on
  · exact .refl t

/-- Every command but ACK_EVENTS, LIGHT_ON, a control line, which may carry either, and the release of RESET_N. -/
theorem exec_steady (c : Instr) (s : State) (ack : ∀ tag events, c ≠ .ackEvents tag events) (on : ∀ tag, c ≠ .lightOn tag)
    (line : ∀ ps, c ≠ .controlLine ps) (release : c ≠ .resetNReleased) : ∃ t, exec c s = .next t ∧ SteadyOrReset s t := by
  have kept {f : State → State} {b : Bool} (hf : SteadyOrReset s (f s)) : SteadyOrReset s (if b then f s else s) := by
    split
    · exact hf
    · exact .inl (.refl s)
  have live (f : State → State) (hf : Steady s (f s)) : SteadyOrReset s (s.whenLive f) := kept (.inl hf)
  have linked (f : State → State) (hf : Steady s (f s)) : SteadyOrReset s (s.whenLinked f) := kept (.inl hf)
  have queue := Steady.queueClosed s
  cases c
  case controlLine ps => exact absurd rfl (line ps)
  case resetNReleased => exact absurd rfl release
  case inputActiveLine ps => exact ⟨_, rfl, linked _ (.ite (s.inputFrameStart_steady _) (.of_eq rfl rfl))⟩
  case plainBlankingLine => exact ⟨_, rfl, linked _ s.blankingLine_steady⟩
  case outputLine => exact ⟨_, rfl, linked _ s.outputLine_steady⟩
  case outputFrameStart => exact ⟨_, rfl, linked _ s.outputFrameStart_steady⟩
  case linkLockLost =>
    refine ⟨_, rfl, ?_⟩
    split
    · exact s.lockLost_steady
    · exact .inl (.of_eq rfl rfl)
  case linkLockRegained => exact ⟨_, rfl, .inl (.ite (.of_eq rfl rfl) (.of_eq rfl rfl))⟩
  case answerSent => exact ⟨_, rfl, kept s.answerSent_steady⟩
  case resetNAsserted => exact ⟨_, rfl, live _ s.assertReset_steady⟩
  case controlTick => exact ⟨_, rfl, live _ s.controlTick_steady⟩
  case thermistorConversionDone ch code =>
    have taken : Steady s (s.takeConversion ch code) := .ite (.refl s) (s.applyReading_steady _ _)
    have advanced (t : State) : Steady t (t.advanceScan ch) := .ite (.of_eq rfl rfl) (.refl t)
    exact ⟨_, rfl, live _ (taken.trans (advanced _))⟩
  case sbTransactionEnd e => exact ⟨_, rfl, live _ (s.stopBegun_steady e)⟩
  case sbStretchLimit micros => exact ⟨_, rfl, live _ (s.addStretch_steady micros)⟩
  case sbClockTimeout | sbBusError => exact ⟨_, rfl, live _ (s.cutBegun_steady _ _)⟩
  case sbRecoveryDone => exact ⟨_, rfl, live _ s.recovery_steady.1⟩
  case sbRecoveryAbandoned => exact ⟨_, rfl, live _ s.recovery_steady.2⟩
  case comparatorTrip level | comparatorRelease level =>
    let u := s.setPinCode level.ch level.code
    have shown : Steady s u := .of_eq rfl rfl
    exact ⟨_, rfl, .inl (shown.trans (.ite u.judgeComparator_steady (.refl u)))⟩
  case stallTimerExpiry f => exact ⟨_, rfl, live _ (s.stallExpired_steady f)⟩
  case tachEdge f e =>
    exact ⟨_, rfl, live _ (.ite (.of_eq (by simp [State.selectedEdge, State.updateFan])
      (by simp [State.selectedEdge, State.updateFan])) (.refl s))⟩
  case profileTick => exact ⟨_, rfl, live _ s.profileTick_steady⟩
  case endstopEdge e | endstopInactive e =>
    exact ⟨_, rfl, .inl (.ite (queue.afterEvent _ _ (s.setAxis_steady _ _)) (s.setAxis_steady _ _))⟩
  case railWaitTimeout => exact ⟨_, rfl, live _ (queue.railTimeout (.refl s))⟩
  case silenceTick => exact ⟨_, rfl, kept s.silenceCounts_steady⟩
  case silenceExpiry => exact ⟨_, rfl, kept (kept s.silenceExpires_steady)⟩
  case rampTick | lightPwmPeriodBoundary | fanPwmPeriodBoundary | kickTimerExpiry | pauseTimerExpiry | retryClearTimerExpiry
      | tachTimeout | runOnElapsedLimit => exact ⟨_, rfl, live _ (.of_eq rfl rfl)⟩
  all_goals exact exec_packet_steady rfl s ack on

/-! ### LIGHT_ON (R117, R118) -/

/-- LIGHT_ON clears no flag: it answers, or it takes the part to LIT (R118, R173). -/
theorem lightOn_flag {s : State} {e : EventFlag} (h : s.chan.flag e = true) : (lightOn s).1.chan.flag e = true := by
  have tried : (tryLight s).1.chan.flag e = true := by
    unfold tryLight
    split
    · exact h
    · exact State.changeState_flag h .lit
  unfold lightOn
  split
  · exact tried
  · exact tried
  · exact h
  · exact h

/-- Settles O22: with no reset pending, LIGHT_ON and every other command but those named clear no flag. -/
theorem setFlagStaysSet : Obligations.SetFlagStaysSet := by
  intro s t c e pending he ack line release h
  by_cases on : ∃ tag, c = .lightOn tag
  · obtain ⟨tag, rfl⟩ := on
    cases he
    exact State.takePacket_flag h tag (lightOn_flag (s := s.countTaken) h)
  · obtain ⟨u, hu, steady | ⟨reset, -⟩⟩ := exec_steady c s ack (fun tag k => on ⟨tag, k⟩) line release
    · cases hu.symm.trans he
      exact steady.flags e h
    · cases pending.symm.trans reset

/-- The state controller judges the part fit for LIGHT_ON (R118). -/
structure State.FitToLight (s : State) : Prop where
  dark : s.ctl.op = .standby ∨ s.ctl.op = .cooldown
  seen : ∀ z, (s.zone z).blind = false
  fan : (s.fan .f0).state ≠ .failed
  cool : s.ctl.op = .cooldown → ∀ (z : ZoneId) (temp : Int), (s.zone z).temp = some temp → temp < (s.zone z).derate

/-- The part is in LIT, or the state controller judges it fit for LIGHT_ON. -/
def State.LitOrFit (s : State) : Prop := s.ctl.op = .lit ∨ s.FitToLight

/-- Both rest on the operating state, the zones and the fans alone. -/
theorem State.LitOrFit.of_blocks {s t : State} (h : t.LitOrFit) (op : t.ctl.op = s.ctl.op) (zoneCtl : t.zoneCtl = s.zoneCtl)
    (fanDrv : t.fanDrv = s.fanDrv) : s.LitOrFit := by
  refine h.imp op.symm.trans fun ⟨dark, seen, fan, cool⟩ => ?_
  simp only [State.zone, State.fan, op, zoneCtl, fanDrv] at dark seen fan cool
  exact ⟨dark, seen, fan, cool⟩

/-- No zone meets a condition that `find?` looks for, where it finds none. -/
theorem ZoneId.find_all_none {p : ZoneId → Bool} (h : ZoneId.all.find? p = none) (z : ZoneId) : p z = false :=
  Bool.eq_false_iff.2 (List.find?_eq_none.1 h z z.mem_all)

theorem State.hotAt_iff (s : State) (limit : Zone → Int) (z : ZoneId) :
    s.hotAt limit z = true ↔ ∃ T, (s.zone z).temp = some T ∧ limit (s.zone z) ≤ T := by
  unfold State.hotAt
  cases (s.zone z).temp <;> simp

theorem State.hotAt_eq_false_iff (s : State) (limit : Zone → Int) (z : ZoneId) :
    s.hotAt limit z = false ↔ ∀ T, (s.zone z).temp = some T → T < limit (s.zone z) := by
  rw [← Bool.not_eq_true, s.hotAt_iff]
  push Not
  rfl

/-- Where no condition of LIGHT_ON fails in STANDBY or COOLDOWN, the part is fit (R118). -/
theorem State.fitToLight_of_lightOnBar {s : State} (dark : s.ctl.op = .standby ∨ s.ctl.op = .cooldown)
    (bar : s.lightOnBar = none) : s.FitToLight := by
  unfold State.lightOnBar at bar
  split at bar
  · cases bar
  · rename_i seen
    split at bar
    · cases bar
    · rename_i fan
      refine ⟨dark, ZoneId.find_all_none seen, of_decide_eq_false (Bool.eq_false_iff.2 fan), fun cooling z => ?_⟩
      rw [if_pos cooling] at bar
      split at bar
      · cases bar
      · rename_i cool
        exact (s.hotAt_eq_false_iff _ z).1 (ZoneId.find_all_none cool z)

/-- LIGHT_ON leaves a dark part dark unless it is fit (R118). -/
theorem lightOn_lit {s : State} (lit : (lightOn s).1.ctl.op = .lit) : s.LitOrFit := by
  have tried (dark : s.ctl.op = .standby ∨ s.ctl.op = .cooldown) (lit : (tryLight s).1.ctl.op = .lit) : s.LitOrFit := by
    unfold tryLight at lit
    split at lit
    · exact .inl lit
    · rename_i bar
      exact .inr (State.fitToLight_of_lightOnBar dark bar)
  unfold lightOn at lit
  split at lit
  · rename_i op
    exact tried (.inl op) lit
  · rename_i op
    exact tried (.inr op) lit
  · exact .inl lit
  · exact .inl lit

/-- The owners leave a dark part dark unless it is fit. -/
theorem ownerOf_lit (i : Instr) {s : State} (lit : (ownerOf i s).1.ctl.op = .lit) : s.LitOrFit := by
  by_cases on : ∃ tag, i = .lightOn tag
  · obtain ⟨tag, rfl⟩ := on
    exact lightOn_lit lit
  · by_cases ack : ∃ tag events, i = .ackEvents tag events
    · obtain ⟨tag, events, rfl⟩ := ack
      exact .inl ((ownerOf_lightKept (.ackEvents tag events) s rfl).op.symm.trans lit)
    · exact .inl ((ownerOf_steady i s (fun tag events k => ack ⟨tag, events, k⟩) fun tag k => on ⟨tag, k⟩).unlit lit)

/-- A packet leaves a dark part dark unless it is fit, whatever its owner. -/
theorem State.takePacket_lit {s : State} {tag : Byte} {run : Owner}
    (owner : (run s.countTaken).1.ctl.op = .lit → s.countTaken.LitOrFit)
    (lit : (s.takePacket tag run).ctl.op = .lit) : s.LitOrFit := by
  rcases s.takePacket_op tag run with k | k
  · exact .inl (k.symm.trans lit)
  · exact (owner (k.symm.trans lit)).of_blocks rfl rfl rfl

theorem State.receive_lit {s : State} {r : PacketRead} (lit : (s.receive r).ctl.op = .lit) : s.LitOrFit := by
  cases r with
  | badCheck _ | unknownCommand _ | badLength _ => exact State.takePacket_lit .inl lit
  | command _ i => exact State.takePacket_lit (ownerOf_lit i) lit

theorem State.controlLine_lit {s : State} {ps : List Pixel} (lit : (s.controlLine ps).ctl.op = .lit) : s.LitOrFit := by
  unfold State.controlLine at lit
  split at lit
  · exact (State.receive_lit lit).of_blocks rfl rfl rfl
  · exact .inl lit

/-- Every command leaves a dark part dark unless it is fit. -/
theorem exec_lit {c : Instr} {s t : State} (he : exec c s = .next t) (lit : t.ctl.op = .lit) :
    s.LitOrFit := by
  by_cases ack : ∃ tag events, c = .ackEvents tag events
  · obtain ⟨tag, events, rfl⟩ := ack
    cases he
    exact State.takePacket_lit (ownerOf_lit (.ackEvents tag events)) lit
  by_cases on : ∃ tag, c = .lightOn tag
  · obtain ⟨tag, rfl⟩ := on
    cases he
    exact State.takePacket_lit lightOn_lit lit
  by_cases line : ∃ ps, c = .controlLine ps
  · obtain ⟨ps, rfl⟩ := line
    cases he
    unfold State.whenLinked at lit
    split at lit
    · exact State.controlLine_lit lit
    · exact .inl lit
  by_cases release : c = .resetNReleased
  · subst release
    cases he
    exact absurd lit (State.applyReset_op _)
  obtain ⟨u, hu, steady | ⟨-, v, rfl⟩⟩ := exec_steady c s (fun tag events k => ack ⟨tag, events, k⟩) (fun tag k => on ⟨tag, k⟩)
    (fun ps k => line ⟨ps, k⟩) release
  · cases hu.symm.trans he
    exact .inl (steady.unlit lit)
  · cases hu.symm.trans he
    exact absurd lit v.applyReset_op

/-- Settles O27: a millisecond leaves the operating state, and a command lights a dark part through LIGHT_ON alone. -/
theorem lightComesOnOnlyWhenAllowed : Obligations.LightComesOnOnlyWhenAllowed := by
  intro s t he dark lit
  have fit : s.LitOrFit := by
    unfold step at he
    split at he
    · cases he
      have passes : Steady s s.millisecond := .ite (.of_eq rfl rfl) (.refl s)
      exact .inl (passes.unlit lit)
    · rename_i c rest _
      exact (exec_lit he lit).of_blocks rfl rfl rfl
  obtain ⟨state, seen, fan, cool⟩ := fit.resolve_left dark
  exact ⟨state, seen, fan, cool⟩

end Sys2Proof.Machine
end

section
/-! PROOF. O6: the assertion of RESET_N. -/

namespace Sys2Proof.Machine

/-- The part while RESET_N is asserted: what is in progress is cut off and the outputs carry nothing (R26, R52, R89, R113, R129,
R130, R150, R172). -/
theorem State.assertReset_eq (s : State) : s.assertReset = { s with
    resetAsserted := true
    warp := { s.warp with frames := [], vout := .nothing }
    stats := { s.stats with accumulating := false }
    light := { s.light with lightEn := false, pwmLevel := 0 }
    temps := { s.temps with
      sweeping := false, sweepList := [], flight := none, wire := s.temps.abandonedWire s.freeCount, converting := none
      discardConversion := false }
    fanDrv := s.fanDrv.each fun _ x => { x with pwmLevel := 0 }
    ctl := { s.ctl with resetPending := false }
    axisH := { s.axisH with dirPin := false, pulses := 0 }
    axisV := { s.axisV with dirPin := false, pulses := 0 }
    chan := { s.chan with lane := none, waiting := none, taken := 0, entries := [] }
    freeCount := if s.temps.flight.isSome then s.freeCount + 1 else s.freeCount } := by
  unfold State.assertReset
  simp only [State.abandonBus_eq]
  rfl

/-- What the two lines carried of the entry in flight when a reset cuts it off: its course up to a free point, and the release
(R89; notes/assumptions/8.md). -/
theorem Temps.abandonedWire_flight {t : Temps} {f : Flight} (flies : t.flight = some f) (k : Nat) :
    ∃ (e : SbEnd) (n : Nat), driven (t.abandonedWire k) =
      (driven (if f.begun then f.contents.signals e else recoverySignals)).take n ++ [{ clk := true, dat := true, micros := none }] := by
  have cut : t.abandonedWire k = f.cutWire .anywhere k := by rw [Temps.abandonedWire, flies]
  rw [cut, Flight.driven_cutWire]
  exact ⟨freeCourse k, _, rfl⟩

/-- Settles O6: the outputs go by the level of RESET_N, and the records by `assertReset_eq`. -/
theorem resetAssertionCutsEverythingOff : Obligations.ResetAssertionCutsEverythingOff := by
  intro s live
  refine ⟨s.assertReset, congrArg _ (State.whenLive_of_live live _), ?_⟩
  rw [s.assertReset_eq]
  refine ⟨rfl, rfl, fun _ => rfl, fun _ _ => rfl, fun _ => ⟨rfl, rfl⟩, fun a => ?_, rfl, rfl, rfl, rfl, rfl, rfl, rfl, rfl, rfl,
    rfl, rfl, (s.temps.abandonedWire_released s.freeCount).2, fun fl flies => Temps.abandonedWire_flight flies s.freeCount,
    rfl, rfl, rfl, rfl, rfl, rfl⟩
  cases a <;> exact ⟨rfl, rfl, rfl⟩

end Sys2Proof.Machine
end

section
/-! PROOF. O20: ACK_EVENTS, SET_EVENT_ENABLE and ATTN. -/

namespace Sys2Proof.Machine

/-! ### The two commands (R174, R175) -/

theorem eventSet_of_lt {events : BitVec 16} (h : events.toNat < 4096) : eventSet events = some (events.setWidth 12) := if_pos h

theorem eventSet_of_le {events : BitVec 16} (h : 4096 ≤ events.toNat) : eventSet events = none := if_neg (Nat.not_lt.2 h)

/-- A mask of the twelve flags as a packet carries it (R178). -/
theorem be16_mask (m : BitVec 12) : be16 m.toNat = wordBytes (m.setWidth 16) := by
  rw [← be16_toNat, BitVec.toNat_setWidth_of_le (by decide)]

/-! ### ATTN (R176) -/

theorem exists_bit_of_ne_zero {w : Nat} {x : BitVec w} (h : x ≠ 0) : ∃ k, k < w ∧ x.getLsbD k = true := by
  by_contra unset
  refine h (BitVec.eq_of_getLsbD_eq fun k hk => ?_)
  have clear : x.getLsbD k = false := Bool.eq_false_iff.2 fun set => unset ⟨k, hk, set⟩
  exact clear.trans BitVec.getLsbD_zero.symm

theorem ne_zero_of_bit {w k : Nat} {x : BitVec w} (set : x.getLsbD k = true) : x ≠ 0 := by
  rintro rfl
  cases set.symm.trans BitVec.getLsbD_zero

theorem State.attn_iff (s : State) : s.attn = true ↔
    s.resetAsserted = false ∧ ∃ k : Nat, k < 12 ∧ s.chan.flags.getLsbD k = true ∧ s.chan.enables.getLsbD k = true := by
  have both : s.chan.flags &&& s.chan.enables ≠ 0 ↔
      ∃ k : Nat, k < 12 ∧ s.chan.flags.getLsbD k = true ∧ s.chan.enables.getLsbD k = true := by
    have bit (k : Nat) : (s.chan.flags &&& s.chan.enables).getLsbD k = true ↔
        s.chan.flags.getLsbD k = true ∧ s.chan.enables.getLsbD k = true := by rw [BitVec.getLsbD_and, Bool.and_eq_true]
    refine ⟨fun h => ?_, fun ⟨k, _, set⟩ => ne_zero_of_bit ((bit k).2 set)⟩
    obtain ⟨k, hk, set⟩ := exists_bit_of_ne_zero h
    exact ⟨k, hk, (bit k).1 set⟩
  rw [State.attn, Bool.and_eq_true, decide_eq_true_iff, both, State.live, Bool.not_eq_true']

/-! ### Resets (R129, R130) -/

theorem State.judgeComparator_enables (s : State) : s.judgeComparator.chan.enables = s.chan.enables := by
  have trips (u : State) : (u.trip .comparator).chan.enables = u.chan.enables := by
    rcases u.trip_cases .comparator with ⟨-, e⟩ | ⟨-, frame, -⟩
    · rw [e]
    · exact (congrArg ChanState.enables frame.entries :)
  rcases s.judgeComparator_cases with ⟨-, -, e⟩ | ⟨-, -, e⟩ | ⟨-, e⟩ <;> rw [e]
  · exact trips _
  · rfl

/-- A reset clears the enables, and with them ATTN. -/
theorem State.applyReset_attn (s : State) : s.applyReset.attn = false ∧ s.applyReset.chan.enables = 0 := by
  have enables : s.applyReset.chan.enables = 0 := State.judgeComparator_enables _
  refine ⟨Bool.eq_false_iff.2 fun attn => ?_, enables⟩
  obtain ⟨-, k, -, -, set⟩ := (State.attn_iff _).1 attn
  rw [enables] at set
  simp at set

theorem State.silenceExpires_of_pending {s : State} (pending : s.ctl.resetPending = true) :
    s.silenceExpires = s.silenceEnds.applyReset := by rw [s.silenceExpires_eq, if_pos pending]

/-- SILENCE_EXPIRY expires an armed counter, whatever its value (R125; notes/assumptions/19.md). -/
theorem exec_silenceExpiry {s : State} (live : s.resetAsserted = false) (armed : s.ctl.armed = true) :
    exec .silenceExpiry s = .next s.silenceExpires := by
  have expires : exec .silenceExpiry s = .next (if s.ctl.armed then s.silenceExpires else s) :=
    congrArg _ (State.whenLive_of_live live _)
  rw [expires, if_pos armed]

/-- The answer that holds a pending ENGINE_RESET's entry has it applied when it has been sent, and when a loss of lock cuts it
off (R129, R172). -/
theorem exec_answerEnds {s : State} (linked : s.linked = true) (holds : s.laneHoldsReset = true) :
    exec .answerSent s = .next s.applyReset ∧ exec .linkLockLost s = .next s.darken.applyReset := by
  have onLane : s.chan.lane.isSome = true := by
    obtain ⟨-, a, lane, -⟩ := s.laneHoldsReset_iff.1 holds
    rw [lane, Option.isSome_some]
  have sent : exec .answerSent s = .next s.answerSent := congrArg _ (State.whenLinked_of_linked linked _)
  have cut : s.darken.laneHoldsReset = true := holds
  rw [sent, State.answerSent, if_pos onLane, if_pos holds, exec_linkLockLost linked, State.answerCut, if_pos cut]
  exact ⟨rfl, rfl⟩

/-- Settles O20: the two owners on a set that is within range or beyond it, ATTN bit by bit, and every event that applies a
reset. -/
theorem eventCommandsAndAttn : Obligations.EventCommandsAndAttn := by
  refine ⟨fun s tag events takes => ⟨fun lt => ⟨?_, ?_⟩, fun le => ⟨?_, ?_⟩⟩, State.attn_iff, fun s t e reset he => ?_⟩
  · have work : ackEvents events s.countTaken = (s.countTaken.setChan (s.countTaken.chan.acknowledge (events.setWidth 12)),
        .okWith (wordBytes ((s.chan.flags &&& events.setWidth 12).setWidth 16))) := by
      rw [ackEvents, eventSet_of_lt lt, ← be16_mask]
      rfl
    exact congrArg _ (State.takePacket_work takes tag work)
  · have work : setEventEnable events s.countTaken =
        (s.countTaken.setChan { s.countTaken.chan with enables := events.setWidth 12 }, .ok) := by
      rw [setEventEnable, eventSet_of_lt lt]
    exact congrArg _ (State.takePacket_work takes tag work)
  · have refused : ackEvents events s.countTaken = answer .refusedRange s.countTaken := by rw [ackEvents, eventSet_of_le le]
    exact congrArg _ (State.takePacket_answer takes tag refused)
  · have refused : setEventEnable events s.countTaken = answer .refusedRange s.countTaken := by
      rw [setEventEnable, eventSet_of_le le]
    exact congrArg _ (State.takePacket_answer takes tag refused)
  · have applied : ∃ u : State, exec e s = .next u.applyReset := by
      rcases reset with rfl | ⟨live, pending, ⟨rfl, armed⟩ | ⟨ends, locked, a, lane, holds⟩⟩
      · exact ⟨_, rfl⟩
      · exact ⟨_, by rw [exec_silenceExpiry live armed, State.silenceExpires_of_pending pending]⟩
      · obtain ⟨sent, cut⟩ := exec_answerEnds (s.linked_iff.2 ⟨live, locked⟩) (s.laneHoldsReset_iff.2 ⟨pending, a, lane, holds⟩)
        rcases ends with rfl | rfl
        · exact ⟨_, sent⟩
        · exact ⟨_, cut⟩
    obtain ⟨u, hu⟩ := applied
    cases hu.symm.trans he
    exact u.applyReset_attn

end Sys2Proof.Machine
end

section
/-! PROOF. O43: the silence counter. -/

namespace Sys2Proof.Machine

/-! ### The queue in a part that is not LIT (R56, R153) -/

/-- Outside LIT no recall takes the blank hold: a queue that holds none takes none (R56). -/
theorem unheld_closed : QueueClosed fun s => s.motion.blankHold = false ∧ s.ctl.op ≠ .lit where
  axis _ a _ h := by cases a <;> exact h
  motion _ _ same _ h := ⟨same.trans h.1, h.2⟩
  done _ h := h
  endstop _ h := h
  homeFail _ h := h
  unhold s h := by
    refine ⟨congrArg Motion.blankHold s.releaseHold_values.1, ?_⟩
    unfold State.releaseHold
    split <;> exact h.2
  hold s j h := by
    unfold State.takeHold
    split
    · rwa [if_neg fun k => h.2 k.2]
    all_goals exact h
  place _ _ _ _ h := h
  unplace _ h := h

/-- In STANDBY and in TRIPPED the queue starts nothing (R153). -/
theorem State.pump_of_not_moves {s : State} (still : s.ctl.op.moves = false) : s.pump = s := by
  have stays : s.mayStart = false := by simp [State.mayStart, still]
  cases hq : s.motion.queue with
  | nil => exact s.pump_empty hq
  | cons r rest =>
    rw [State.pump, hq, List.length_cons, State.startHeads, hq]
    exact if_neg (by simp [stays])

/-! ### From LIT to COOLDOWN (R117, R119, R125) -/

/-- What the departure from LIT to COOLDOWN makes of the part: the light out at once, the run-on at 0, no hold (R57, R116, R161). -/
structure State.Darkened (s t : State) : Prop where
  ctl : t.ctl = { s.ctl with op := .cooldown, runOn := some 0 }
  dark : t.light.Dark
  lightEn : t.light.lightEn = false
  unheld : t.motion.blankHold = false
  zoneCtl : t.zoneCtl = s.zoneCtl
  fanDrv : t.fanDrv = s.fanDrv
  grid : t.grid = s.grid

theorem State.changeState_darkened {s : State} (lit : s.ctl.op = .lit) : s.Darkened (s.changeState .cooldown) := by
  obtain ⟨frame, ctl⟩ := s.changeState_frame .cooldown
  let w := s.writeOp .cooldown
  have eq : s.changeState .cooldown = (w.leave .lit).pump := by rw [State.changeState, lit]; rfl
  obtain ⟨fanDrv, zoneCtl, dark⟩ := w.leave_blocks (old := .lit) nofun
  have queue := (w.leave .lit).pump_frame
  have lightEn : w.light.lightEn = false := Light.reform_lightEn _
  have unheld : (w.leave .lit).motion.blankHold = false ∧ (w.leave .lit).ctl.op ≠ .lit := by
    refine ⟨congrArg Motion.blankHold w.releaseHold_values.1, ?_⟩
    rw [← queue.ctl, ← eq, ctl]
    nofun
  rw [eq] at ctl frame ⊢
  exact ⟨ctl, dark_closed.pump (dark s.light.setSafety_dark), (lightEn_closed false).pump ((w.leave_sameWork .lit).2.trans lightEn),
    (unheld_closed.pump unheld).1, queue.zoneCtl.trans zoneCtl, queue.fanDrv.trans fanDrv, frame.grid⟩

/-- The end of a recall in SWITCHING leaves all that as it is (R160). -/
theorem State.Darkened.endSwitching {s t : State} (h : s.Darkened t) : s.Darkened t.endSwitching := by
  have queue := t.endSwitching_frame
  have op : t.ctl.op ≠ .lit := by
    rw [h.ctl]
    nofun
  exact ⟨queue.ctl.trans h.ctl, dark_closed.endSwitching h.dark, (lightEn_closed false).endSwitching h.lightEn,
    (unheld_closed.endSwitching ⟨h.unheld, op⟩).1, queue.zoneCtl.trans h.zoneCtl, queue.fanDrv.trans h.fanDrv,
    queue.grid.trans h.grid⟩

/-! ### The expiry (R124, R125, R129) -/

/-- The counter expired, and LINK_LOST set (R125). -/
def State.silenceLost (s : State) : State :=
  { s with ctl := { s.ctl with silence := 4, armed := false }, chan := s.chan.raise .linkLost }

theorem State.silenceEnds_eq (s : State) : s.silenceEnds =
    (if s.ctl.op = .lit then s.silenceLost.changeState .cooldown else s.silenceLost).endSwitching := rfl

/-- Both events bring the expiry: the fourth tick, and SILENCE_EXPIRY of an armed counter (notes/assumptions/19.md). -/
theorem exec_silence_expires {s : State} {c : Instr} (live : s.resetAsserted = false) (armed : s.ctl.armed = true)
    (hc : c = .silenceTick ∧ s.ctl.silence = 3 ∨ c = .silenceExpiry) : exec c s = .next s.silenceExpires := by
  rcases hc with ⟨rfl, last⟩ | rfl
  · have counts : s.silenceCounts = s.silenceExpires := by
      rw [State.silenceCounts, if_pos armed]
      exact if_pos (by rw [last]; decide)
    rw [← counts]
    exact congrArg _ (State.whenLive_of_live live _)
  · exact exec_silenceExpiry live armed

/-- What a reset makes of the part rests on the pins, the link and the sensor bus alone (R129, R130). -/
theorem State.applyReset_congr {s t : State} (pending : t.pending = s.pending) (asserted : t.resetAsserted = s.resetAsserted)
    (locked : t.locked = s.locked) (temps : t.temps = s.temps) (freeCount : t.freeCount = s.freeCount)
    (axisH : t.axisH = s.axisH) (axisV : t.axisV = s.axisV) : t.applyReset = s.applyReset := by
  simp only [State.applyReset, State.resetBlocks, State.abandonBus_eq, pending, asserted, locked, temps, freeCount, axisH, axisV]

/-- In STANDBY and in TRIPPED the end of a recall in SWITCHING moves no axis (R153, R160). -/
theorem State.endSwitching_axes {s : State} (still : s.ctl.op.moves = false) :
    s.endSwitching.axisH = s.axisH ∧ s.endSwitching.axisV = s.axisV := by
  unfold State.endSwitching
  split
  · exact ⟨rfl, rfl⟩
  · rename_i x hx
    split
    · have ended := State.endRequest_eq hx x.req.completion
      rw [State.pump_of_not_moves (by rw [ended]; exact still), ended]
      exact ⟨rfl, rfl⟩
    · exact ⟨rfl, rfl⟩

/-- The expiry in STANDBY or TRIPPED applies a pending reset to the part as it stood (R125, R129). -/
theorem State.silenceExpires_reset {s : State} (pending : s.ctl.resetPending = true)
    (state : s.ctl.op = .standby ∨ s.ctl.op = .tripped) : s.silenceExpires = s.applyReset := by
  have dark : s.ctl.op ≠ .lit := by rcases state with h | h <;> rw [h] <;> nofun
  have still : s.silenceLost.ctl.op.moves = false := by
    change s.ctl.op.moves = false
    rcases state with h | h <;> rw [h] <;> rfl
  rw [State.silenceExpires_of_pending pending, s.silenceEnds_eq, if_neg dark]
  have queue := s.silenceLost.endSwitching_frame
  obtain ⟨axisH, axisV⟩ := State.endSwitching_axes still
  exact State.applyReset_congr queue.pending queue.resetAsserted queue.locked queue.temps queue.freeCount axisH axisV

/-- Settles O43: the counts below the fourth tick, and the expiry in each operating state. -/
theorem silenceCounterExpires : Obligations.SilenceCounterExpires := by
  intro s c live
  refine ⟨fun unarmed => ⟨?_, ?_⟩, fun armed few => ?_, fun armed hc => ?_⟩
  · have tick : exec .silenceTick s = .next s.silenceCounts := congrArg _ (State.whenLive_of_live live _)
    rw [tick, State.silenceCounts, if_neg (by simp [unarmed])]
  · have expiry : exec .silenceExpiry s = .next (if s.ctl.armed then s.silenceExpires else s) :=
      congrArg _ (State.whenLive_of_live live _)
    rw [expiry, if_neg (by simp [unarmed])]
  · have tick : exec .silenceTick s = .next s.silenceCounts := congrArg _ (State.whenLive_of_live live _)
    have below : ¬ Config.silenceLimit ≤ s.ctl.silence + 1 := by
      change ¬ 4 ≤ _
      omega
    rw [tick, State.silenceCounts, if_pos armed, if_neg below]
    rfl
  · rw [exec_silence_expires live armed hc]
    refine ⟨fun pending state => ?_, fun settled => ?_⟩
    · rw [State.silenceExpires_reset pending state]
      exact congrArg (fun u : State => Host.Outcome.next u.applyReset) (State.setResetAsserted_false live).symm
    · have ends : s.silenceExpires = s.silenceEnds := by rw [s.silenceExpires_eq, settled]; rfl
      rw [ends, s.silenceEnds_eq]
      refine ⟨fun dark noRecall => ?_, fun lit => ?_⟩
      · rw [if_neg dark, State.endSwitching_of_not (s := s.silenceLost) noRecall]
        rfl
      · rw [if_pos lit]
        have flag : (s.silenceLost.changeState .cooldown).endSwitching.chan.flag .linkLost = true :=
          (flag_queueClosed _).endSwitching (State.changeState_flag (s := s.silenceLost) (ChanState.flag_raise ..) _)
        obtain ⟨ctl, ⟨safety, applied⟩, lightEn, unheld, zoneCtl, fanDrv, grid⟩ :=
          (State.changeState_darkened (s := s.silenceLost) lit).endSwitching
        exact ⟨_, rfl, ctl, safety, lightEn, applied, unheld, flag, zoneCtl, fanDrv, grid⟩

end Sys2Proof.Machine
end

section
/-! PROOF. O41: LIGHT_ON. -/

namespace Sys2Proof.Machine

/-! ### The first condition of LIGHT_ON that fails (R118) -/

/-- Where no zone meets a condition, `find?` finds none. -/
theorem ZoneId.find_all_eq_none {p : ZoneId → Bool} (h : ∀ z, p z = false) : ZoneId.all.find? p = none :=
  List.find?_eq_none.2 fun z _ => Bool.eq_false_iff.1 (h z)

section

variable {s : State}

theorem State.lightOnBar_blind {z : ZoneId} (blind : (s.zone z).blind = true)
    (first : ∀ y : ZoneId, y.code < z.code → (s.zone y).blind = false) : s.lightOnBar = some (.zoneBlind, some z) := by
  rw [State.lightOnBar, ZoneId.find_all_of_first (p := s.isBlind) blind first]

theorem State.lightOnBar_fan (seen : ∀ z, (s.zone z).blind = false) (failed : (s.fan .f0).state = .failed) :
    s.lightOnBar = some (.fanLoss, none) := by
  rw [State.lightOnBar, ZoneId.find_all_eq_none (p := s.isBlind) seen]
  exact if_pos (decide_eq_true failed)

theorem State.lightOnBar_of_works (seen : ∀ z, (s.zone z).blind = false) (works : (s.fan .f0).state ≠ .failed) :
    s.lightOnBar = if s.ctl.op = .cooldown then (ZoneId.all.find? s.aboveDerate).map fun z => (.zoneHot, some z) else none := by
  rw [State.lightOnBar, ZoneId.find_all_eq_none (p := s.isBlind) seen]
  refine (if_neg (by simp [State.f0Failed, works])).trans ?_
  cases ZoneId.all.find? s.aboveDerate <;> rfl

/-! ### LIGHT_ON as its owner takes it (R118) -/

theorem lightOn_of_dark (dark : s.ctl.op = .standby ∨ s.ctl.op = .cooldown) : lightOn s = tryLight s := by
  unfold lightOn
  rcases dark with op | op <;> rw [op]

/-- A LIGHT_ON that a condition bars is answered with the reason and its zone (R118). -/
theorem exec_lightOn_barred (takes : s.takes) (tag : Byte) (dark : s.ctl.op = .standby ∨ s.ctl.op = .cooldown)
    {b : HotReason × Option ZoneId} (bar : s.lightOnBar = some b) :
    exec (.lightOn tag) s = .next (s.onlyAnswered tag .refusedHot (Reply.hot b).data) := by
  have bar' : s.countTaken.lightOnBar = some b := bar
  have barred : lightOn s.countTaken = (s.countTaken, .hot b) := by
    rw [lightOn_of_dark (s := s.countTaken) dark, tryLight, bar']
  exact congrArg _ (State.takePacket_same takes tag barred)

/-- A change to LIT from a dark state writes the operating state alone where no request waits (R117). -/
theorem State.changeState_lit (dark : s.ctl.op = .standby ∨ s.ctl.op = .cooldown) (queue : s.motion.queue = []) :
    s.changeState .lit = s.writeOp .lit := by
  have left : (s.writeOp .lit).leave s.ctl.op = s.writeOp .lit := by rcases dark with op | op <;> rw [op] <;> rfl
  rw [State.changeState, left]
  exact State.pump_empty _ queue

/-- SAFETY raised to full moves the target alone, and the applied level follows by the ramp (R57 to R59). -/
theorem Light.setSafety_lit {l : Light} (motion : l.applied ≤ l.motion) (full : l.applied ≤ 4095) :
    ∃ light : Light, l.setSafety true = light ∧
      light = { l with safety := 4095, lightEn := true, target := light.target, governing := light.governing } ∧
      light.target = min (min 4095 l.motion) (min l.thermal l.user) := by
  have raised : l.setSafety true = _ := Light.reform_of_le (l := { l with safety := 4095, lightEn := true }) full motion
  exact ⟨_, raised, rfl, rfl⟩

end

/-- Settles O41: the conditions in R118's order, and the change to LIT where none fails. -/
theorem lightOnIsJudged : Obligations.LightOnIsJudged := by
  intro s tag takes
  refine ⟨fun lit => ?_, fun tripped => ?_, fun dark => ⟨fun z blind first => ?_, fun seen => ⟨fun failed => ?_, fun works =>
    ⟨fun z cooldown hot first => ?_, fun cool queue motion full => ?_⟩⟩⟩⟩
  · have same : lightOn s.countTaken = (s.countTaken, .ok) := by
      rw [lightOn, show s.countTaken.ctl.op = .lit from lit]
    exact congrArg _ (State.takePacket_same takes tag same)
  · have refused : lightOn s.countTaken = answer .refusedState s.countTaken := by
      rw [lightOn, show s.countTaken.ctl.op = .tripped from tripped]
    exact congrArg _ (State.takePacket_answer takes tag refused)
  · exact exec_lightOn_barred takes tag dark (State.lightOnBar_blind blind first)
  · exact exec_lightOn_barred takes tag dark (State.lightOnBar_fan seen failed)
  · have found : ZoneId.all.find? s.aboveDerate = some z := ZoneId.find_all_of_first ((s.hotAt_iff _ z).2 hot)
      fun y below => (s.hotAt_eq_false_iff _ y).2 (first y below)
    have bar := State.lightOnBar_of_works seen works
    rw [if_pos cooldown, found] at bar
    exact exec_lightOn_barred takes tag dark bar
  · have bar : s.countTaken.lightOnBar = none := by
      have judged := State.lightOnBar_of_works seen works
      split at judged
      · rename_i cooldown
        rwa [ZoneId.find_all_eq_none (p := s.aboveDerate) fun z => (s.hotAt_eq_false_iff _ z).2 (cool cooldown z)] at judged
      · exact judged
    have taken : lightOn s.countTaken = (s.countTaken.writeOp .lit, .ok) := by
      rw [lightOn_of_dark (s := s.countTaken) dark, tryLight, bar, ← State.changeState_lit (s := s.countTaken) dark queue]
    obtain ⟨light, raised, written, target⟩ := Light.setSafety_lit motion full
    refine ⟨light, ?_, written, target⟩
    rw [← raised]
    refine (congrArg Host.Outcome.next (State.takePacket_work takes tag taken)).trans ?_
    rw [State.writeOp_eq]
    rfl

end Sys2Proof.Machine
end

section
/-! PROOF. O42: what the motion queue can make of an axis. -/

namespace Sys2Proof.Machine

/-- A predicate on an axis that everything the motion queue does to one keeps. -/
structure AxisClosed (Q : Axis → Prop) : Prop where
  stop : ∀ x, Q x → Q x.stopRequest.1
  move : ∀ x d n, Q x → Q (x.takeMove d n).1
  homing : ∀ x, Q x → Q x.takeHoming
  approach : ∀ x, Q x → Q x.grantApproach.1

/-- Both axes meet a predicate. -/
def State.AxesMeet (s : State) (Q : Axis → Prop) : Prop := ∀ a, Q (s.axis a)

namespace State.AxesMeet

variable {Q : Axis → Prop} {s t : State}

theorem of_axes (h : s.AxesMeet Q) (axisH : t.axisH = s.axisH) (axisV : t.axisV = s.axisV) : t.AxesMeet Q
  | .h => (congrArg Q axisH).mpr (h .h)
  | .v => (congrArg Q axisV).mpr (h .v)

theorem setAxis (h : s.AxesMeet Q) {a : AxisId} {x : Axis} (hx : Q x) : (s.setAxis a x).AxesMeet Q := by
  intro b
  cases a <;> cases b
  · exact hx
  · exact h .v
  · exact h .h
  · exact hx

theorem endRequest (h : s.AxesMeet Q) (res : MotionResult) : (s.endRequest res).AxesMeet Q := by
  cases hx : s.motion.executing with
  | none =>
    rw [State.endRequest, hx]
    exact h
  | some x =>
    obtain ⟨-, axisH, axisV, -⟩ := State.endRequest_values hx res
    exact h.of_axes axisH axisV

/-! ### What the axes hand over (R147, R157) -/

theorem stopAside (h : s.AxesMeet Q) (c : AxisClosed Q) (a : AxisId) : (s.stopAside a).AxesMeet Q :=
  iteInduction (motive := fun u : State => u.AxesMeet Q) (fun _ => h.setAxis (c.stop _ (h a))) fun _ => h

theorem stopRequestAxes (h : s.AxesMeet Q) (c : AxisClosed Q) (x : Executing) : (s.stopRequestAxes x).AxesMeet Q := by
  have first : (if x.hWork = .active then s.stopAside .h else s).AxesMeet Q :=
    iteInduction (motive := fun u : State => u.AxesMeet Q) (fun _ => h.stopAside c .h) fun _ => h
  exact iteInduction (motive := fun u : State => u.AxesMeet Q) (fun _ => first.stopAside c .v) fun _ => first

theorem noteOutcome (h : s.AxesMeet Q) (c : AxisClosed Q) (a : AxisId) (o : AxisOutcome) : (s.noteOutcome a o).AxesMeet Q := by
  unfold State.noteOutcome
  split
  · exact h
  · split
    · cases o with
      | done _ | stopped => exact h.of_axes rfl rfl
      | endstop _ => exact (h.endRequest _).stopRequestAxes c _
      | homeFail => exact h.endRequest _
    · exact h

theorem takeEvent (h : s.AxesMeet Q) (c : AxisClosed Q) (a : AxisId) (e : AxisEvent) : (s.takeEvent a e).AxesMeet Q := by
  cases e with
  | quiet | asks => exact h
  | outcome o =>
    have flagged : (o.flags s).AxesMeet Q := by cases o <;> exact h.of_axes rfl rfl
    exact flagged.noteOutcome c a o

/-! ### Leg starts (R155) -/

theorem beginAxis (h : s.AxesMeet Q) (c : AxisClosed Q) (x : Executing) (a : AxisId) : (s.beginAxis x a).1.AxesMeet Q := by
  have begun : Q (if x.work a = .active then (s.axis a).grantApproach
      else if x.req.job.isHome then ((s.axis a).takeHoming, .quiet)
      else (s.axis a).takeMove (s.approachOf a) (x.target a)).1 := by
    split
    · exact c.approach _ (h a)
    · split
      · exact c.homing _ (h a)
      · exact c.move _ _ _ (h a)
  exact h.setAxis begun

theorem startOne (h : s.AxesMeet Q) (c : AxisClosed Q) (x : Executing) (a : AxisId) : (s.startOne x a).1.AxesMeet Q := by
  have resumed : (s.resume (x.setWork a .active)).AxesMeet Q := h.of_axes rfl rfl
  cases a <;> exact resumed.beginAxis c x _

theorem startBoth (h : s.AxesMeet Q) (c : AxisClosed Q) (x : Executing) : (s.startBoth x).1.AxesMeet Q := by
  have resumed : (s.resume ((x.setWork .h .active).setWork .v .active)).AxesMeet Q := h.of_axes rfl rfl
  exact (resumed.beginAxis c x .h).beginAxis c x .v

theorem holdStart (h : s.AxesMeet Q) (x : Executing) : (s.holdStart x).AxesMeet Q := by
  unfold State.holdStart
  split
  · exact h.of_axes rfl rfl
  · split
    · exact h
    · exact h.of_axes rfl rfl

theorem judgeRail (h : s.AxesMeet Q) (c : AxisClosed Q) (x : Executing) : (s.judgeRail x).1.AxesMeet Q := by
  unfold State.judgeRail
  split
  · split
    · exact h.startBoth c x
    · split
      · exact h.startOne c _ _
      · exact h.holdStart x
  · split
    · exact h.startOne c _ _
    · exact h.holdStart x
  · split
    · exact h.startOne c _ _
    · exact h.holdStart x
  · exact h

/-! ### The executing request, and the head (R153, R157, R159) -/

theorem finishWork (h : s.AxesMeet Q) (x : Executing) : (s.finishWork x).AxesMeet Q := by
  have switching (n : Fin 4) : (s.enterSwitching x n).AxesMeet Q := by
    let u := (s.setWarp { s.warp with choice := some { slot := some n, origin := .recall x.req.tag } }).setExecuting
      (some (x.setPhase .switching))
    have placed : u.AxesMeet Q := h.of_axes rfl rfl
    exact iteInduction (motive := fun u : State => u.AxesMeet Q) (fun _ => placed) fun _ => placed.endRequest _
  unfold State.finishWork
  split
  · split
    · exact h.endRequest _
    · split
      · exact switching _
      · exact h.endRequest _
  all_goals exact h.endRequest _

theorem carryOn (h : s.AxesMeet Q) (c : AxisClosed Q) (n : Nat) : (s.carryOn n).AxesMeet Q := by
  induction n generalizing s with
  | zero => exact h
  | succ n ih =>
    unfold State.carryOn
    split
    · exact h
    · rename_i x _
      have judged := h.judgeRail c x
      split
      · exact h
      · split
        · split
          · exact h
          · exact h.endRequest _
        · split
          · exact h.finishWork x
          · split
            · rename_i t heq
              rwa [heq] at judged
            · rename_i t eh ev _ heq
              rw [heq] at judged
              exact ih ((judged.takeEvent c .h eh).takeEvent c .v ev)

theorem handIdle (h : s.AxesMeet Q) (c : AxisClosed Q) (a : AxisId) : (s.handIdle a).AxesMeet Q := by
  unfold State.handIdle
  split
  · exact h
  · rename_i x _
    split
    · have handed : (s.setExecuting (some (x.setWork a .active))).AxesMeet Q := h.of_axes rfl rfl
      exact (handed.setAxis (c.move _ _ _ (h a))).takeEvent c _ _
    · exact h

theorem startRequest (h : s.AxesMeet Q) (c : AxisClosed Q) (r : Request) : (s.startRequest r).AxesMeet Q := by
  have held (t : State) (ht : t.AxesMeet Q) : (t.takeHold r.job).AxesMeet Q := by
    unfold State.takeHold
    split
    · split
      · exact ht.of_axes rfl rfl
      · exact ht
    all_goals exact ht
  have executing : (s.setExecuting (some (s.executingOf r))).AxesMeet Q := h.of_axes rfl rfl
  exact iteInduction (motive := fun u : State => u.AxesMeet Q) (fun _ => executing.endRequest _) fun _ =>
    (((held _ executing).handIdle c .h).handIdle c .v).carryOn c _

theorem startHeads (h : s.AxesMeet Q) (c : AxisClosed Q) (n : Nat) : (s.startHeads n).AxesMeet Q := by
  induction n generalizing s with
  | zero => exact h
  | succ n ih =>
    unfold State.startHeads
    split
    · exact h
    · rename_i r rest _
      split
      · have taken : (s.setMotion { s.motion with queue := rest }).AxesMeet Q := h.of_axes rfl rfl
        exact ih (taken.startRequest c r)
      · exact h

/-- What the queue starts keeps the predicate on both axes (R153). -/
theorem pump (h : s.AxesMeet Q) (c : AxisClosed Q) : s.pump.AxesMeet Q := h.startHeads c _

end State.AxesMeet

/-! ### Axes that stay energised (R133) -/

theorem Axis.checkEndstops_on {x : Axis} (on : x.state ≠ .off) : x.checkEndstops.1.state ≠ .off := by
  rcases x.checkEndstops_cases with ⟨-, side, e⟩ | ⟨-, e⟩ <;> rw [e]
  · nofun
  · exact on

/-- The motion queue de-energises no axis: only the entry to STANDBY does (R133). -/
theorem energised_axisClosed : AxisClosed fun x => x.state ≠ .off where
  stop x on := by
    unfold Axis.stopRequest
    split
    case h_1 | h_2 | h_3 => nofun
    case h_4 => split <;> nofun
    case h_5 | h_6 | h_7 => exact on
  move x d n on := by
    unfold Axis.takeMove
    dsimp only
    split
    · exact on
    · exact Axis.checkEndstops_on nofun
  homing x _ := by
    unfold Axis.takeHoming
    dsimp only
    split <;> nofun
  approach x on := by
    unfold Axis.grantApproach
    split
    · exact on
    · split
      · split
        · exact Axis.checkEndstops_on on
        · nofun
      · exact Axis.checkEndstops_on on

theorem Axis.energise_on (x : Axis) : x.energise.state ≠ .off := by
  unfold Axis.energise
  split
  · nofun
  · assumption

end Sys2Proof.Machine
end

section
/-! PROOF. O42: LIGHT_OFF and CLEAR_TRIP. -/

namespace Sys2Proof.Machine

/-! ### A packet's entry (R170) -/

/-- A packet whose owner changes the operating state leaves its entry at the back of the list. -/
theorem State.changeState_entries (s : State) (new : OpState) (tag : Byte) (r : Reply) :
    ((s.countTaken.changeState new).addEntry tag r).chan.entries = s.chan.entries ++ [{ tag := tag, reply := r }] := by
  have kept : (s.countTaken.changeState new).chan.entries = s.chan.entries :=
    (congrArg ChanState.entries (s.countTaken.changeState_frame new).1.entries :)
  rw [← kept]
  rfl

/-! ### From TRIPPED to COOLDOWN (R106, R117, R123) -/

/-- The ceiling in force by the demands handed at the last control tick (R105, R106). -/
theorem State.ceilingFor_handed (s : State) (f : FanId) (x : Fan) : s.fanDrv.ceilingFor s.capLost f x =
    if (s.fan .f1).state = .failed ∨ (s.fan .f2).state = .failed ∨
        ∃ h ∈ s.fanDrv.handed.toList, inMask h.mask f = true ∧ h.blind = true then 1023
    else x.modeCeiling s.fanDrv.handedMode := by
  have blind : ((s.fanDrv.serving f).any fun h => h.blind) = true ↔
      ∃ h ∈ s.fanDrv.handed.toList, inMask h.mask f = true ∧ h.blind = true := by
    simp only [FanDrv.serving, List.any_eq_true, List.mem_filter, and_assoc]
  refine if_congr ?_ rfl rfl
  rw [Bool.or_eq_true, s.capLost_iff, blind, or_assoc]

/-- What the departure from TRIPPED to COOLDOWN makes of the part: dark as it was, the run-on at 0, the axes energised, and the
fans formed from the demands handed (R57, R106, R116, R133). -/
structure State.Cleared (s t : State) : Prop where
  ctl : t.ctl = { s.ctl with op := .cooldown, runOn := some 0 }
  lightEn : t.light.lightEn = false
  axes : t.AxesMeet fun x => x.state ≠ .off
  fans : ∀ f, t.fan f = s.fanDrv.formed s.capLost f (s.fan f)

theorem State.changeState_cleared {s : State} (tripped : s.ctl.op = .tripped) : s.Cleared (s.changeState .cooldown) := by
  let w := s.writeOp .cooldown
  have eq : s.changeState .cooldown = w.formFans.pump := by rw [State.changeState, tripped]; rfl
  have dark : w.formFans.light.lightEn = false := Light.reform_lightEn _
  have energised : w.formFans.AxesMeet fun x => x.state ≠ .off
    | .h => s.axisH.energise_on
    | .v => s.axisV.energise_on
  have ctl := (s.changeState_frame .cooldown).2
  rw [eq] at ctl ⊢
  refine ⟨ctl, (lightEn_closed false).pump dark, energised.pump energised_axisClosed, fun f => ?_⟩
  rw [State.fan, w.formFans.pump_frame.fanDrv]
  exact FanDrv.each_fans ..

/-- The fans formed so take their duties as `Fan.FormedFrom` says (R105). -/
theorem State.Cleared.formedFrom {s t : State} (h : s.Cleared t) (f : FanId) :
    (s.fan f).FormedFrom (t.fan f)
      (((s.fanDrv.handed.toList.filter fun h => inMask h.mask f).map fun h =>
        match h.demand with
        | .duty d => d
        | .guard => (s.fan f).minDuty).foldl max 0)
      (if (s.fan .f1).state = .failed ∨ (s.fan .f2).state = .failed ∨
          ∃ h ∈ s.fanDrv.handed.toList, inMask h.mask f = true ∧ h.blind = true then 1023
        else (s.fan f).modeCeiling s.fanDrv.handedMode) := by
  rw [h.fans f, ← s.ceilingFor_handed]
  exact s.fanDrv.formed_formedFrom s.capLost f (s.fan f)

/-! ### CLEAR_TRIP as its owner takes it (R123) -/

section

variable {s : State}

theorem State.clearTripBar_comparator (on : s.temps.comparator.state = .tripped) :
    s.clearTripBar = some (.comparator, none) := if_pos on

theorem State.clearTripBar_hot (released : s.temps.comparator.state = .released) {z : ZoneId} (hot : s.nearTrip z = true)
    (first : ∀ y : ZoneId, y.code < z.code → s.nearTrip y = false) : s.clearTripBar = some (.zoneHot, some z) := by
  rw [State.clearTripBar, released, ZoneId.find_all_of_first hot first]
  rfl

theorem State.clearTripBar_of_cool (released : s.temps.comparator.state = .released) (cool : ∀ z, s.nearTrip z = false) :
    s.clearTripBar = if (s.fan .f0).state = .failed then some (.fanLoss, none) else none := by
  rw [State.clearTripBar, released, ZoneId.find_all_eq_none cool]
  exact (if_neg nofun).trans (if_congr decide_eq_true_iff rfl rfl)

/-- A CLEAR_TRIP that a condition bars is answered with the reason and its zone (R123). -/
theorem exec_clearTrip_barred (takes : s.takes) (tag : Byte) (tripped : s.ctl.op = .tripped) {b : HotReason × Option ZoneId}
    (bar : s.clearTripBar = some b) : exec (.clearTrip tag) s = .next (s.onlyAnswered tag .refusedHot (Reply.hot b).data) := by
  have bar' : s.countTaken.clearTripBar = some b := bar
  have tripped' : s.countTaken.ctl.op = .tripped := tripped
  have barred : clearTrip s.countTaken = (s.countTaken, .hot b) := by rw [clearTrip, if_pos tripped', bar']
  exact congrArg _ (State.takePacket_same takes tag barred)

theorem exec_clearTrip_taken (takes : s.takes) (tag : Byte) (tripped : s.ctl.op = .tripped) (bar : s.clearTripBar = none) :
    exec (.clearTrip tag) s = .next ((s.countTaken.changeState .cooldown).addEntry tag .ok) := by
  have bar' : s.countTaken.clearTripBar = none := bar
  have tripped' : s.countTaken.ctl.op = .tripped := tripped
  have taken : clearTrip s.countTaken = (s.countTaken.changeState .cooldown, .ok) := by rw [clearTrip, if_pos tripped', bar']
  exact congrArg _ (State.takePacket_work takes tag taken)

end

/-- Settles O42: each command in the other states and in its own, CLEAR_TRIP by R123's order of conditions. -/
theorem lightOffAndClearTrip : Obligations.LightOffAndClearTrip := by
  intro s tag takes
  refine ⟨fun dark => ?_, fun lit => ?_, fun works => ?_, fun tripped => ⟨fun on => ?_, fun released =>
    ⟨fun z hot first => ?_, fun cool => ?_⟩⟩⟩
  · have same : lightOff s.countTaken = (s.countTaken, .ok) := congrArg (·, Reply.ok) (if_neg dark)
    exact congrArg _ (State.takePacket_same takes tag same)
  · have taken : lightOff s.countTaken = (s.countTaken.changeState .cooldown, .ok) := congrArg (·, Reply.ok) (if_pos lit)
    obtain ⟨ctl, ⟨safety, applied⟩, lightEn, unheld, zoneCtl, fanDrv, -⟩ := State.changeState_darkened (s := s.countTaken) lit
    exact ⟨_, congrArg Host.Outcome.next (State.takePacket_work takes tag taken), ctl, safety, lightEn, applied, unheld, zoneCtl, fanDrv,
      s.changeState_entries .cooldown tag .ok⟩
  · have same : clearTrip s.countTaken = (s.countTaken, .ok) := if_neg works
    exact congrArg _ (State.takePacket_same takes tag same)
  · exact exec_clearTrip_barred takes tag tripped (State.clearTripBar_comparator on)
  · exact exec_clearTrip_barred takes tag tripped (State.clearTripBar_hot released ((s.hotAt_iff _ z).2 hot)
      fun y below => (s.hotAt_eq_false_iff _ y).2 (first y below))
  · have bar := State.clearTripBar_of_cool released fun z => (s.hotAt_eq_false_iff _ z).2 (cool z)
    refine ⟨fun failed => ?_, fun turns => ?_⟩
    · rw [if_pos failed] at bar
      exact exec_clearTrip_barred takes tag tripped bar
    · rw [if_neg turns] at bar
      have cleared := State.changeState_cleared (s := s.countTaken) tripped
      refine ⟨_, exec_clearTrip_taken takes tag tripped bar, cleared.ctl, cleared.lightEn, cleared.axes .h, cleared.axes .v,
        s.changeState_entries .cooldown tag .ok, fun f ceiling hceiling => ?_⟩
      rw [hceiling]
      exact cleared.formedFrom f

end Sys2Proof.Machine
end

section
/-! PROOF. O59: what each axis operation makes of a record that is in its form. -/

namespace Sys2Proof.Machine

/-! ### The end of a leg (R132, R134, R136) -/

/-- The end of a running leg lies within a limit, direction by direction. -/
theorem Axis.legEndsWithin_iff {x : Axis} {l : Leg} (leg : x.leg = some l) (limit : Nat) : x.legEndsWithin limit ↔
    (l.dir = .positive → x.position + l.left ≤ limit) ∧ (l.dir = .negative → l.left ≤ x.position) := by
  rw [Axis.legEndsWithin, leg]
  cases h : l.dir <;> simp [h]

theorem Axis.legEndsWithin_none {x : Axis} (leg : x.leg = none) (limit : Nat) : x.legEndsWithin limit := by
  rw [Axis.legEndsWithin, leg]
  trivial

/-- Steps along a leg move the position toward its end, which stays where it is (R134). -/
theorem Axis.stepped_within {x : Axis} {l : Leg} {limit steps : Nat} (leg : x.leg = some l) (ends : x.legEndsWithin limit)
    (few : steps ≤ l.left) (stands : x.position ≤ limit) : stepped x.position l.dir steps ≤ limit ∧
      ∀ y : Axis, y.leg = some { l with left := l.left - steps } → y.position = stepped x.position l.dir steps →
        y.legEndsWithin limit := by
  rw [Axis.legEndsWithin_iff leg] at ends
  obtain ⟨up, down⟩ := ends
  cases hd : l.dir with
  | positive =>
    have := up hd
    refine ⟨by simp only [stepped]; omega, fun y hl hp => (Axis.legEndsWithin_iff hl limit).2 ⟨fun _ => ?_, fun k => ?_⟩⟩
    · rw [hp]
      simp only [stepped]
      omega
    · cases k
  | negative =>
    have := down hd
    refine ⟨by simp only [stepped]; omega, fun y hl hp => (Axis.legEndsWithin_iff hl limit).2 ⟨fun k => ?_, fun _ => ?_⟩⟩
    · cases k
    · rw [hp]
      simp only [stepped]
      omega

/-- A leg toward a target within the limit ends there (R136). -/
theorem Axis.startLeg_within (x : Axis) {target limit : Nat} (within : target ≤ limit) : (x.startLeg target).legEndsWithin limit := by
  refine (Axis.legEndsWithin_iff (x := x.startLeg target) rfl limit).2 ?_
  simp only [towards, distance]
  split
  · refine ⟨nofun, fun _ => ?_⟩
    change _ ≤ x.position
    omega
  · refine ⟨fun _ => ?_, nofun⟩
    change x.position + _ ≤ limit
    omega

/-! ### One tick of an axis, by what it is doing (R134, R137, R141, R142, R145) -/

/-- The steps of a tick at a velocity, no more than what is left (R134). -/
def Axis.stepsAt (x : Axis) (v left : Nat) : Nat := min ((x.acc + v) / 1000) left

/-- The axis after some steps along its leg, with the velocity and the step accumulator that the tick leaves (R134, R137). -/
def Axis.ran (x : Axis) (l : Leg) (v acc steps : Nat) : Axis :=
  { x with
    vel := v, acc := acc, leg := some { l with left := l.left - steps }, position := stepped x.position l.dir steps
    pulses := steps }

/-- The axis after some steps of a stop, which leave the position where the axis was homing (R145). -/
def Axis.slowed (x : Axis) (l : Leg) (v acc steps : Nat) : Axis :=
  { x.ran l v acc steps with position := if x.stopHoming then x.position else stepped x.position l.dir steps }

/-- The axis after some steps of a homing, which leave the position and use up the allowance (R141, R142). -/
def Axis.sought (x : Axis) (v acc steps : Nat) : Axis :=
  { x with vel := v, acc := acc, allowance := x.allowance - steps, pulses := steps }

/-- The velocity of a stop after its first part of a tick (R145). -/
def Axis.stopVelocity (x : Axis) : Nat := if x.vel < x.vstart then x.vel else max (x.vel - x.accel) x.vstart

theorem Axis.legTick_eq (x : Axis) (l : Leg) {v steps : Nat} (hv : v = x.profileVelocity l.left)
    (hsteps : steps = x.stepsAt v l.left) : x.legTick l =
      if l.left - steps = 0 then (x.ran l v (x.acc + v - 1000 * steps) steps).legEnds
      else (x.ran l v (x.acc + v - 1000 * steps) steps, .quiet) := by
  subst hsteps hv
  rfl

theorem Axis.homingTick_eq (x : Axis) {v steps : Nat} (hsteps : steps = x.stepsAt v x.allowance) : x.homingTick v =
    if x.allowance - steps = 0 then ((x.sought v (x.acc + v - 1000 * steps) steps).homingFails, .outcome .homeFail)
    else (x.sought v (x.acc + v - 1000 * steps) steps, .quiet) := by
  subst hsteps
  rfl

theorem Axis.stopTick_eq (x : Axis) (l : Leg) {v steps : Nat} (hv : v = x.stopVelocity) (hsteps : steps = x.stepsAt v l.left) :
    x.stopTick l =
      if v ≤ x.vstart ∨ l.left - steps = 0 then ((x.slowed l v (x.acc + v - 1000 * steps) steps).stand, .outcome .stopped)
      else (x.slowed l v (x.acc + v - 1000 * steps) steps, .quiet) := by
  subst hsteps hv
  rfl

/-- What a tick does in each state: homing, running a leg, stopping, or nothing. -/
theorem Axis.tick_cases (x : Axis) :
    (x.state = .seek ∧ x.tick = x.homingTick (min (x.vel + x.accel) x.homeVel)) ∨
    (x.state = .release ∧ x.tick = x.homingTick x.vel) ∨
    (∃ l, x.leg = some l ∧ (x.state = .moving ∨ x.state = .approach) ∧ x.tick = x.legTick l) ∨
    (∃ l, x.leg = some l ∧ x.state = .stopping ∧ x.tick = x.stopTick l) ∨
    (x.state ≠ .seek ∧ x.state ≠ .release ∧
      (x.leg = none ∨ x.state ≠ .moving ∧ x.state ≠ .approach ∧ x.state ≠ .stopping) ∧ x.tick = ({ x with pulses := 0 }, .quiet)) := by
  cases hs : x.state <;> cases hl : x.leg <;> simp [Axis.tick, hs, hl]

/-! ### The invariant, by the places an axis can be in (R132, R133) -/

/-- The bound of an axis's travel: its travel limit once it is homed (R132). -/
def Axis.bound (x : Axis) : Nat := if x.homed then x.limit else 65535

/-- The part of the invariant that reads numbers alone: parameters and counts within their ranges. -/
structure Axis.InRange (x : Axis) : Prop where
  limit : x.limit ≤ 65535
  vmax : x.vmax ≤ 8000
  vstart : x.vstart ≤ 1000
  homeVel : x.homeVel ≤ 8000
  position : x.position ≤ x.bound
  vel : x.vel ≤ 8000
  acc : x.acc < 1000
  pulses : x.pulses ≤ 8
  allowance : x.allowance ≤ 73726

/-- The part of the invariant that ties legs, plans and the homed flag to the state. -/
structure Axis.Placed (x : Axis) : Prop where
  ends : ¬(x.state = .stopping ∧ x.stopHoming = true) → x.legEndsWithin x.bound
  plan : ∀ p ∈ x.plan, p.target ≤ x.limit
  homing : x.state = .seek ∨ x.state = .release → x.homed = false
  stopHoming : x.stopHoming = true → x.homed = false
  runs : x.state = .moving ∨ x.state = .stopping → x.leg.isSome = true
  rests : x.state = .off ∨ x.state = .idle ∨ x.state = .seek ∨ x.state = .release → x.leg = none
  noPlan : x.state = .off ∨ x.state = .idle → x.plan = none

theorem Axis.bound_le {x : Axis} (limit : x.limit ≤ 65535) : x.bound ≤ 65535 := by
  unfold Axis.bound
  split <;> omega

theorem Axis.bound_of_homed {x : Axis} (homed : x.homed = true) : x.bound = x.limit := if_pos homed

theorem Axis.limit_le_bound {x : Axis} (limit : x.limit ≤ 65535) : x.limit ≤ x.bound := by
  unfold Axis.bound
  split <;> omega

/-- The invariant is both parts. -/
theorem Axis.ok_iff (x : Axis) : x.Ok ↔ x.InRange ∧ x.Placed := by
  constructor
  · rintro ⟨⟨limit, vmax, vstart, homeVel⟩, position, vel, acc, pulses, allowance, travel, ends, plan, homing, stopHoming, runs,
      rests, noPlan⟩
    refine ⟨⟨limit, vmax, vstart, homeVel, ?_, vel, acc, pulses, allowance⟩, ⟨ends, plan, homing, stopHoming, runs, rests, noPlan⟩⟩
    unfold Axis.bound
    split
    · exact travel ‹_›
    · exact position
  · rintro ⟨r, p⟩
    exact ⟨⟨r.limit, r.vmax, r.vstart, r.homeVel⟩, r.position.trans (Axis.bound_le r.limit), r.vel, r.acc, r.pulses, r.allowance,
      fun homed => Axis.bound_of_homed homed ▸ r.position, p.ends, p.plan, p.homing, p.stopHoming, p.runs, p.rests, p.noPlan⟩

/-- An axis at rest in IDLE or OFF, without leg and plan, is placed. -/
theorem Axis.placed_of_rest {x : Axis} (state : x.state = .off ∨ x.state = .idle) (leg : x.leg = none) (plan : x.plan = none)
    (stopHoming : x.stopHoming = false) : x.Placed where
  ends _ := Axis.legEndsWithin_none leg _
  plan := by simp [plan]
  homing h := by rcases state with k | k <;> rw [k] at h <;> simp at h
  stopHoming h := by cases stopHoming.symm.trans h
  runs h := by rcases state with k | k <;> rw [k] at h <;> simp at h
  rests _ := leg
  noPlan _ := plan

/-- An axis that stands in IDLE, at a position within its travel (R133). -/
theorem Axis.Ok.stand_at {x : Axis} (h : x.Ok) {position pulses : Nat} {homed : Bool} (most : position ≤ 65535)
    (within : homed = true → position ≤ x.limit) (few : pulses ≤ 8) :
    ({ x.stand with position := position, homed := homed, pulses := pulses } : Axis).Ok := by
  obtain ⟨r, -⟩ := (Axis.ok_iff x).1 h
  refine (Axis.ok_iff _).2 ⟨⟨r.limit, r.vmax, r.vstart, r.homeVel, ?_, Nat.zero_le _, Nat.zero_lt_succ _, few, Nat.zero_le _⟩,
    Axis.placed_of_rest (.inr rfl) rfl rfl rfl⟩
  unfold Axis.bound
  split
  · exact within ‹_›
  · exact most

section

variable {x : Axis} (h : x.Ok)
include h

theorem Axis.Ok.limit : x.limit ≤ 65535 := ((Axis.ok_iff x).1 h).1.limit
theorem Axis.Ok.position : x.position ≤ 65535 := ((Axis.ok_iff x).1 h).1.position.trans (Axis.bound_le h.limit)
theorem Axis.Ok.travel (homed : x.homed = true) : x.position ≤ x.limit :=
  Axis.bound_of_homed homed ▸ ((Axis.ok_iff x).1 h).1.position
theorem Axis.Ok.pulses : x.pulses ≤ 8 := ((Axis.ok_iff x).1 h).1.pulses

theorem Axis.Ok.stand : x.stand.Ok := h.stand_at h.position h.travel h.pulses
theorem Axis.Ok.abrupt : x.abrupt.Ok := h.stand_at h.position nofun h.pulses
theorem Axis.Ok.homingFails : x.homingFails.Ok := h.stand_at (Nat.zero_le _) nofun h.pulses
theorem Axis.Ok.homeFound : x.homeFound.Ok := h.stand_at (Nat.zero_le _) (fun _ => Nat.zero_le _) h.pulses

theorem Axis.Ok.checkEndstops : x.checkEndstops.1.Ok := by
  rcases x.checkEndstops_cases with ⟨-, side, e⟩ | ⟨-, e⟩ <;> rw [e]
  · exact h.abrupt
  · exact h

/-- The state changes of R133 keep the invariant: OFF and IDLE have neither leg nor plan. -/
theorem Axis.Ok.enter (op : OpState) : (x.enter op).Ok := by
  obtain ⟨r, p⟩ := (Axis.ok_iff x).1 h
  have on : x.energise.Ok := by
    unfold Axis.energise
    split
    · rename_i off
      refine (Axis.ok_iff _).2 ⟨⟨r.1, r.2, r.3, r.4, r.5, r.6, r.7, r.8, r.9⟩, ?_⟩
      exact ⟨fun _ => Axis.legEndsWithin_none (p.rests (.inl off)) _, p.plan, nofun, p.stopHoming, nofun,
        fun _ => p.rests (.inl off), fun _ => p.noPlan (.inl off)⟩
    · exact h
  cases op with
  | standby =>
    exact (Axis.ok_iff _).2 ⟨⟨r.1, r.2, r.3, r.4, r.5, Nat.zero_le _, Nat.zero_lt_succ _, r.8, r.9⟩,
      Axis.placed_of_rest (.inl rfl) rfl rfl rfl⟩
  | lit | cooldown => exact on
  | tripped => exact h

/-! ### Legs and absolute moves (R134 to R136, R139, R140) -/

omit h in
/-- A leg that starts in MOVING or APPROACH toward a target within the travel limit (R136). -/
theorem Axis.InRange.startLeg_ok (r : x.InRange) (plan : ∀ p ∈ x.plan, p.target ≤ x.limit)
    (stopHoming : x.stopHoming = true → x.homed = false) (state : x.state = .moving ∨ x.state = .approach) {target : Nat}
    (within : target ≤ x.limit) : (x.startLeg target).Ok := by
  refine (Axis.ok_iff _).2 ⟨⟨r.1, r.2, r.3, r.4, r.5, r.3.trans (by decide), Nat.zero_lt_succ _, r.8, r.9⟩, ?_⟩
  have apart {st : AxisState} (k : x.state = st) (hm : st ≠ .moving) (ha : st ≠ .approach) : False :=
    state.elim (fun e => hm (k.symm.trans e)) fun e => ha (k.symm.trans e)
  exact {
    ends := fun _ => x.startLeg_within (within.trans (Axis.limit_le_bound r.limit))
    plan := plan
    homing := fun k => k.elim (fun k => (apart k nofun nofun).elim) fun k => (apart k nofun nofun).elim
    stopHoming := stopHoming
    runs := fun _ => rfl
    rests := fun k => by rcases k with k | k | k | k <;> exact (apart k nofun nofun).elim
    noPlan := fun k => by rcases k with k | k <;> exact (apart k nofun nofun).elim }

omit h in
theorem Axis.overshoot_le (x : Axis) (approach : Dir) {target : Nat} (within : target ≤ x.limit) :
    x.overshoot approach target ≤ x.limit := by
  cases approach <;> simp only [Axis.overshoot] <;> omega

theorem Axis.Ok.takeMove (approach : Dir) (target : Nat) : (x.takeMove approach target).1.Ok := by
  obtain ⟨r, p⟩ := (Axis.ok_iff x).1 h
  have limited : x.clampTarget target ≤ x.limit := Nat.min_le_right ..
  unfold Axis.takeMove
  dsimp only
  split
  · exact h
  · let owed := !inApproach approach x.position (x.clampTarget target)
    let y : Axis := { x with
      state := .moving, plan := some { target := x.clampTarget target, clamped := decide (x.limit < target), owed := owed } }
    have range : y.InRange := ⟨r.1, r.2, r.3, r.4, r.5, r.6, r.7, r.8, r.9⟩
    refine Axis.Ok.checkEndstops (range.startLeg_ok ?_ p.stopHoming (.inl rfl) ?_)
    · rintro q ⟨⟩
      exact limited
    · split
      · exact x.overshoot_le approach limited
      · exact limited

/-- An approach leg is granted to an axis that waits for it (R140). -/
theorem Axis.Ok.grantApproach (waits : x.waits = true) : x.grantApproach.1.Ok := by
  obtain ⟨r, p⟩ := (Axis.ok_iff x).1 h
  simp only [Axis.waits, Bool.and_eq_true, decide_eq_true_eq] at waits
  unfold Axis.grantApproach
  split
  · exact h
  · rename_i q hq
    have within := p.plan q hq
    split
    · split
      · exact h.checkEndstops
      · exact h.stand
    · let y : Axis := { x with plan := some { q with owed := false } }
      have range : y.InRange := ⟨r.1, r.2, r.3, r.4, r.5, r.6, r.7, r.8, r.9⟩
      refine Axis.Ok.checkEndstops (range.startLeg_ok ?_ p.stopHoming (.inr waits.1) within)
      rintro _ ⟨⟩
      exact within

/-! ### Homing (R141, R142) -/

omit h in
/-- An unhomed axis without a leg is placed in SEEK and RELEASE, whatever plan it keeps. -/
theorem Axis.placed_of_homing (state : x.state = .seek ∨ x.state = .release) (homed : x.homed = false) (leg : x.leg = none)
    (plan : ∀ p ∈ x.plan, p.target ≤ x.limit) : x.Placed where
  ends _ := Axis.legEndsWithin_none leg _
  plan := plan
  homing _ := homed
  stopHoming _ := homed
  runs k := by rcases state with e | e <;> rw [e] at k <;> simp at k
  rests _ := leg
  noPlan k := by rcases state with e | e <;> rw [e] at k <;> simp at k

theorem Axis.Ok.beginRelease (homed : x.homed = false) (leg : x.leg = none) : x.beginRelease.Ok := by
  obtain ⟨⟨limit, vmax, vstart, homeVel, position, vel, acc, pulses, allowance⟩, p⟩ := (Axis.ok_iff x).1 h
  refine (Axis.ok_iff _).2 ⟨⟨limit, vmax, vstart, homeVel, position, ?_, Nat.zero_lt_succ _, pulses, ?_⟩,
    Axis.placed_of_homing (.inr rfl) homed leg p.plan⟩
  · change x.homeVel / 4 ≤ 8000
    omega
  · change x.limit / 8 ≤ 73726
    omega

theorem Axis.Ok.takeHoming : x.takeHoming.Ok := by
  obtain ⟨⟨limit, vmax, vstart, homeVel, position, vel, acc, pulses, allowance⟩, p⟩ := (Axis.ok_iff x).1 h
  let y : Axis := { x with
    homed := false, position := 0, allowance := x.limit + x.limit / 8, state := .seek, dirPin := false, vel := x.vstart
    acc := 0, leg := none, plan := none }
  have seeks : y.Ok := by
    refine (Axis.ok_iff _).2 ⟨⟨limit, vmax, vstart, homeVel, Nat.zero_le _, ?_, Nat.zero_lt_succ _, pulses, ?_⟩,
      Axis.placed_of_homing (.inl rfl) rfl rfl nofun⟩
    · change x.vstart ≤ 8000
      omega
    · change x.limit + x.limit / 8 ≤ 73726
      omega
  exact iteInduction (motive := Axis.Ok) (fun _ => seeks.beginRelease rfl rfl) fun _ => seeks

/-! ### Stop requests (R145, R146) -/

theorem Axis.Ok.stopFromHoming (homing : x.state = .seek ∨ x.state = .release) (d : Dir) : (x.stopFromHoming d).Ok := by
  obtain ⟨r, p⟩ := (Axis.ok_iff x).1 h
  refine (Axis.ok_iff _).2 ⟨⟨r.1, r.2, r.3, r.4, r.5, r.6, r.7, r.8, Nat.zero_le _⟩, ?_⟩
  exact ⟨fun k => (k ⟨rfl, rfl⟩).elim, p.plan, fun _ => p.homing homing, fun _ => p.homing homing, fun _ => rfl, nofun, nofun⟩

/-- An axis on a leg of a move is brought to a stop within that leg (R145). -/
theorem Axis.Ok.stopFromLeg (state : x.state ≠ .stopping) (leg : x.leg.isSome = true) :
    ({ x with state := .stopping, stopHoming := false } : Axis).Ok := by
  obtain ⟨r, p⟩ := (Axis.ok_iff x).1 h
  refine (Axis.ok_iff _).2 ⟨⟨r.1, r.2, r.3, r.4, r.5, r.6, r.7, r.8, r.9⟩, ?_⟩
  exact ⟨fun _ => p.ends fun k => state k.1, p.plan, nofun, nofun, fun _ => leg, nofun, nofun⟩

theorem Axis.Ok.stopRequest : x.stopRequest.1.Ok := by
  obtain ⟨-, p⟩ := (Axis.ok_iff x).1 h
  cases hs : x.state with
  | seek =>
    rw [Axis.stopRequest, hs]
    exact h.stopFromHoming (.inl hs) _
  | release =>
    rw [Axis.stopRequest, hs]
    exact h.stopFromHoming (.inr hs) _
  | moving =>
    rw [Axis.stopRequest, hs]
    exact h.stopFromLeg (by simp [hs]) (p.runs (.inl hs))
  | approach =>
    rw [Axis.stopRequest, hs]
    dsimp only
    split
    · exact h.stopFromLeg (by simp [hs]) ‹_›
    · exact h.stand
  | off | idle | stopping => rwa [Axis.stopRequest, hs]

/-! ### The profile tick (R137, R141, R142, R145) -/

omit h in
/-- A tick makes at most 8 steps, and leaves less than 1,000 in the accumulator unless it has come to the end (R134). -/
theorem Axis.InRange.steps_bounds (r : x.InRange) {v left steps : Nat} (slow : v ≤ 8000) (hsteps : steps = x.stepsAt v left) :
    steps ≤ 8 ∧ steps ≤ left ∧ (left - steps ≠ 0 → x.acc + v - 1000 * steps < 1000) := by
  have := r.acc
  rw [Axis.stepsAt] at hsteps
  omega

omit h in
theorem Axis.InRange.velocities (r : x.InRange) (left : Nat) : x.profileVelocity left ≤ 8000 ∧ x.stopVelocity ≤ 8000 := by
  have := r.vel
  have := r.vstart
  have := r.vmax
  unfold Axis.profileVelocity Axis.stopVelocity
  constructor <;> split <;> omega

/-- An axis that steps along its leg, in MOVING, APPROACH or STOPPING (R134). -/
theorem Axis.Ok.ran {l : Leg} (leg : x.leg = some l) (ends : x.legEndsWithin x.bound) {v acc steps : Nat}
    (slow : v ≤ 8000) (low : acc < 1000) (few : steps ≤ 8) (short : steps ≤ l.left) : (x.ran l v acc steps).Ok := by
  obtain ⟨r, p⟩ := (Axis.ok_iff x).1 h
  obtain ⟨within, rest⟩ := Axis.stepped_within leg ends short r.position
  refine (Axis.ok_iff _).2 ⟨⟨r.1, r.2, r.3, r.4, within, slow, low, few, r.9⟩, ?_⟩
  refine ⟨fun _ => rest _ rfl rfl, p.plan, p.homing, p.stopHoming, fun _ => rfl, fun k => ?_, p.noPlan⟩
  cases leg.symm.trans (p.rests k)

theorem Axis.Ok.slowed {l : Leg} (leg : x.leg = some l) (state : x.state = .stopping) {v acc steps : Nat}
    (slow : v ≤ 8000) (low : acc < 1000) (few : steps ≤ 8) (short : steps ≤ l.left) : (x.slowed l v acc steps).Ok := by
  obtain ⟨r, p⟩ := (Axis.ok_iff x).1 h
  cases hs : x.stopHoming with
  | true =>
    have still : x.slowed l v acc steps = { x.ran l v acc steps with position := x.position } := by
      rw [Axis.slowed, hs]
      rfl
    rw [still]
    refine (Axis.ok_iff _).2 ⟨⟨r.1, r.2, r.3, r.4, r.5, slow, low, few, r.9⟩, ?_⟩
    exact ⟨fun k => (k ⟨state, hs⟩).elim, p.plan, p.homing, p.stopHoming, fun _ => rfl,
      fun k => (nomatch leg.symm.trans (p.rests k)), p.noPlan⟩
  | false =>
    have steps : x.slowed l v acc steps = x.ran l v acc steps := by
      rw [Axis.slowed, hs]
      rfl
    rw [steps]
    exact h.ran leg (p.ends fun k => nomatch hs.symm.trans k.2) slow low few short

/-- The state a leg leaves behind, or the stand (R137, R140). -/
theorem Axis.Ok.legEnds : x.legEnds.1.Ok := by
  obtain ⟨r, p⟩ := (Axis.ok_iff x).1 h
  unfold Axis.legEnds
  split
  · refine (Axis.ok_iff _).2 ⟨⟨r.1, r.2, r.3, r.4, r.5, Nat.zero_le _, Nat.zero_lt_succ _, r.8, r.9⟩, ?_⟩
    exact ⟨fun _ => Axis.legEndsWithin_none rfl _, p.plan, nofun, p.stopHoming, nofun, nofun, nofun⟩
  · exact h.stand

theorem Axis.Ok.legTick {l : Leg} (leg : x.leg = some l) (state : x.state = .moving ∨ x.state = .approach) : (x.legTick l).1.Ok := by
  obtain ⟨r, p⟩ := (Axis.ok_iff x).1 h
  have ends : x.legEndsWithin x.bound := p.ends fun k => by rcases state with e | e <;> rw [e] at k <;> simp at k
  have slow := (r.velocities l.left).1
  obtain ⟨few, short, low⟩ := r.steps_bounds slow rfl
  rw [x.legTick_eq l rfl rfl]
  split
  · have stopped := h.ran leg ends slow (Nat.zero_lt_succ 999) few short
    exact stopped.legEnds
  · exact h.ran leg ends slow (low ‹_›) few short

theorem Axis.Ok.homingTick {v : Nat} (state : x.state = .seek ∨ x.state = .release) (slow : v ≤ 8000) : (x.homingTick v).1.Ok := by
  obtain ⟨r, p⟩ := (Axis.ok_iff x).1 h
  obtain ⟨few, short, low⟩ := r.steps_bounds slow (left := x.allowance) rfl
  rw [x.homingTick_eq rfl]
  split
  · exact h.stand_at (Nat.zero_le _) nofun few
  · exact (Axis.ok_iff _).2 ⟨⟨r.1, r.2, r.3, r.4, r.5, slow, low ‹_›, few, (Nat.sub_le ..).trans r.9⟩,
      Axis.placed_of_homing state (p.homing state) (p.rests (by tauto)) p.plan⟩

theorem Axis.Ok.stopTick {l : Leg} (leg : x.leg = some l) (state : x.state = .stopping) : (x.stopTick l).1.Ok := by
  obtain ⟨r, -⟩ := (Axis.ok_iff x).1 h
  have slow := (r.velocities 0).2
  obtain ⟨few, short, low⟩ := r.steps_bounds slow (left := l.left) rfl
  rw [x.stopTick_eq l rfl rfl]
  split
  · exact (h.slowed leg state slow (Nat.zero_lt_succ 999) few short).stand
  · rename_i goes
    exact h.slowed leg state slow (low fun k => goes (.inr k)) few short

theorem Axis.Ok.tick : x.tick.1.Ok := by
  obtain ⟨r, p⟩ := (Axis.ok_iff x).1 h
  rcases x.tick_cases with ⟨state, e⟩ | ⟨state, e⟩ | ⟨l, leg, state, e⟩ | ⟨l, leg, state, e⟩ | ⟨-, -, -, e⟩ <;> rw [e]
  · exact h.homingTick (.inl state) ((Nat.min_le_right ..).trans r.homeVel)
  · exact h.homingTick (.inr state) r.vel
  · exact h.legTick leg state
  · exact h.stopTick leg state
  · exact (Axis.ok_iff _).2 ⟨⟨r.1, r.2, r.3, r.4, r.5, r.6, r.7, Nat.zero_le _, r.9⟩, p.1, p.2, p.3, p.4, p.5, p.6, p.7⟩

/-! ### End-stop changes (R135, R141 to R144) -/

/-- The pins and the latched flags are not read by the invariant. -/
theorem Axis.Ok.withPins {y : Axis} (e : y = { x with
    lowLevel := y.lowLevel, highLevel := y.highLevel, lowLatched := y.lowLatched, highLatched := y.highLatched
    dirPin := y.dirPin, pulses := y.pulses }) (pulses : y.pulses ≤ 8) : y.Ok := by
  obtain ⟨r, p⟩ := (Axis.ok_iff x).1 h
  rw [e]
  exact (Axis.ok_iff _).2 ⟨⟨r.1, r.2, r.3, r.4, r.5, r.6, r.7, pulses, r.9⟩, p.1, p.2, p.3, p.4, p.5, p.6, p.7⟩

theorem Axis.Ok.setInput (e : EndStop) (selected : Bool) : (x.setInput e selected).Ok := by
  unfold Axis.setInput
  split <;> exact h.withPins rfl h.pulses

theorem Axis.Ok.latch (e : EndStop) : (x.latch e).Ok := by
  unfold Axis.latch
  split <;> exact h.withPins rfl h.pulses

theorem Axis.Ok.lowBecomesActive : x.lowBecomesActive.1.Ok := by
  obtain ⟨-, p⟩ := (Axis.ok_iff x).1 h
  cases hs : x.state <;> rw [Axis.lowBecomesActive, hs]
  case seek => exact h.beginRelease (p.homing (.inl hs)) (p.rests (by simp [hs]))
  case moving | stopping => exact h.abrupt
  case approach => exact iteInduction (motive := fun e : Axis × AxisEvent => e.1.Ok) (fun _ => h.abrupt) fun _ => h
  case release | off | idle => exact h

theorem Axis.Ok.highBecomesActive : x.highBecomesActive.1.Ok := by
  cases hs : x.state <;> rw [Axis.highBecomesActive, hs]
  case seek | release => exact h.homingFails
  case moving | stopping => exact h.abrupt
  case approach => exact iteInduction (motive := fun e : Axis × AxisEvent => e.1.Ok) (fun _ => h.abrupt) fun _ => h
  case off | idle => exact h

theorem Axis.Ok.inputEdge (e : EndStop) : (x.inputEdge e).1.Ok := by
  have latched := (h.setInput e true).latch e
  unfold Axis.inputEdge
  dsimp only
  split
  · split
    · exact latched.lowBecomesActive
    · exact latched.highBecomesActive
  · exact h.setInput e true

theorem Axis.Ok.inputInactive (e : EndStop) : (x.inputInactive e).1.Ok := by
  have shown := h.setInput e false
  have inactive : (x.setInput e false).lowBecomesInactive.1.Ok := by
    cases hs : (x.setInput e false).state <;> rw [Axis.lowBecomesInactive, hs]
    case release => exact shown.homeFound
    all_goals exact shown
  unfold Axis.inputInactive
  dsimp only
  split
  · exact inactive
  · exact shown

end
end Sys2Proof.Machine
end

section
/-! PROOF. O59: what a step may do to the two axes so that the invariant lasts, and the motion queue's part in it. The queue
grants an approach leg only to an axis that waits for one, which `AxisClosed` does not ask: so the queue is gone through for
this invariant by itself. -/

namespace Sys2Proof.Machine

/-- From state `s` to state `t` the invariant of the axes lasts. -/
structure AxesKept (s t : State) : Prop where
  kept : s.AxesOk → t.AxesOk

namespace AxesKept

variable {s t u : State}

theorem refl (s : State) : AxesKept s s := ⟨id⟩

theorem trans (h : AxesKept s t) (k : AxesKept t u) : AxesKept s u := ⟨k.kept ∘ h.kept⟩

theorem ite {p : Prop} [Decidable p] {a b : State} (ha : p → AxesKept s a) (hb : ¬p → AxesKept s b) :
    AxesKept s (if p then a else b) := iteInduction (motive := AxesKept s) ha hb

/-- A change outside the axes. -/
theorem of_axes (axisH : t.axisH = s.axisH) (axisV : t.axisV = s.axisV) : AxesKept s t := by
  refine ⟨fun h => ?_⟩
  rwa [State.AxesOk, axisH, axisV]

/-- A change of both axes. -/
theorem of_both (axisH : s.axisH.Ok → t.axisH.Ok) (axisV : s.axisV.Ok → t.axisV.Ok) : AxesKept s t :=
  ⟨fun h => ⟨axisH h.1, axisV h.2⟩⟩

theorem set_axis {a : AxisId} {x : Axis} (hx : (s.axis a).Ok → x.Ok) : AxesKept s (s.setAxis a x) := by
  cases a with
  | h => exact of_both hx id
  | v => exact of_both id hx

end AxesKept

/-! ### How requests end, and stop requests (R145, R157, R163) -/

namespace State

variable (s : State)

theorem releaseHold_axesKept : AxesKept s s.releaseHold := .ite (fun _ => .of_axes rfl rfl) fun _ => .refl s

theorem endRequest_axesKept (res : MotionResult) : AxesKept s (s.endRequest res) := by
  unfold State.endRequest
  split
  · exact .refl s
  · rename_i x _
    have recorded : AxesKept s (s.record x.req res) := .of_axes rfl rfl
    have freed := recorded.trans (State.releaseHold_axesKept _)
    exact freed.trans (.of_axes rfl rfl)

theorem flushQueue_axesKept (res : MotionResult) : AxesKept s (s.flushQueue res) := by
  obtain ⟨-, axisH, axisV, -⟩ := s.endAll_values res s.motion.queue
  exact .of_axes axisH axisV

theorem stopAside_axesKept (a : AxisId) : AxesKept s (s.stopAside a) :=
  .ite (fun _ => .set_axis fun h => h.stopRequest) fun _ => .refl s

theorem stopRequestAxes_axesKept (x : Executing) : AxesKept s (s.stopRequestAxes x) := by
  have first : AxesKept s (if x.hWork = .active then s.stopAside .h else s) := .ite (fun _ => s.stopAside_axesKept .h) fun _ => .refl s
  exact first.trans (.ite (fun _ => State.stopAside_axesKept _ .v) fun _ => .refl _)

theorem takeEvent_axesKept (a : AxisId) (e : AxisEvent) : AxesKept s (s.takeEvent a e) := by
  have noted (t : State) (o : AxisOutcome) : AxesKept t (t.noteOutcome a o) := by
    unfold State.noteOutcome
    split
    · exact .refl t
    · split
      · cases o with
        | done _ | stopped => exact .of_axes rfl rfl
        | endstop _ => exact (t.endRequest_axesKept _).trans (State.stopRequestAxes_axesKept _ _)
        | homeFail => exact t.endRequest_axesKept _
      · exact .refl t
  cases e with
  | quiet | asks => exact .refl s
  | outcome o =>
    have flagged : AxesKept s (o.flags s) := by cases o <;> exact .of_axes rfl rfl
    exact flagged.trans (noted _ o)

/-! ### Leg starts (R155) -/

/-- An axis that has work in hand and a leg start to judge waits for its approach leg (R140, R155). -/
theorem waits_of_wantsStart {s : State} {x : Executing} {a : AxisId} (wants : s.wantsStart x a = true) (active : x.work a = .active) :
    (s.axis a).waits = true := by
  simpa [State.wantsStart, active] using wants

theorem beginAxis_axesKept {x : Executing} {a : AxisId} (waits : x.work a = .active → (s.axis a).waits = true) :
    AxesKept s (s.beginAxis x a).1 := by
  rw [s.beginAxis_eq]
  refine .set_axis fun h => ?_
  unfold State.legStart
  split
  · exact h.grantApproach (waits ‹_›)
  · split
    · exact h.takeHoming
    · exact h.takeMove _ _

theorem startOne_axesKept {x : Executing} {a : AxisId} (waits : x.work a = .active → (s.axis a).waits = true) :
    AxesKept s (s.startOne x a).1 := by
  have resumed : AxesKept s (s.resume (x.setWork a .active)) := .of_axes rfl rfl
  have begun := resumed.trans (State.beginAxis_axesKept (x := x) (a := a) _ waits)
  cases a <;> exact begun

theorem startBoth_axesKept {x : Executing} (waits : ∀ a, x.work a = .active → (s.axis a).waits = true) :
    AxesKept s (s.startBoth x).1 := by
  have resumed : AxesKept s (s.resume ((x.setWork .h .active).setWork .v .active)) := .of_axes rfl rfl
  exact (resumed.trans (State.beginAxis_axesKept (x := x) (a := .h) _ (waits .h))).trans
    (State.beginAxis_axesKept (x := x) (a := .v) _ (waits .v))

theorem holdStart_axesKept (x : Executing) : AxesKept s (s.holdStart x) :=
  .ite (fun _ => .of_axes rfl rfl) fun _ => .ite (fun _ => .refl s) fun _ => .of_axes rfl rfl

theorem judgeRail_axesKept (x : Executing) : AxesKept s (s.judgeRail x).1 := by
  have waits {a : AxisId} (wants : s.wantsStart x a = true) := State.waits_of_wantsStart wants
  unfold State.judgeRail
  split
  · rename_i hWants vWants
    split
    · exact s.startBoth_axesKept fun a => by cases a; exacts [waits hWants, waits vWants]
    · split
      · refine s.startOne_axesKept fun active => waits vWants ?_
        split at active <;> exact active
      · exact s.holdStart_axesKept x
  · split
    · exact s.startOne_axesKept (waits ‹_›)
    · exact s.holdStart_axesKept x
  · split
    · exact s.startOne_axesKept (waits ‹_›)
    · exact s.holdStart_axesKept x
  · exact .refl s

/-! ### The executing request, and the head of the queue (R153, R157, R159) -/

theorem finishWork_axesKept (x : Executing) : AxesKept s (s.finishWork x) := by
  have switching (n : Fin 4) : AxesKept s (s.enterSwitching x n) := by
    let u := (s.setWarp { s.warp with choice := some { slot := some n, origin := .recall x.req.tag } }).setExecuting
      (some (x.setPhase .switching))
    have placed : AxesKept s u := .of_axes rfl rfl
    exact .ite (fun _ => placed) fun _ => placed.trans (u.endRequest_axesKept _)
  unfold State.finishWork
  split
  · split
    · exact s.endRequest_axesKept _
    · exact .ite (fun _ => switching _) fun _ => s.endRequest_axesKept _
  all_goals exact s.endRequest_axesKept _

theorem carryOn_axesKept (n : Nat) : AxesKept s (s.carryOn n) := by
  induction n generalizing s with
  | zero => exact .refl s
  | succ n ih =>
    unfold State.carryOn
    split
    · exact .refl s
    · rename_i x _
      have judged := s.judgeRail_axesKept x
      refine .ite (fun _ => .refl s) fun _ => .ite (fun _ => .ite (fun _ => .refl s) fun _ => s.endRequest_axesKept _) fun _ =>
        .ite (fun _ => s.finishWork_axesKept x) fun _ => ?_
      split
      · rename_i t heq
        rwa [heq] at judged
      · rename_i t eh ev _ heq
        rw [heq] at judged
        exact ((judged.trans (State.takeEvent_axesKept _ .h eh)).trans (State.takeEvent_axesKept _ .v ev)).trans (ih _)

theorem handIdle_axesKept (a : AxisId) : AxesKept s (s.handIdle a) := by
  unfold State.handIdle
  split
  · exact .refl s
  · rename_i x _
    have handed : AxesKept s (s.setExecuting (some (x.setWork a .active))) := .of_axes rfl rfl
    refine .ite (fun _ => ?_) fun _ => .refl s
    exact (handed.trans (.set_axis fun h => Axis.Ok.takeMove h _ _)).trans (State.takeEvent_axesKept _ _ _)

theorem startRequest_axesKept (r : Request) : AxesKept s (s.startRequest r) := by
  have held (t : State) : AxesKept t (t.takeHold r.job) := by
    unfold State.takeHold
    split
    · exact .ite (fun _ => .of_axes rfl rfl) fun _ => .refl t
    all_goals exact .refl t
  have executing : AxesKept s (s.setExecuting (some (s.executingOf r))) := .of_axes rfl rfl
  refine .ite (fun _ => executing.trans (State.endRequest_axesKept _ _)) fun _ => ?_
  exact (((executing.trans (held _)).trans (State.handIdle_axesKept _ .h)).trans (State.handIdle_axesKept _ .v)).trans
    (State.carryOn_axesKept _ _)

/-- What the queue starts keeps the invariant (R153). -/
theorem pump_axesKept : AxesKept s s.pump := by
  have heads (n : Nat) (t : State) : AxesKept t (t.startHeads n) := by
    induction n generalizing t with
    | zero => exact .refl t
    | succ n ih =>
      unfold State.startHeads
      split
      · exact .refl t
      · rename_i r rest _
        have taken : AxesKept t (t.setMotion { t.motion with queue := rest }) := .of_axes rfl rfl
        exact .ite (fun _ => (taken.trans (State.startRequest_axesKept _ r)).trans (ih _)) fun _ => .refl t
  exact heads _ s

theorem proceed_axesKept : AxesKept s s.proceed := (s.carryOn_axesKept _).trans (State.pump_axesKept _)

theorem afterEvent_axesKept (a : AxisId) (e : AxisEvent) : AxesKept s (s.afterEvent a e) :=
  .ite (fun _ => .refl s) fun _ => (s.takeEvent_axesKept a e).trans (State.proceed_axesKept _)

/-! ### Recalls in SWITCHING, stops and trips (R17, R156, R160, R162, R163) -/

theorem endSwitching_axesKept : AxesKept s s.endSwitching := by
  unfold State.endSwitching
  split
  · exact .refl s
  · exact .ite (fun _ => (s.endRequest_axesKept _).trans (State.pump_axesKept _)) fun _ => .refl s

theorem railTimeout_axesKept : AxesKept s s.railTimeout := by
  unfold State.railTimeout
  split
  · exact .refl s
  · exact .ite (fun _ => ((s.endRequest_axesKept _).trans (State.stopRequestAxes_axesKept _ _)).trans (State.pump_axesKept _))
      fun _ => .refl s

theorem withdraw_axesKept (tag : Byte) : AxesKept s (s.withdraw tag) := .ite (fun _ => .of_axes rfl rfl) fun _ => .refl s

theorem stopActive_axesKept (a : AxisId) : AxesKept s (s.stopActive a) := by
  unfold State.stopActive
  split
  · exact .refl s
  · have stopped : AxesKept s (s.setAxis a (s.axis a).stopRequest.1) := .set_axis fun h => h.stopRequest
    exact .ite (fun _ => stopped.trans (State.takeEvent_axesKept _ _ _)) fun _ => .refl s

/-- STOP_MOTION keeps the invariant (R162). -/
theorem stopMotion_axesKept : AxesKept s s.stopMotion := by
  have stopped : AxesKept s s.stopExecuting := by
    unfold State.stopExecuting
    split
    · exact .refl s
    · rename_i x _
      have asked : AxesKept s (s.setExecuting (some { x with req := { x.req with stopReq := true } })) := .of_axes rfl rfl
      refine .ite (fun _ => (s.withdraw_axesKept _).trans (State.endRequest_axesKept _ _)) fun _ => .ite (fun _ => .refl s) fun _ => ?_
      exact ((asked.trans (State.stopActive_axesKept _ .h)).trans (State.stopActive_axesKept _ .v)).trans (State.carryOn_axesKept _ _)
  exact (stopped.trans (State.flushQueue_axesKept _ _)).trans (State.pump_axesKept _)

/-- The queue's part of an entry to TRIPPED keeps the invariant (R163). -/
theorem abortMotion_axesKept : AxesKept s s.abortMotion := by
  have flushed (t : State) : AxesKept t (t.releaseHold.flushQueue .abortedTrip) :=
    t.releaseHold_axesKept.trans (State.flushQueue_axesKept _ _)
  cases hx : s.motion.executing with
  | none =>
    rw [State.abortMotion_of_none hx]
    exact flushed s
  | some x =>
    have withdrawn : AxesKept s (s.withdrawIfSwitching x) := .ite (fun _ => s.withdraw_axesKept _) fun _ => .refl s
    have aborted := (withdrawn.trans (State.endRequest_axesKept _ .abortedTrip)).trans (State.stopRequestAxes_axesKept _ x)
    rw [State.abortMotion_of_some hx]
    exact aborted.trans (flushed _)

end State

end Sys2Proof.Machine
end

section
/-! PROOF. O59: the changes of operating state, the owners of the packet commands and the events keep the axes' invariant, and
so does every step. -/

namespace Sys2Proof.Machine

/-! ### Changes of operating state, trips and resets (R117, R121, R130, R133) -/

namespace State

variable (s : State)

/-- A change of operating state keeps the invariant, with whatever hands over (R117, R133). -/
theorem changeState_axesKept (new : OpState) : AxesKept s (s.changeState new) := by
  have written : AxesKept s (s.writeOp new) := .of_both (fun h => h.enter new) fun h => h.enter new
  have left (t : State) : AxesKept t (t.leave s.ctl.op) := by
    obtain ⟨same, -⟩ := t.leave_sameWork s.ctl.op
    exact .of_axes same.axisH same.axisV
  have arrived (t : State) : AxesKept t (t.arrive new) := by
    cases new with
    | standby => exact .of_axes rfl rfl
    | lit | cooldown => exact t.pump_axesKept
    | tripped =>
      have full : AxesKept t t.fullFans := .of_axes rfl rfl
      exact (full.trans (State.abortMotion_axesKept _)).trans (.of_axes rfl rfl)
  exact (written.trans (left _)).trans (arrived _)

theorem trip_axesKept (cause : TripCause) : AxesKept s (s.trip cause) := by
  have named : AxesKept s (s.setCtl { s.ctl with lastTrip := cause }) := .of_axes rfl rfl
  exact .ite (fun _ => .refl s) fun _ => named.trans (State.changeState_axesKept _ _)

theorem judgeComparator_axesKept : AxesKept s s.judgeComparator := by
  have set (c : Comparator) : AxesKept s (s.setComparator c) := .of_axes rfl rfl
  rcases s.judgeComparator_cases with ⟨-, -, e⟩ | ⟨-, -, e⟩ | ⟨-, e⟩ <;> rw [e]
  · exact (set _).trans (State.trip_axesKept _ _)
  · exact set _
  · exact .refl s

theorem judgeDigital_axesKept (zs : List ZoneId) : AxesKept s (s.judgeDigital zs) := by
  rcases s.judgeDigital_cases zs with e | ⟨-, z, e⟩ <;> rw [e]
  · exact .refl s
  · exact s.trip_axesKept _

/-- The reset records meet the invariant, with the pins as they stand (R130 to R132, R150). -/
theorem applyReset_axesKept : AxesKept s s.applyReset := by
  have fresh {x : Axis} (h : x.Ok) {limit : Nat} (hl : limit ≤ 65535) : (x.reset limit).Ok :=
    (Axis.ok_iff _).2 ⟨⟨hl, (by decide : 3200 ≤ 8000), (by decide : 200 ≤ 1000), (by decide : 1600 ≤ 8000), Nat.zero_le _, Nat.zero_le _,
      Nat.zero_lt_succ _, h.pulses, Nat.zero_le _⟩,
      Axis.placed_of_rest (.inl rfl) rfl rfl rfl⟩
  have abandoned : AxesKept s s.abandonBus := by
    rw [s.abandonBus_eq]
    exact .of_axes rfl rfl
  have reset (t : State) : AxesKept t t.resetBlocks := .of_both (fun h => fresh h (by decide)) fun h => fresh h (by decide)
  exact (abandoned.trans (reset _)).trans (State.judgeComparator_axesKept _)

theorem assertReset_axesKept : AxesKept s s.assertReset := by
  have axisH : s.assertReset.axisH = { s.axisH with dirPin := false, pulses := 0 } := by
    simp [State.assertReset, State.abandonBus_eq]
  have axisV : s.assertReset.axisV = { s.axisV with dirPin := false, pulses := 0 } := by
    simp [State.assertReset, State.abandonBus_eq]
  refine .of_both (fun h => ?_) fun h => ?_
  · rw [axisH]
    exact h.withPins rfl (Nat.zero_le _)
  · rw [axisV]
    exact h.withPins rfl (Nat.zero_le _)

theorem stallExpired_axesKept (f : FanId) : AxesKept s (s.stallExpired f) := by
  have failed (t : State) : AxesKept t (t.failFan f) := by
    have set : AxesKept t (t.setFan f (t.fan f).enterFailed) := .of_axes rfl rfl
    unfold State.failFan
    dsimp only
    split
    · exact set.trans (.ite (fun _ => State.trip_axesKept _ _) fun _ => .refl _)
    · exact .of_axes rfl rfl
  have raised : AxesKept s (s.raise .fanFault) := .of_axes rfl rfl
  have stalls : AxesKept s (s.stall f) := .ite (fun _ => .of_axes rfl rfl) fun _ => raised.trans (failed _)
  unfold State.stallExpired
  split
  · exact stalls
  · exact stalls
  all_goals exact .refl s

theorem controlTick_axesKept : AxesKept s s.controlTick := by
  obtain ⟨-, axisH, axisV, -⟩ := s.zoneTick_values
  have zones : AxesKept s s.zoneTick := .of_axes axisH axisV
  have fans (t : State) : AxesKept t t.fanTick := .ite (fun _ => .of_axes rfl rfl) fun _ => .of_axes rfl rfl
  have sources (t : State) : AxesKept t t.sourceTick := .of_axes rfl rfl
  have runOn (t : State) : AxesKept t t.judgeRunOn := .ite (fun _ => t.changeState_axesKept _) fun _ => .refl t
  exact ((((zones.trans (State.judgeDigital_axesKept _ _)).trans (fans _)).trans (sources _)).trans (runOn _)).trans
    (State.proceed_axesKept _)

theorem silenceExpires_axesKept : AxesKept s s.silenceExpires := by
  have ends : AxesKept s s.silenceEnds := by
    let u := (s.setCtl { s.ctl with silence := Config.silenceLimit, armed := false }).raise .linkLost
    have lost : AxesKept s u := .of_axes rfl rfl
    exact (lost.trans (.ite (fun _ => u.changeState_axesKept _) fun _ => .refl u)).trans (State.endSwitching_axesKept _)
  rw [s.silenceExpires_eq]
  exact .ite (fun _ => ends.trans (State.applyReset_axesKept _)) fun _ => ends

theorem silenceCounts_axesKept : AxesKept s s.silenceCounts :=
  .ite (fun _ => .ite (fun _ => s.silenceExpires_axesKept) fun _ => .of_axes rfl rfl) fun _ => .refl s

end State

/-! ### The owners of the packet commands (R148, R149, R170) -/

/-- WRITE_AXIS writes an axis in OFF or IDLE, its parameters within their ranges (R132, R148). -/
theorem writeAxis_axesKept (axis : Byte) (limit vmax vstart : BitVec 16) (accel : Byte) (homeVel backlash : BitVec 16)
    (current approach endstops : Byte) (s : State) :
    AxesKept s (writeAxis axis limit vmax vstart accel homeVel backlash current approach endstops s).1 := by
  unfold writeAxis
  split
  · rename_i a d _ _
    split
    · rename_i taken
      split
      · exact .refl s
      · rename_i working
        simp only [axisVelocitiesOk, Bool.and_eq_true, decide_eq_true_eq] at taken
        obtain ⟨⟨⟨⟨⟨⟨⟨⟨-, vmaxMost⟩, -⟩, vstartMost⟩, -⟩, homeVelMost⟩, -⟩, -⟩, -⟩ := taken
        have rests : (s.axis a).state = .off ∨ (s.axis a).state = .idle := by
          simpa [Axis.working, or_iff_not_imp_left] using working
        refine .set_axis fun h => ?_
        obtain ⟨r, p⟩ := (Axis.ok_iff _).1 h
        have limitMost : limit.toNat ≤ 65535 := by
          have := limit.isLt
          omega
        refine (Axis.ok_iff _).2 ⟨⟨limitMost, vmaxMost, vstartMost, homeVelMost, ?_, r.6, r.7, r.8, r.9⟩, ?_⟩
        · unfold Axis.bound
          split
          · rename_i homed
            rw [Bool.and_eq_true, decide_eq_true_eq] at homed
            exact homed.2
          · exact h.position
        · have leg := p.rests (by tauto)
          have plan := p.noPlan rests
          exact {
            ends := fun _ => Axis.legEndsWithin_none leg _
            plan := fun q hq => nomatch plan.symm.trans hq
            homing := fun k => by rw [p.homing k]; rfl
            stopHoming := fun k => by rw [p.stopHoming k]; rfl
            runs := p.runs, rests := p.rests, noPlan := p.noPlan }
    · exact .refl s
  · exact .refl s

/-- READ_AXIS clears latched flags at most (R149). -/
theorem readAxis_axesKept (axis : Byte) (page : Fin 4) (s : State) : AxesKept s (readAxis axis page s).1 := by
  unfold readAxis
  split
  · exact .refl s
  · dsimp only
    split
    · exact .set_axis fun h => h.withPins rfl h.pulses
    · exact .of_axes (by simp) (by simp)

theorem enqueue_axesKept (tag : Byte) (j : Job) (s : State) : AxesKept s (enqueue tag j s).1 := by
  have appended (r : Request) : AxesKept s (s.append r) := .of_axes rfl rfl
  unfold enqueue
  split
  · exact .refl s
  · split
    · exact .refl s
    · exact (appended _).trans (State.pump_axesKept _)

/-- What the owner of a packet command does keeps the invariant (R170). -/
theorem ownerOf_axesKept (i : Instr) (s : State) : AxesKept s (ownerOf i s).1 := by
  have lit : AxesKept s (tryLight s).1 := by
    unfold tryLight
    split
    · exact .refl s
    · exact s.changeState_axesKept .lit
  cases i
  case writeAxis => exact writeAxis_axesKept ..
  case readAxis => exact readAxis_axesKept ..
  case moveAxis | stepAxis | home | recallPreset =>
    simp only [ownerOf, moveAxis, stepAxis, home, recallPreset, answer]
    repeat' split
    all_goals first | exact enqueue_axesKept _ _ s | exact .refl s
  case stopMotion => exact s.stopMotion_axesKept
  case lightOn =>
    simp only [ownerOf, lightOn]
    split
    · exact lit
    · exact lit
    all_goals exact .refl s
  case lightOff => exact .ite (fun _ => s.changeState_axesKept _) fun _ => .refl s
  case clearTrip =>
    simp only [ownerOf, clearTrip]
    split
    · split
      · exact .refl s
      · exact s.changeState_axesKept .cooldown
    · exact .refl s
  case setTripComparator channel threshold =>
    have set (c : Comparator) : AxesKept s (s.setComparator c) := .of_axes rfl rfl
    simp only [ownerOf, setTripComparator, answer]
    repeat' split
    all_goals first | exact (set _).trans (State.judgeComparator_axesKept _) | exact .refl s
  case clearFan =>
    simp only [ownerOf, clearFan, answer]
    split
    · exact .refl s
    · exact .ite (fun _ => .of_axes rfl rfl) fun _ => .refl s
  case readGrid | gridInfo | readPoll | readThermistorTable | readZone | readFan | readPreset | readMotion =>
    simp only [ownerOf, readGrid, gridInfo, readPoll, readTable, readZone, readFan, readPreset, readMotion, answer]
    split <;> exact .refl s
  case setLight | setLightRamp | assignSource | writePoll | engineReset | erasePreset | ackEvents | setEventEnable | setThermalLimits =>
    simp only [ownerOf, setLight, setLightRamp, assignSource, writePoll, engineReset, erasePreset, ackEvents, setEventEnable,
      setThermalLimits, answer]
    split <;> exact .of_axes rfl rfl
  case writeGrid | commitGrid | eraseGrid | selectGrid | writeChannel | setInstall | readSource | writeThermistorTableFirst
      | writeThermistorTableSecond | storePreset | writeZone | writeFan =>
    simp only [ownerOf, writeGrid, commitGrid, eraseGrid, selectGrid, writeChannel, setInstall, readSource, writeTableFirst,
      writeTableSecond, storePreset, storeExplicit, storeCurrent, writeZone, writeFan, answer]
    repeat' split
    all_goals exact .of_axes rfl rfl
  all_goals exact .refl s

/-- A packet keeps the invariant where its owner's work does (R167). -/
theorem State.takePacket_axesKept (s : State) (tag : Byte) {run : Owner} (owner : ∀ t, AxesKept t (run t).1) :
    AxesKept s (s.takePacket tag run) :=
  State.takePacket_keeps (P := AxesKept s) (.refl s) (fun _ _ h => h.trans (.of_axes rfl rfl)) fun t h => h.trans (owner t)

theorem State.receive_axesKept (s : State) (r : PacketRead) : AxesKept s (s.receive r) := by
  cases r with
  | badCheck tag | unknownCommand tag | badLength tag => exact s.takePacket_axesKept tag .refl
  | command tag i => exact s.takePacket_axesKept tag (ownerOf_axesKept i)

/-- A packet command completes and keeps the invariant (R167, R170). -/
theorem exec_packet_axesKept {i : Instr} (hi : (packetOf i).isSome = true) (s : State) :
    ∃ t, exec i s = .next t ∧ AxesKept s t := by
  obtain ⟨⟨tag, code, payload⟩, hp⟩ := Option.isSome_iff_exists.1 hi
  obtain ⟨run, he, hr⟩ := exec_packet hp s
  refine ⟨_, he, s.takePacket_axesKept tag fun t => ?_⟩
  rcases hr with rfl | ⟨-, rfl⟩
  · exact ownerOf_axesKept i t
  · exact .refl t

/-! ### The events of the video path, the return lane and the lens axes -/

namespace State

variable (s : State)

theorem endOutput_axesKept (b : Bool) : AxesKept s (s.endOutput b) := by
  unfold State.endOutput
  split
  · exact .refl s
  · exact .of_axes rfl rfl

theorem outputFrameStart_axesKept : AxesKept s s.outputFrameStart := by
  have entered (t : State) : AxesKept t t.enterOutput := .of_axes rfl rfl
  have latched (t : State) : AxesKept t t.latch := by
    unfold State.latch
    split
    · exact .refl t
    · exact .of_axes rfl rfl
  have counted (t : State) (x : Stats) : AxesKept t (t.setStats x) := .of_axes rfl rfl
  have begun := ((s.endOutput_axesKept false).trans (entered _)).trans (latched _)
  unfold State.outputFrameStart
  rw [State.startOutput_eq]
  exact .ite (fun _ => (begun.trans (counted _ _)).trans (State.endSwitching_axesKept _)) fun _ => .refl s

theorem inputFrameStart_axesKept (l : Line) : AxesKept s (s.inputFrameStart l) := by
  have timed (t : State) (n : Nat) : AxesKept t (t.setLineTime n) := .of_axes rfl rfl
  have due : AxesKept s s.startDueFirst := ((timed s _).trans (State.outputFrameStart_axesKept _)).trans (timed _ _)
  have begun (t : State) : AxesKept t (t.beginFrame l) := by
    have started : AxesKept t (t.setWarp (t.warp.startFrame l)) := .of_axes rfl rfl
    have answers (u : State) : AxesKept u u.formAnswer.rearm := .of_axes rfl rfl
    exact (AxesKept.ite (fun _ => started.trans (State.endSwitching_axesKept _)) fun _ => started).trans (answers _)
  exact due.trans (begun _)

theorem outputLine_axesKept : AxesKept s s.outputLine := by
  unfold State.outputLine
  split
  · exact .refl s
  · rename_i f _
    have sent : AxesKept s (s.sendLine f) := .of_axes rfl rfl
    rw [State.produceLine_eq]
    exact .ite (fun _ => .ite (fun _ => sent.trans (State.endOutput_axesKept _ _)) fun _ => sent) fun _ => .refl s

theorem answerSent_axesKept : AxesKept s s.answerSent :=
  .ite (fun _ => .ite (fun _ => s.applyReset_axesKept) fun _ => .of_axes rfl rfl) fun _ => .refl s

theorem lockLost_axesKept : AxesKept s s.lockLost := by
  have darkened : AxesKept s s.darken := .of_axes rfl rfl
  rw [State.lockLost_eq]
  exact darkened.trans (.ite (fun _ => State.applyReset_axesKept _) fun _ => .of_axes rfl rfl)

theorem profileTick_axesKept : AxesKept s s.profileTick := by
  have ticked : AxesKept s ((s.setAxis .h s.axisH.tick.1).setAxis .v s.axisV.tick.1) := .of_both Axis.Ok.tick Axis.Ok.tick
  exact .ite (fun _ => ticked) fun _ =>
    ((ticked.trans (State.takeEvent_axesKept _ _ _)).trans (State.takeEvent_axesKept _ _ _)).trans (State.proceed_axesKept _)

theorem endstopEdge_axesKept (e : EndStop) : AxesKept s (s.endstopEdge e) := by
  have shown : AxesKept s (s.setAxis (endAxis e) ((s.axis (endAxis e)).inputEdge e).1) := .set_axis fun h => h.inputEdge e
  exact shown.trans (State.afterEvent_axesKept _ _ _)

theorem endstopInactive_axesKept (e : EndStop) : AxesKept s (s.endstopInactive e) := by
  have shown : AxesKept s (s.setAxis (endAxis e) ((s.axis (endAxis e)).inputInactive e).1) := .set_axis fun h => h.inputInactive e
  exact shown.trans (State.afterEvent_axesKept _ _ _)

/-! ### The temperature sources -/

theorem applyReading_axesKept (n : Fin 12) (r : Reading) : AxesKept s (s.applyReading n r) := by
  apply AxesKept.of_axes <;> simp [State.applyReading]

theorem endFlight_axesKept (f : Flight) (r : Reading) (wire : List SbSignal) : AxesKept s (s.endFlight f r wire) := by
  have moved (t : State) (x : Temps) : AxesKept t (t.setTemps x) := .of_axes rfl rfl
  exact AxesKept.trans (.ite (fun _ => .refl s) fun _ => s.applyReading_axesKept _ _) (moved _ _)

theorem cutFlight_axesKept (f : Flight) (o : ReadOutcome) (p : SbPlace) : AxesKept s (s.cutFlight f o p) := by
  have due : AxesKept s (s.setTemps { s.temps with recoveryDue := true }) := .of_axes rfl rfl
  have drawn (t : State) : AxesKept t t.drawFree := .of_axes rfl rfl
  exact (due.trans (State.endFlight_axesKept _ f (.bad o) (f.cutWire p s.freeCount))).trans (drawn _)

/-- The events of the sensor bus touch no axis (R74 to R80). -/
theorem bus_axesKept : (∀ e, AxesKept s (s.stopBegun e)) ∧ (∀ micros, AxesKept s (s.addStretch micros)) ∧
    (∀ o p, AxesKept s (s.cutBegun o p)) ∧ AxesKept s s.recoveryDone ∧ AxesKept s s.recoveryAbandoned := by
  refine ⟨fun e => ?_, fun micros => ?_, fun o p => ?_, ?_, ?_⟩
  · unfold State.stopBegun
    split
    · exact .refl s
    · exact s.endFlight_axesKept _ _ _
  · unfold State.addStretch
    split
    · exact .refl s
    · exact .ite (fun _ => s.cutFlight_axesKept _ _ _) fun _ => .of_axes rfl rfl
  · unfold State.cutBegun
    split
    · exact .refl s
    · exact s.cutFlight_axesKept _ _ _
  · unfold State.recoveryDone
    split
    · exact .refl s
    · exact .of_axes rfl rfl
  · unfold State.recoveryAbandoned
    split
    · exact .refl s
    · exact s.cutFlight_axesKept _ _ _

end State

/-! ### Every command, and every step -/

/-- Every command completes and keeps the invariant. -/
theorem exec_axesKept (i : Instr) (s : State) : ∃ t, exec i s = .next t ∧ AxesKept s t := by
  have live (f : State → State) (hf : AxesKept s (f s)) : AxesKept s (s.whenLive f) := .ite (fun _ => hf) fun _ => .refl s
  have linked (f : State → State) (hf : AxesKept s (f s)) : AxesKept s (s.whenLinked f) := .ite (fun _ => hf) fun _ => .refl s
  obtain ⟨stops, stretches, cuts, recovers, abandons⟩ := s.bus_axesKept
  cases i
  case inputActiveLine ps =>
    exact ⟨_, rfl, linked _ (.ite (fun _ => s.inputFrameStart_axesKept _) fun _ => .of_axes rfl rfl)⟩
  case controlLine ps =>
    have line : AxesKept s s.blankingLine := .of_axes rfl rfl
    exact ⟨_, rfl, linked _ (.ite (fun _ => line.trans (State.receive_axesKept _ _)) fun _ => line)⟩
  case outputLine => exact ⟨_, rfl, linked _ s.outputLine_axesKept⟩
  case outputFrameStart => exact ⟨_, rfl, linked _ s.outputFrameStart_axesKept⟩
  case plainBlankingLine => exact ⟨_, rfl, linked _ (.of_axes rfl rfl)⟩
  case linkLockLost => exact ⟨_, rfl, .ite (fun _ => s.lockLost_axesKept) fun _ => .of_axes rfl rfl⟩
  case linkLockRegained => exact ⟨_, rfl, .ite (fun _ => .of_axes rfl rfl) fun _ => .of_axes rfl rfl⟩
  case answerSent => exact ⟨_, rfl, linked _ s.answerSent_axesKept⟩
  case resetNAsserted => exact ⟨_, rfl, live _ s.assertReset_axesKept⟩
  case resetNReleased =>
    have released : AxesKept s (s.setResetAsserted false) := .of_axes rfl rfl
    exact ⟨_, rfl, released.trans (State.applyReset_axesKept _)⟩
  case controlTick => exact ⟨_, rfl, live _ s.controlTick_axesKept⟩
  case thermistorConversionDone ch code =>
    have taken : AxesKept s (s.takeConversion ch code) := .ite (fun _ => .refl s) fun _ => s.applyReading_axesKept _ _
    have advanced (t : State) : AxesKept t (t.advanceScan ch) := .ite (fun _ => .of_axes rfl rfl) fun _ => .refl t
    exact ⟨_, rfl, live _ (taken.trans (advanced _))⟩
  case sbTransactionEnd e => exact ⟨_, rfl, live _ (stops e)⟩
  case sbStretchLimit micros => exact ⟨_, rfl, live _ (stretches micros)⟩
  case sbClockTimeout | sbBusError => exact ⟨_, rfl, live _ (cuts _ _)⟩
  case sbRecoveryDone => exact ⟨_, rfl, live _ recovers⟩
  case sbRecoveryAbandoned => exact ⟨_, rfl, live _ abandons⟩
  case comparatorTrip level | comparatorRelease level =>
    let u := s.setPinCode level.ch level.code
    have shown : AxesKept s u := .of_axes rfl rfl
    exact ⟨_, rfl, shown.trans (.ite (fun _ => u.judgeComparator_axesKept) fun _ => .refl u)⟩
  case stallTimerExpiry f => exact ⟨_, rfl, live _ (s.stallExpired_axesKept f)⟩
  case tachEdge f e =>
    have edge : AxesKept s (s.updateFan f fun x => x.edge e.micros (Config.freeSpeed s.freeCount)) := .of_axes rfl rfl
    have drawn (t : State) (b : Bool) : AxesKept t (t.drawFreeIf b) := .of_axes (by simp) (by simp)
    exact ⟨_, rfl, live _ (.ite (fun _ => edge.trans (drawn _ _)) fun _ => .refl s)⟩
  case profileTick => exact ⟨_, rfl, live _ s.profileTick_axesKept⟩
  case endstopEdge e =>
    exact ⟨_, rfl, .ite (fun _ => s.endstopEdge_axesKept e) fun _ => .set_axis fun h => h.setInput e true⟩
  case endstopInactive e =>
    exact ⟨_, rfl, .ite (fun _ => s.endstopInactive_axesKept e) fun _ => .set_axis fun h => h.setInput e false⟩
  case railWaitTimeout => exact ⟨_, rfl, live _ s.railTimeout_axesKept⟩
  case silenceTick => exact ⟨_, rfl, live _ s.silenceCounts_axesKept⟩
  case silenceExpiry => exact ⟨_, rfl, live _ (.ite (fun _ => s.silenceExpires_axesKept) fun _ => .refl s)⟩
  case rampTick | lightPwmPeriodBoundary | fanPwmPeriodBoundary | kickTimerExpiry | pauseTimerExpiry | retryClearTimerExpiry
      | tachTimeout | runOnElapsedLimit => exact ⟨_, rfl, live _ (.of_axes rfl rfl)⟩
  all_goals exact exec_packet_axesKept rfl s

/-- Settles O59: a millisecond or the command at the front of the queue, each of which keeps the axes' invariant. -/
theorem everyStepKeepsAxes : Obligations.EveryStepKeepsAxes := by
  intro s t h he
  unfold step at he
  split at he
  · cases he
    have passes : AxesKept s s.millisecond := .ite (fun _ => .of_axes rfl rfl) fun _ => .refl s
    exact passes.kept h
  · rename_i i rest _
    have waits : AxesKept s (s.setPending rest) := .of_axes rfl rfl
    obtain ⟨u, hu, k⟩ := exec_axesKept i (s.setPending rest)
    cases hu.symm.trans he
    exact (waits.trans k).kept h

end Sys2Proof.Machine
end

section
/-! PROOF. O45: a profile tick of one axis. -/

namespace Sys2Proof.Machine

/-! ### Legs (R134, R137, R140) -/

/-- Braking is due where the steps left are no more than the stop from the velocity takes, as R137 has it (R137 step 1). -/
theorem Axis.profileVelocity_eq (x : Axis) (left : Nat) : x.profileVelocity left =
    if 2000 * (x.accel : Int) * left ≤ (x.vel : Int) ^ 2 - (x.vstart : Int) ^ 2 then max (x.vel - x.accel) x.vstart
    else min (x.vel + x.accel) x.vmax := by
  have brakes : 2000 * x.accel * left + x.vstart * x.vstart ≤ x.vel * x.vel ↔
      2000 * (x.accel : Int) * left ≤ (x.vel : Int) ^ 2 - (x.vstart : Int) ^ 2 := by
    rw [le_sub_iff_add_le, pow_two, pow_two]
    exact_mod_cast Iff.rfl
  exact if_congr brakes rfl rfl

theorem stepped_eq (position : Nat) (d : Dir) (steps : Nat) :
    stepped position d steps = if d = .positive then position + steps else position - steps := by
  cases d <;> rfl

/-- The end of a leg with no approach leg owed is the end of the move (R140). -/
theorem Axis.legEnds_of_last {x : Axis} (last : x.state = .approach ∨ ∀ p ∈ x.plan, p.owed = false) : x.legEnds = x.moveDone := by
  refine if_neg fun ⟨moving, owed⟩ => ?_
  obtain ⟨p, hp, owes⟩ := (Option.any_eq_true ..).1 owed
  rcases last with approach | none
  · cases moving.symm.trans approach
  · cases (none p hp).symm.trans owes

/-- The end of a first leg with an approach leg owed asks for that leg (R140). -/
theorem Axis.legEnds_of_owed {x : Axis} {p : Plan} (moving : x.state = .moving) (plan : x.plan = some p) (owed : p.owed = true) :
    x.legEnds = ({ x with state := .approach, vel := 0, acc := 0, leg := none }, .asks) :=
  if_pos ⟨moving, by rw [plan]; exact owed⟩

/-! ### What a tick does, state by state (R137, R141, R142, R145) -/

section

variable {x : Axis} {l : Leg}

theorem Axis.tick_of_leg (state : x.state = .moving ∨ x.state = .approach) (leg : x.leg = some l) : x.tick = x.legTick l := by
  rcases state with e | e <;> rw [Axis.tick, e, leg]

theorem Axis.tick_of_homing {v : Nat} (homing : x.state = .seek ∧ v = min (x.vel + x.accel) x.homeVel ∨ x.state = .release ∧ v = x.vel) :
    x.tick = x.homingTick v := by
  rcases homing with ⟨e, rfl⟩ | ⟨e, rfl⟩ <;> rw [Axis.tick, e]

theorem Axis.tick_of_stopping (state : x.state = .stopping) (leg : x.leg = some l) : x.tick = x.stopTick l := by
  rw [Axis.tick, state, leg]

/-- An axis that is not in motion puts out no step (R133). -/
theorem Axis.tick_of_rest (rests : x.inMotion = false) : x.tick = ({ x with pulses := 0 }, .quiet) := by
  cases hs : x.state with
  | off | idle => rw [Axis.tick, hs]
  | seek | release | moving | stopping => simp [Axis.inMotion, hs] at rests
  | approach =>
    have leg : x.leg = none := by simpa [Axis.inMotion, hs] using rests
    rw [Axis.tick, hs, leg]

end

/-- Settles O45: each state's tick by its equation, on the way or at the end of its steps. -/
theorem axisProfileTick : Obligations.AxisProfileTick := by
  intro x v steps hsteps
  refine ⟨fun l state leg hv => ?_, fun leg homing => ?_, fun l state leg hv => ?_, fun rests => Axis.tick_of_rest rests⟩
  · rw [leg] at hsteps
    have tick := (Axis.tick_of_leg state leg).trans (x.legTick_eq l (hv.trans (x.profileVelocity_eq _).symm) hsteps)
    rw [← stepped_eq, tick]
    refine ⟨fun few => if_neg (by omega), fun all last => ?_, fun p all moving plan owed => ?_⟩
    · exact (if_pos (by omega)).trans (Axis.legEnds_of_last last)
    · exact (if_pos (by omega)).trans (Axis.legEnds_of_owed moving plan owed)
  · rw [leg] at hsteps
    have tick := (Axis.tick_of_homing homing).trans (x.homingTick_eq hsteps)
    rw [tick]
    refine ⟨fun few => if_neg (by omega), fun all => (if_pos (by omega)).trans ?_⟩
    rw [leg]
    rfl
  · rw [leg] at hsteps
    have tick := (Axis.tick_of_stopping state leg).trans (x.stopTick_eq l hv hsteps)
    rw [← stepped_eq, tick]
    refine ⟨fun fast few => if_neg (by omega), fun ends => if_pos (ends.imp_right fun all => ?_)⟩
    omega

end Sys2Proof.Machine
end

section
/-! PROOF. O44: WRITE_AXIS and READ_AXIS. -/

namespace Sys2Proof.Machine

/-! ### Axes and directions as they are carried (R178) -/

theorem AxisId.ofCode_of_le {b : Byte} (h : 2 ≤ b.toNat) : AxisId.ofCode b = none := by
  unfold AxisId.ofCode
  split <;> first | omega | rfl

theorem AxisId.ofCode_of_eq {b : Byte} {a : AxisId} (h : b.toNat = if a = .h then 0 else 1) : AxisId.ofCode b = some a := by
  rw [AxisId.ofCode, h]
  cases a <;> rfl

theorem Dir.ofCode_of_le {b : Byte} (h : 2 ≤ b.toNat) : Dir.ofCode b = none := by
  unfold Dir.ofCode
  split <;> first | omega | rfl

theorem Dir.ofCode_code {b : Byte} {d : Dir} (h : b.toNat = d.code) : Dir.ofCode b = some d := by
  rw [Dir.ofCode, h]
  cases d <;> rfl

/-- A packet's count leaves the axes and the approach directions in force. -/
theorem State.countTaken_axis (s : State) (a : AxisId) :
    s.countTaken.axis a = s.axis a ∧ s.countTaken.approachOf a = s.approachOf a := by
  cases a <;> exact ⟨rfl, rfl⟩

/-! ### WRITE_AXIS (R132, R148) -/

section

variable {axis : Byte} {limit vmax vstart : BitVec 16} {accel : Byte} {homeVel backlash : BitVec 16} {current approach endstops : Byte}

/-- The ranges of WRITE_AXIS's fields (R132, R148). -/
theorem axisInRange_iff {limit vmax vstart accel homeVel backlash endstops : Nat} :
    (axisVelocitiesOk vmax vstart homeVel && axisFieldsOk limit accel backlash endstops) = true ↔
      (200 ≤ vmax ∧ vmax ≤ 8000 ∧ 50 ≤ vstart ∧ vstart ≤ 1000 ∧ 200 ≤ homeVel ∧ homeVel ≤ 8000 ∧ vstart ≤ vmax ∧ vstart ≤ homeVel) ∧
      1 ≤ limit ∧ 1 ≤ accel ∧ backlash ≤ 2000 ∧ endstops < 16 := by
  simp only [axisVelocitiesOk, axisFieldsOk, Bool.and_eq_true, decide_eq_true_eq, and_assoc]

theorem writeAxis_refused (out : 2 ≤ axis.toNat ∨ 2 ≤ approach.toNat ∨
    ¬(axisVelocitiesOk vmax.toNat vstart.toNat homeVel.toNat && axisFieldsOk limit.toNat accel.toNat backlash.toNat endstops.toNat) = true)
    (s : State) :
    writeAxis axis limit vmax vstart accel homeVel backlash current approach endstops s = answer .refusedRange s := by
  unfold writeAxis
  split
  · rename_i a d ha hd
    rcases out with code | dir | range
    · cases (AxisId.ofCode_of_le code).symm.trans ha
    · cases (Dir.ofCode_of_le dir).symm.trans hd
    · exact if_neg range
  · rfl

/-- The axis as a WRITE_AXIS that is taken leaves it (R148). -/
def Axis.written (x : Axis) (a : AxisId) (limit vmax vstart : BitVec 16) (accel : Byte) (homeVel backlash : BitVec 16)
    (current : Byte) (approach : Dir) (endstops : Byte) : Axis :=
  { x with
    limit := limit.toNat, vmax := vmax.toNat, vstart := vstart.toNat, accel := accel.toNat, homeVel := homeVel.toNat
    backlash := backlash.toNat, current := current.toNat, approach := if a = .h then approach else x.approach
    lowEnable := endstops.getLsbD 0, lowFalling := endstops.getLsbD 1
    highEnable := endstops.getLsbD 2, highFalling := endstops.getLsbD 3
    homed := x.homed && decide (x.position ≤ limit.toNat) }

theorem writeAxis_inRange {a : AxisId} {d : Dir} (ha : AxisId.ofCode axis = some a) (hd : Dir.ofCode approach = some d)
    (range : (axisVelocitiesOk vmax.toNat vstart.toNat homeVel.toNat &&
      axisFieldsOk limit.toNat accel.toNat backlash.toNat endstops.toNat) = true) (s : State) :
    writeAxis axis limit vmax vstart accel homeVel backlash current approach endstops s =
      if (s.axis a).working then answer .refusedBusy s
      else (s.setAxis a ((s.axis a).written a limit vmax vstart accel homeVel backlash current d endstops), .ok) := by
  have stored : storedApproach a d (s.axis a).approach = if a = .h then d else (s.axis a).approach := by cases a <;> rfl
  rw [writeAxis, ha, hd, Axis.written, ← stored]
  exact if_pos range

end

/-! ### READ_AXIS (R149, R183) -/

theorem Axis.lowActive_iff (x : Axis) : x.lowActive = true ↔ x.lowEnable = true ∧ x.lowLevel ≠ x.lowFalling := by
  rw [Axis.lowActive, inputActive, Bool.and_eq_true, bne_iff_ne]

theorem Axis.highActive_iff (x : Axis) : x.highActive = true ↔ x.highEnable = true ∧ x.highLevel ≠ x.highFalling := by
  rw [Axis.highActive, inputActive, Bool.and_eq_true, bne_iff_ne]

/-- Four flags as the bits of one byte. -/
theorem byte_fourBits (a b c d : Bool) : byte (bitsByte [a, b, c, d]) =
    [(if a then 1 else 0) + (if b then 2 else 0) + (if c then 4 else 0) + (if d then 8 else 0)] := by
  cases a <;> cases b <;> cases c <;> cases d <;> rfl

section

variable (x : Axis) (dir : Dir) (free : Nat)

theorem Axis.page_state : page8 (x.page dir free 0) =
    [(if x.lowEnable = true ∧ x.lowLevel ≠ x.lowFalling then 1 else 0)
        + (if x.highEnable = true ∧ x.highLevel ≠ x.highFalling then 2 else 0)
        + (if x.lowLatched = true then 4 else 0) + (if x.highLatched = true then 8 else 0),
      BitVec.ofNat 8 x.state.code, if x.homed then 1 else 0, BitVec.ofNat 8 dir.code] ++ be16 x.position ++ be16 x.vel := by
  rw [← if_congr x.lowActive_iff rfl rfl, ← if_congr x.highActive_iff rfl rfl, page8_filled 0 rfl, Axis.page, byte_fourBits, flagByte_eq]
  rfl

theorem Axis.page_settings : page8 (x.page dir free 2) =
    be16 x.backlash ++ [BitVec.ofNat 8 x.accel, BitVec.ofNat 8 x.current, BitVec.ofNat 8 dir.code,
      (if x.lowEnable then 1 else 0) + (if x.lowFalling then 2 else 0) + (if x.highEnable then 4 else 0)
        + (if x.highFalling then 8 else 0)] ++ be16 x.acc := by
  rw [page8_filled 0 rfl, Axis.page, byte_fourBits]
  rfl

/-- Page 3 is the leg and the plan, filled up with two bytes. -/
theorem Axis.page_legPlan {leg plan : List Byte} (hleg : x.legBytes free = leg) (hplan : x.planBytes free = plan)
    (three : leg.length = 3) (three' : plan.length = 3) : page8 (x.page dir free 3) = leg ++ plan ++ [0, 0] := by
  have page : x.page dir free 3 = leg ++ plan := by rw [Axis.page, hleg, hplan]
  rw [page, page8_filled 2 (by rw [List.length_append, three, three'])]
  rfl

variable {x}

/-- A leg that runs is reported with its direction and what is left of it (R183). -/
theorem Axis.legBytes_some {l : Leg} (seek : x.state ≠ .seek) (release : x.state ≠ .release) (leg : x.leg = some l) :
    x.legBytes free = [if l.dir = .negative then 3 else 1] ++ be16 (min l.left 65535) := by
  rw [Axis.legBytes, if_neg fun k => k.elim seek release, leg]
  cases h : l.dir <;> simp only [h] <;> rfl

/-- The count of an axis without a leg is a free value (notes/assumptions/10.md). -/
theorem Axis.legBytes_none (seek : x.state ≠ .seek) (release : x.state ≠ .release) (leg : x.leg = none) :
    x.legBytes free = [0] ++ be16 (Config.absentCount free).toNat := by
  rw [Axis.legBytes, if_neg fun k => k.elim seek release, leg]
  rfl

theorem Axis.planBytes_some {p : Plan} (plan : x.plan = some p) :
    x.planBytes free = [1 + (if p.clamped then 2 else 0) + (if p.owed then 4 else 0)] ++ be16 p.target := by
  rw [Axis.planBytes, plan]
  cases h : p.clamped <;> cases h' : p.owed <;> simp only [h, h'] <;> rfl

/-- The target of an absent plan is a free value (notes/assumptions/10.md). -/
theorem Axis.planBytes_none (plan : x.plan = none) : x.planBytes free = [0] ++ be16 (Config.absentTarget free).toNat := by
  rw [Axis.planBytes, plan]
  rfl

end

section

variable {s : State} (takes : s.takes) (tag : Byte) {axis : Byte} {a : AxisId} (ha : AxisId.ofCode axis = some a)
include takes ha

/-- Page 0 clears the latched flags that it reports (R149). -/
theorem exec_readAxis_state : exec (.readAxis tag axis 0) s =
    .next { s.setAxis a (s.axis a).clearLatched with
      chan := s.answered tag .ok (page8 ((s.axis a).page (s.approachOf a) s.freeCount 0)) } := by
  obtain ⟨same, toward⟩ := s.countTaken_axis a
  have read : readAxis axis 0 s.countTaken = (s.countTaken.setAxis a (s.axis a).clearLatched,
      .okWith (page8 ((s.axis a).page (s.approachOf a) s.freeCount 0))) := by
    rw [readAxis, ha, ← same, ← toward]
    rfl
  refine congrArg Host.Outcome.next ((State.takePacket_work takes tag read).trans ?_)
  cases a <;> rfl

/-- Every other page changes nothing but its answer, and draws a free value for an absent leg or plan (R149). -/
theorem exec_readAxis_page {page : Fin 4} (later : page ≠ 0) : exec (.readAxis tag axis page) s =
    .next ((s.onlyAnswered tag .ok (page8 ((s.axis a).page (s.approachOf a) s.freeCount page))).drawFreeIf
      ((s.axis a).pageDrawsFree page)) := by
  obtain ⟨same, toward⟩ := s.countTaken_axis a
  have read : readAxis axis page s.countTaken = (s.countTaken.drawFreeIf ((s.axis a).pageDrawsFree page),
      .okWith (page8 ((s.axis a).page (s.approachOf a) s.freeCount page))) := by
    rw [readAxis, ha, ← same, ← toward]
    exact if_neg later
  refine congrArg Host.Outcome.next ((State.takePacket_work takes tag read).trans ?_)
  cases (s.axis a).pageDrawsFree page <;> rfl

/-- Page 3 of an axis that has both a leg and a plan, or lacks one of them. -/
theorem exec_readAxis_legPlan {leg plan : List Byte} (hleg : (s.axis a).legBytes s.freeCount = leg)
    (hplan : (s.axis a).planBytes s.freeCount = plan) (three : leg.length = 3) (three' : plan.length = 3) {draws : Bool}
    (hdraws : (s.axis a).pageDrawsFree 3 = draws) : exec (.readAxis tag axis 3) s =
      .next ((s.onlyAnswered tag .ok (leg ++ plan ++ [0, 0])).drawFreeIf draws) := by
  rw [exec_readAxis_page takes tag ha (by decide), Axis.page_legPlan _ _ _ hleg hplan three three', hdraws]

end

/-- Settles O44: WRITE_AXIS by its checks in order, READ_AXIS page by page. -/
theorem axisCommands : Obligations.AxisCommands := by
  intro s tag axis limit vmax vstart accel homeVel backlash current approach endstops takes
  refine ⟨fun code => ⟨?_, fun page => ?_⟩, fun out => ?_, ?_⟩
  · exact congrArg _ (State.takePacket_answer takes tag (writeAxis_refused (.inl code) _))
  · have refused : readAxis axis page s.countTaken = answer .refusedRange s.countTaken := by
      rw [readAxis, AxisId.ofCode_of_le code]
    exact congrArg _ (State.takePacket_answer takes tag refused)
  · refine congrArg _ (State.takePacket_answer takes tag (writeAxis_refused (.inr ?_) _))
    rw [axisInRange_iff]
    omega
  · rintro a x dir rfl code hdir
    have ha := AxisId.ofCode_of_eq code
    have toward : s.approachOf a = dir := by rw [hdir]; cases a <;> rfl
    refine ⟨fun d hd limit1 vmax1 vmax2 vstart1 vstart2 vstart3 accel1 home1 home2 home3 backlash1 endstops1 => ?_, ?_, ?_, ?_,
      fun l p seek release leg plan => ?_, fun l seek release leg plan => ?_, fun homing plan => ?_, fun rests leg plan => ?_,
      fun p state leg plan => ?_⟩
    · have range := axisInRange_iff.2 ⟨⟨vmax1, vmax2, vstart1, vstart2, home1, home2, vstart3, home3⟩, limit1, accel1, backlash1,
        Nat.lt_succ_of_le endstops1⟩
      have written := writeAxis_inRange (current := current) ha (Dir.ofCode_code hd) range s.countTaken
      rw [(s.countTaken_axis a).1] at written
      refine ⟨fun off idle => ?_, fun rests => ?_⟩
      · have working : (s.axis a).working = true := by simp [Axis.working, off, idle]
        exact congrArg _ (State.takePacket_answer takes tag (written.trans (if_pos working)))
      · have still : ¬(s.axis a).working = true := by rcases rests with e | e <;> simp [Axis.working, e]
        refine congrArg Host.Outcome.next ((State.takePacket_work takes tag (written.trans (if_neg still))).trans ?_)
        cases a <;> rfl
    · rw [exec_readAxis_state takes tag ha, Axis.page_state, toward]
      rfl
    · exact exec_readAxis_page takes tag ha (page := 1) (by decide)
    · rw [exec_readAxis_page takes tag ha (page := 2) (by decide), Axis.page_settings, toward]
      rfl
    · have draws : (s.axis a).pageDrawsFree 3 = false := by simp [Axis.pageDrawsFree, leg, plan]
      exact exec_readAxis_legPlan takes tag ha (Axis.legBytes_some _ seek release leg) (Axis.planBytes_some _ plan) rfl rfl draws
    · have draws : (s.axis a).pageDrawsFree 3 = true := by simp [Axis.pageDrawsFree, plan]
      exact ⟨_, _, exec_readAxis_legPlan takes tag ha (Axis.legBytes_some _ seek release leg) (Axis.planBytes_none _ plan) rfl rfl draws⟩
    · have draws : (s.axis a).pageDrawsFree 3 = true := by simp [Axis.pageDrawsFree, plan]
      have allowance : (s.axis a).legBytes s.freeCount = [0] ++ be16 (min (s.axis a).allowance 65535) := if_pos homing
      exact ⟨_, _, exec_readAxis_legPlan takes tag ha allowance (Axis.planBytes_none _ plan) rfl rfl draws⟩
    · have draws : (s.axis a).pageDrawsFree 3 = true := by simp [Axis.pageDrawsFree, plan]
      have seek : (s.axis a).state ≠ .seek := by rcases rests with e | e <;> simp [e]
      have release : (s.axis a).state ≠ .release := by rcases rests with e | e <;> simp [e]
      exact ⟨_, _, _, _, exec_readAxis_legPlan takes tag ha (Axis.legBytes_none _ seek release leg) (Axis.planBytes_none _ plan)
        rfl rfl draws⟩
    · have draws : (s.axis a).pageDrawsFree 3 = true := by simp [Axis.pageDrawsFree, leg, state]
      exact ⟨_, _, exec_readAxis_legPlan takes tag ha (Axis.legBytes_none _ (by simp [state]) (by simp [state]) leg)
        (Axis.planBytes_some _ plan) rfl rfl draws⟩

end Sys2Proof.Machine
end

section
/-! PROOF. O50: a HOME that starts at once. -/

namespace Sys2Proof.Machine

/-! ### The start of a homing (R141, R142) -/

/-- A homing begins in SEEK, or in RELEASE where the low end-stop is active already (R141). -/
theorem Axis.takeHoming_eq {x y : Axis}
    (seeks : x.lowEnable = false ∨ x.lowLevel = x.lowFalling → y = { x with
      state := .seek, homed := false, position := 0, allowance := x.limit + x.limit / 8, dirPin := false, vel := x.vstart
      acc := 0, leg := none, plan := none })
    (releases : x.lowEnable = true → x.lowLevel ≠ x.lowFalling → y = { x with
      state := .release, homed := false, position := 0, allowance := x.limit / 8, dirPin := true, vel := x.homeVel / 4
      acc := 0, leg := none, plan := none }) : x.takeHoming = y := by
  by_cases active : x.lowActive = true
  · obtain ⟨enable, level⟩ := x.lowActive_iff.1 active
    rw [releases enable level]
    exact if_pos active
  · rw [x.lowActive_iff, not_and_or, not_not, Bool.not_eq_true] at active
    rw [seeks active]
    exact if_neg (mt x.lowActive_iff.1 fun k => active.elim (fun off => nomatch off.symm.trans k.1) k.2)

/-- What the fans draw from the rail (R155). -/
theorem State.fanDraw_eq (s : State) : s.fanDraw = (s.fan .f0).applied * (s.fan .f0).current / 1023 +
    (s.fan .f1).applied * (s.fan .f1).current / 1023 + (s.fan .f2).applied * (s.fan .f2).current / 1023 := by
  simp [State.fanDraw, FanId.all, Nat.add_assoc]

/-! ### A HOME just started (R153, R154) -/

section

variable {s : State} {tag : Byte} {sel : HomeSel}

/-- A homing needs no homed axis, takes no blank hold and hands no axis a move: it goes on to its leg starts (R154, R158). -/
theorem State.startRequest_home : s.startRequest (.fresh tag (.home sel)) =
    (s.setExecuting (some (s.executingOf (.fresh tag (.home sel))))).carryOn carryFuel := by
  have skips {t : State} {x : Executing} (hx : t.motion.executing = some x) (homes : x.req.job.isHome = true) (a : AxisId) :
      t.handIdle a = t := by
    rw [State.handIdle, hx]
    exact if_neg (by simp [homes])
  let u := s.setExecuting (some (s.executingOf (.fresh tag (.home sel))))
  have h : u.handIdle .h = u := skips (x := s.executingOf (.fresh tag (.home sel))) rfl rfl .h
  have v : u.handIdle .v = u := skips (x := s.executingOf (.fresh tag (.home sel))) rfl rfl .v
  calc s.startRequest (.fresh tag (.home sel)) = ((u.handIdle .h).handIdle .v).carryOn carryFuel := rfl
    _ = u.carryOn carryFuel := by rw [h, v]

/-- The first axis to home is due to start, and it alone: in a HOME BOTH the H axis waits for V (R154). -/
structure State.HomeDue (s : State) (x : Executing) (a : AxisId) : Prop where
  work : s.HasWork x
  running : x.req.phase = .running
  due : s.StartDue x a (s.axis a).takeHoming .quiet
  alone : s.wantsStart x (otherAxis a) = false
  other : x.work (otherAxis a) ≠ .active
  still : ∀ b, (s.axis b).state = .idle

theorem State.homeDue (idle : ∀ a, (s.axis a).state = .idle) {a : AxisId} (first : sel = .h ∧ a = .h ∨ sel = .v ∧ a = .v ∨ sel = .both ∧ a = .v) :
    (s.setExecuting (some (s.executingOf (.fresh tag (.home sel))))).HomeDue (s.executingOf (.fresh tag (.home sel))) a := by
  let x := s.executingOf (.fresh tag (.home sel))
  let u := s.setExecuting (some x)
  have same (b : AxisId) : u.axis b = s.axis b := by cases b <;> rfl
  have owed : x.work a = .owed := by rcases first with ⟨rfl, rfl⟩ | ⟨rfl, rfl⟩ | ⟨rfl, rfl⟩ <;> rfl
  have begins : u.StartDue x a (u.axis a).takeHoming .quiet := by
    refine ⟨State.wantsStart_of_owed owed fun h _ => .inl ?_, ?_, ?_⟩
    · rcases first with ⟨rfl, rfl⟩ | ⟨rfl, rfl⟩ | ⟨rfl, rfl⟩
      · rfl
      · cases h
      · cases h
    · rw [Axis.inMotion, same, idle]
    · rw [State.legStart, owed]
      rfl
  have alone : u.wantsStart x (otherAxis a) = false := by
    rcases first with ⟨rfl, rfl⟩ | ⟨rfl, rfl⟩ | ⟨rfl, rfl⟩
    · exact State.wantsStart_eq_false nofun nofun
    · exact State.wantsStart_eq_false nofun nofun
    · rfl
  have other : x.work (otherAxis a) ≠ .active := by
    rcases first with ⟨rfl, rfl⟩ | ⟨rfl, rfl⟩ | ⟨rfl, rfl⟩ <;> nofun
  exact ⟨⟨rfl, rfl, nofun⟩, rfl, begins, alone, other, fun b => by rw [same, idle]⟩

end

namespace State.HomeDue

variable {s : State} {x : Executing} {a : AxisId} (c : s.HomeDue x a)
include c

theorem judgeRail : s.judgeRail x =
    if s.fanDraw + (s.axis a).current ≤ s.ctl.budget then
      ((s.resume (x.setWork a .active)).setAxis a (s.axis a).takeHoming, .quiet, .quiet)
    else (s.setMotion { s.motion with executing := some (x.setPhase .waitRail), railTimer := some 10000 }, .quiet, .quiet) := by
  have none : (s.axis (otherAxis a)).movingDraw = 0 := by simp [Axis.movingDraw, Axis.inMotion, c.still]
  have held : s.holdStart x = s.setMotion { s.motion with executing := some (x.setPhase .waitRail), railTimer := some 10000 } := by
    rw [State.holdStart_of_rests c.due.rests, if_neg fun k => c.other k.1, if_neg (by rw [c.running]; nofun)]
  rw [c.due.judgeRail c.alone, c.due.startOne, ite_self, none, Nat.add_zero, held]

theorem carryOn : s.carryOn carryFuel =
    if s.fanDraw + (s.axis a).current ≤ s.ctl.budget then (s.resume (x.setWork a .active)).setAxis a (s.axis a).takeHoming
    else s.setMotion { s.motion with executing := some (x.setPhase .waitRail), railTimer := some 10000 } := by
  have judged := c.judgeRail
  split at judged
  next fits => rw [if_pos fits, carryFuel, c.work.carryOn_due c.due judged, if_pos ⟨rfl, rfl⟩]
  next full => rw [if_neg full, carryFuel, c.work.carryOn_due c.due judged, if_pos ⟨rfl, rfl⟩]

end State.HomeDue

/-- A HOME that an idle queue takes starts at once (R152, R153). -/
theorem exec_home {s : State} (takes : s.takes) (queue : s.motion.queue = []) (start : s.mayStart = true) (tag : Byte) {b : Byte}
    {sel : HomeSel} (hb : HomeSel.ofCode b = some sel) :
    exec (.home tag b) s = .next ((s.startRequest (.fresh tag (.home sel))).besides s.motion.queue (s.chan.taken + 1)
      (s.chan.entries ++ [{ tag := tag, reply := { result := .queued, data := [1] } }])) := by
  have owner : home tag b s.countTaken = enqueue tag (.home sel) s.countTaken := by rw [home, hb]
  exact congrArg _ (s.takePacket_enqueue takes queue start tag _ owner)

/-- Settles O50: the packet starts the homing at once (`exec_home`), and the rail judges its first axis alone. -/
theorem homeStartsAtOnce : Obligations.HomeStartsAtOnce := by
  intro s tag b sel a x y draw phase work e takes op queue executing hIdle vIdle choice hx hdraw he
  have idle (a : AxisId) : (s.axis a).state = .idle := by
    cases a
    exacts [hIdle, vIdle]
  have code : HomeSel.ofCode b = some sel := by
    rcases choice with ⟨rfl, rfl, -⟩ | ⟨rfl, rfl, -⟩ | ⟨rfl, rfl, -⟩ <;> rfl
  have first : sel = .h ∧ a = .h ∨ sel = .v ∧ a = .v ∨ sel = .both ∧ a = .v := choice.imp And.right (Or.imp And.right And.right)
  obtain rfl : draw = s.fanDraw := hdraw.trans s.fanDraw_eq.symm
  let u := s.setExecuting (some (s.executingOf (.fresh tag (.home sel))))
  have same : u.axis a = x := by rw [hx]; cases a <;> rfl
  have run := exec_home takes queue (State.mayStart_of_idle op executing hIdle vIdle) tag code
  rw [State.startRequest_home, (State.homeDue idle first).carryOn] at run
  change exec _ s = .next (State.besides (if s.fanDraw + (u.axis a).current ≤ s.ctl.budget then
    (u.resume ((s.executingOf (.fresh tag (.home sel))).setWork a .active)).setAxis a (u.axis a).takeHoming else _) ..) at run
  rw [same] at run
  refine ⟨?_, ?_⟩
  · rintro full rfl rfl
    rw [run, if_neg (Nat.not_le.2 full), he]
    rcases first with ⟨rfl, rfl⟩ | ⟨rfl, rfl⟩ | ⟨rfl, rfl⟩ <;> rfl
  · rintro fits rfl rfl seeks releases
    rw [run, if_pos fits, Axis.takeHoming_eq seeks releases, he]
    rcases first with ⟨rfl, rfl⟩ | ⟨rfl, rfl⟩ | ⟨rfl, rfl⟩ <;> rfl

end Sys2Proof.Machine
end

section
/-! PROOF. O46, O47: what an axis's outcome makes of the executing request. -/

namespace Sys2Proof.Machine

/-! ### The end of the executing request (R157, R161, R164) -/

/-- The part once its executing request has ended with a result (R157, R161, R164). -/
def State.ended (s : State) (x : Executing) (res : MotionResult) : State :=
  { s with
    light := if s.motion.blankHold then s.light.release else s.light
    motion := { s.motion with
      executing := none, railTimer := none, blankHold := false, history := s.putFirst res s.motion.history x.req }
    chan := s.chan.raise .motionDone }

section

variable {s : State} {x : Executing} {a : AxisId}

/-- An end with no blank hold to let go of leaves the light as it is. -/
theorem State.ended_of_free (free : s.motion.blankHold = false) (res : MotionResult) : s.ended x res =
    { s with
      motion := { s.motion with executing := none, railTimer := none, history := s.putFirst res s.motion.history x.req }
      chan := s.chan.raise .motionDone } := by
  rw [State.ended, if_neg (by simp [free]), ← free]

/-- An end lets go of the blank hold, which gives a held light its full level back (R56, R161). -/
theorem State.ended_light (s : State) {l : Light} (hl : l = if s.motion.blankHold then s.light.release else s.light) :
    (s.motion.blankHold = false → l = s.light) ∧
    (s.motion.blankHold = true → s.light.motionHeld = true → l.motion = 4095 ∧ l.motionHeld = false) := by
  subst hl
  refine ⟨fun free => ?_, fun held dark => ?_⟩
  · rw [free]
    rfl
  · rw [if_pos held]
    exact s.light.release_motion dark

/-- With the queue empty, the end of the request is all that happens (R153). -/
theorem State.ended_proceed (queue : s.motion.queue = []) (res : MotionResult) : (s.ended x res).proceed = s.ended x res :=
  State.proceed_of_idle rfl queue

theorem State.ended_pump (queue : s.motion.queue = []) (res : MotionResult) : (s.ended x res).pump = s.ended x res :=
  State.pump_empty _ queue

/-- A request that stops at an end-stop at its leg start ends as any other does. -/
theorem State.stoppedAtStart_eq_ended (s : State) (x : Executing) : s.stoppedAtStart x = (s.raise .endstop).ended x .endstop := rfl

/-! ### An outcome reaches the executing request (R143, R144, R147, R157) -/

/-- The request once one axis has done its work for it (R157). -/
def Executing.doneOn (x : Executing) (a : AxisId) (clamped : Bool) : Executing :=
  { x.setWork a .finished with req := { x.req with clamped := x.req.clamped || clamped } }

theorem Executing.doneOn_work (x : Executing) (a : AxisId) (clamped : Bool) :
    (x.doneOn a clamped).work a = .finished ∧ (x.doneOn a clamped).work (otherAxis a) = x.work (otherAxis a) := by
  cases a <;> exact ⟨rfl, rfl⟩

/-- A request's work has all ended once the one axis has done its part and the other has none left. -/
theorem Executing.allFinished_of_over (here : x.work a = .finished)
    (there : x.work (otherAxis a) = .unused ∨ x.work (otherAxis a) = .finished) : x.allFinished = true := by
  cases a <;> simp only [otherAxis, Executing.work] at here there <;> simpa [Executing.allFinished, here] using there

theorem Executing.setWork_of_active (active : x.work a = .active) : x.setWork a .active = x := by
  cases a <;> simp only [Executing.work] at active <;> simp only [Executing.setWork, ← active]

section

variable (hx : s.motion.executing = some x) (active : x.work a = .active)
include hx active

theorem State.takeEvent_done (clamped : Bool) :
    s.takeEvent a (.outcome (.done clamped)) = s.setExecuting (some (x.doneOn a clamped)) := by
  have sameReq : (x.setWork a .finished).req = x.req := by cases a <;> rfl
  simp only [State.takeEvent, AxisOutcome.flags, State.noteOutcome, hx, active, if_true, Executing.doneOn, sameReq]

theorem State.takeEvent_stopped :
    s.takeEvent a (.outcome .stopped) = s.setExecuting (some (x.setWork a .finished)) := by
  simp only [State.takeEvent, AxisOutcome.flags, State.noteOutcome, hx, active, if_true]

theorem State.takeEvent_homeFail :
    s.takeEvent a (.outcome .homeFail) = (s.raise .homeFail).ended x .homeFail := by
  have noted : s.takeEvent a (.outcome .homeFail) = (s.raise .homeFail).endRequest .homeFail := by
    simp only [State.takeEvent, AxisOutcome.flags, State.noteOutcome, State.raise_fields, hx, active, if_true]
  rw [noted, State.endRequest_eq (s := s.raise .homeFail) hx, State.ended]

end

/-! ### The request goes on (R157, R159) -/

/-- A request under a stop request whose axes rest ends STOPPED (R156, R157). -/
theorem State.proceed_stopped (hx : s.motion.executing = some x) (phase : x.req.phase ≠ .switching) (stop : x.req.stopReq = true)
    (still : s.stillStopping x = false) (queue : s.motion.queue = []) : s.proceed = s.ended x .stopped := by
  have ends : s.carryOn carryFuel = s.ended x .stopped := by
    rw [carryFuel, State.carryOn, hx]
    simp only [phase, stop, still, if_true, if_false, Bool.false_eq_true]
    exact State.endRequest_eq hx .stopped
  rw [State.proceed, ends, State.ended_pump queue]

/-- A request whose work has all ended is finished at once. -/
theorem State.HasWork.carryOn_finished (c : s.HasWork x) (all : x.allFinished = true) (fuel : Nat) :
    s.carryOn (fuel + 1) = s.finishWork x := by
  rw [State.carryOn, c.executing]
  simp only [c.phase, c.goesOn, all, if_true, if_false, Bool.false_eq_true]

/-- Finished work ends a request that has no grid step to take (R157). -/
theorem State.finishWork_ends (hx : s.motion.executing = some x)
    (plain : ∀ index copy, x.req.job = .recall index copy → copy.slot = none) : s.finishWork x = s.ended x x.req.completion := by
  have ends := State.endRequest_eq hx x.req.completion
  unfold State.finishWork
  split
  next p job =>
    rw [plain _ p job]
    exact ends
  all_goals exact ends

section

variable {index : Nat} {copy : Preset} {n : Fin 4} (job : x.req.job = .recall index copy) (slot : copy.slot = some n)
include job slot

/-- A recall whose slot is not VALID ends GRID_HELD (R159). -/
theorem State.finishWork_held (hx : s.motion.executing = some x) (invalid : (s.slot n).state ≠ .valid) :
    s.finishWork x = s.ended x .gridHeld := by
  have held : s.finishWork x = s.endRequest .gridHeld := by simp only [State.finishWork, job, slot, invalid, if_false]
  rw [held]
  exact State.endRequest_eq hx .gridHeld

/-- A recall whose slot is VALID places its choice (R159, R160). -/
theorem State.finishWork_switches (valid : (s.slot n).state = .valid) : s.finishWork x =
    let t := (s.setWarp { s.warp with choice := some { slot := some n, origin := .recall x.req.tag } }).setExecuting
      (some (x.setPhase .switching))
    if s.ctl.armed then t else t.ended (x.setPhase .switching) x.req.completion := by
  have placed : s.finishWork x = s.enterSwitching x n := by simp only [State.finishWork, job, slot, valid, if_true]
  rw [placed]
  exact congrArg (fun t => if s.ctl.armed then _ else t) (State.endRequest_eq rfl _)

end

end

end Sys2Proof.Machine
end

section
/-! PROOF. O46: the axes at a profile tick, and the granting of an approach leg. -/

namespace Sys2Proof.Machine

/-! ### What an axis hands over at a tick (R137, R140, R143, R145) -/

theorem Axis.legEnds_cases (x : Axis) :
    x.legEnds = ({ x with state := .approach, vel := 0, acc := 0, leg := none }, .asks) ∨ x.legEnds = x.moveDone := by
  unfold Axis.legEnds
  split
  · exact .inl rfl
  · exact .inr rfl

/-- What the queue may read off the record and the event of an axis after a tick: its run current, where it stands when it
asks for an approach leg, and that it rests after an outcome. -/
def Axis.Handed (current : Nat) (r : Axis × AxisEvent) : Prop :=
  r.1.current = current ∧ (r.2 = .asks → r.1.state = .approach ∧ r.1.leg = none) ∧ (∀ o, r.2 = .outcome o → r.1.state = .idle)

theorem Axis.handed_quiet (x : Axis) : Axis.Handed x.current (x, .quiet) := ⟨rfl, nofun, nofun⟩

theorem Axis.handed_outcome {x : Axis} (rests : x.state = .idle) (o : AxisOutcome) : Axis.Handed x.current (x, .outcome o) :=
  ⟨rfl, nofun, fun _ _ => rests⟩

theorem Axis.tick_handed (x : Axis) : Axis.Handed x.current x.tick := by
  have homing (v : Nat) : Axis.Handed x.current (x.homingTick v) :=
    iteInduction (motive := Axis.Handed x.current) (fun _ => Axis.handed_outcome rfl _) fun _ => Axis.handed_quiet _
  rcases x.tick_cases with ⟨-, e⟩ | ⟨-, e⟩ | ⟨l, -, -, e⟩ | ⟨l, -, -, e⟩ | ⟨-, -, -, e⟩ <;> rw [e]
  · exact homing _
  · exact homing _
  · rw [x.legTick_eq l rfl rfl]
    refine iteInduction (motive := Axis.Handed x.current) (fun _ => ?_) fun _ => Axis.handed_quiet _
    rcases (x.ran l _ _ _).legEnds_cases with e | e <;> rw [e]
    · exact ⟨rfl, fun _ => ⟨rfl, rfl⟩, nofun⟩
    · exact Axis.handed_outcome rfl _
  · rw [x.stopTick_eq l rfl rfl]
    exact iteInduction (motive := Axis.Handed x.current) (fun _ => Axis.handed_outcome rfl _) fun _ => Axis.handed_quiet _
  · exact Axis.handed_quiet _

/-! ### The granted approach leg (R135, R136, R140) -/

/-- The approach leg to another position, as it is granted (R136, R140). -/
def Axis.approachLeg (x : Axis) (p : Plan) : Axis :=
  { x with
    plan := some { p with owed := false }, vel := x.vstart, acc := 0, dirPin := decide (x.position < p.target)
    leg := some { dir := if x.position < p.target then .positive else .negative
                  left := if x.position < p.target then p.target - x.position else x.position - p.target } }

theorem Axis.approachLeg_anyActive (x : Axis) (p : Plan) : (x.approachLeg p).anyActive = x.anyActive := rfl

section

variable {x : Axis} {p : Plan} (plan : x.plan = some p)
include plan

theorem Axis.grantApproach_of_away (away : p.target ≠ x.position) : x.grantApproach = (x.approachLeg p).checkEndstops := by
  rw [Axis.grantApproach, plan]
  dsimp only
  rw [if_neg away]
  exact congrArg Axis.checkEndstops (Axis.startLeg_eq (x := { x with plan := some { p with owed := false } }) away)

/-- With an end-stop active the granted leg ends abruptly, with DIR set for a leg of some length (R135, R136, R144). -/
theorem Axis.grantApproach_of_active (active : x.anyActive = true) : ∃ side, x.grantApproach = ({ x.abrupt with
    dirPin := if p.target = x.position then x.dirPin else decide (x.position < p.target) }, .outcome (.endstop side)) := by
  by_cases here : p.target = x.position
  · rw [if_pos here]
    rcases Axis.grantApproach_at_target plan here with ⟨-, side, e⟩ | ⟨off, -⟩
    · exact ⟨side, e⟩
    · cases off.symm.trans active
  · rw [if_neg here, Axis.grantApproach_of_away plan here]
    rcases (x.approachLeg p).checkEndstops_cases with ⟨-, side, e⟩ | ⟨off, -⟩
    · exact ⟨side, e⟩
    · cases (x.approachLeg_anyActive p ▸ off).symm.trans active

variable (clear : x.anyActive = false)
include clear

/-- With no end-stop active an approach leg to another position begins (R140). -/
theorem Axis.grantApproach_of_clear (away : p.target ≠ x.position) : x.grantApproach = (x.approachLeg p, .quiet) := by
  rw [Axis.grantApproach_of_away plan away]
  rcases (x.approachLeg p).checkEndstops_cases with ⟨on, -⟩ | ⟨-, e⟩
  · cases (x.approachLeg_anyActive p ▸ on).symm.trans clear
  · exact e

/-- With no end-stop active an approach leg of distance 0 ends the move as it starts (R136, R140). -/
theorem Axis.grantApproach_of_zero (zero : p.target = x.position) :
    x.grantApproach = (x.stand, .outcome (.done p.clamped)) := by
  rcases Axis.grantApproach_at_target plan zero with ⟨on, -⟩ | ⟨-, e⟩
  · cases clear.symm.trans on
  · rw [e, Axis.moveDone, Axis.clampedMark, plan]
    rfl

end

/-- The axis asks for its approach leg, which is due with whatever its grant then makes of it (R140, R155). -/
theorem State.startDue_of_asks {s : State} {x : Executing} {a : AxisId} (active : x.work a = .active)
    (state : (s.axis a).state = .approach) (leg : (s.axis a).leg = none) :
    s.StartDue x a (s.axis a).grantApproach.1 (s.axis a).grantApproach.2 := by
  refine ⟨State.wantsStart_of_waits active state leg, ?_, if_pos active⟩
  rw [Axis.inMotion, state, leg]
  rfl

/-- A leg that ends as it starts ends the request where it was the last of its work (R140, R157). -/
theorem State.HasWork.proceed_done {s : State} {x : Executing} {a : AxisId} {y : Axis} {clamped : Bool} (c : s.HasWork x)
    (d : s.StartDue x a y (.outcome (.done clamped))) (alone : s.wantsStart x (otherAxis a) = false)
    (rest : x.work (otherAxis a) = .unused ∨ x.work (otherAxis a) = .finished)
    (plain : ∀ index copy, x.req.job = .recall index copy → copy.slot = none) (queue : s.motion.queue = [])
    (room : s.fanDraw + (s.axis (otherAxis a)).movingDraw + (s.axis a).current ≤ s.ctl.budget) :
    ∃ z : Executing, z.req.tag = x.req.tag ∧ z.req.job = x.req.job ∧
      s.proceed = ((s.resume (x.setWork a .active)).setAxis a y).ended z
        (if x.req.clamped || clamped then .completedClamped else .completed) := by
  let t := (s.resume (x.setWork a .active)).setAxis a y
  let g := (x.setWork a .active).setPhase .running
  let z := g.doneOn a clamped
  have executing : t.motion.executing = some g := by cases a <;> rfl
  have active : g.work a = .active := by cases a <;> rfl
  have taken : t.takeEvent a (.outcome (.done clamped)) = t.setExecuting (some z) := State.takeEvent_done executing active clamped
  have work : (t.setExecuting (some z)).HasWork z := by
    refine ⟨rfl, ?_, ?_⟩
    · cases a <;> exact c.goesOn
    · cases a <;> nofun
  have all : z.allFinished = true := by
    refine Executing.allFinished_of_over (g.doneOn_work a clamped).1 ?_
    rw [(g.doneOn_work a clamped).2]
    cases a <;> exact rest
  have judged := d.judgeRail alone
  rw [if_pos room, d.startOne] at judged
  have goes := c.carryOn_due d judged 7
  rw [if_neg (by cases a <;> simp)] at goes
  have followed : s.carryOn carryFuel = (t.setExecuting (some z)).carryOn 7 := by
    rw [carryFuel, goes]
    cases a <;> exact congrArg (State.carryOn · 7) taken
  have finished : (t.setExecuting (some z)).finishWork z = t.ended z z.req.completion :=
    (State.finishWork_ends rfl (by cases a <;> exact plain)).trans rfl
  refine ⟨z, by cases a <;> rfl, by cases a <;> rfl, ?_⟩
  rw [State.proceed, followed, work.carryOn_finished all, finished, State.pump_empty _ (by cases a <;> exact queue)]
  cases a <;> rfl

end Sys2Proof.Machine
end

section
/-! PROOF. O46: a profile tick, and the executing request after it. -/

namespace Sys2Proof.Machine

/-! ### Both axes one tick on (notes/assumptions/12.md) -/

/-- The part with both axes one tick on, before the queue takes what they hand over. -/
def State.ticked (s : State) : State := { s with axisH := s.axisH.tick.1, axisV := s.axisV.tick.1 }

section

variable {s : State} {x : Executing} {a : AxisId}

theorem State.ticked_axis (s : State) (a : AxisId) : s.ticked.axis a = (s.axis a).tick.1 := by cases a <;> rfl

theorem exec_profileTick (live : s.resetAsserted = false) : exec .profileTick s = .next s.profileTick :=
  congrArg _ (State.whenLive_of_live live _)

/-- What the one axis hands over is taken alone where the other has nothing. -/
theorem State.profileTick_of_event {e : AxisEvent} (he : (s.axis a).tick.2 = e) (event : e ≠ .quiet)
    (quiet : (s.axis (otherAxis a)).tick.2 = .quiet) : s.profileTick = (s.ticked.takeEvent a e).proceed := by
  subst he
  cases a with
  | h =>
    have none : s.axisV.tick.2 = .quiet := quiet
    exact (if_neg fun k => event k.1).trans (congrArg (fun o => ((s.ticked.takeEvent .h s.axisH.tick.2).takeEvent .v o).proceed) none)
  | v =>
    have none : s.axisH.tick.2 = .quiet := quiet
    exact (if_neg fun k => event k.2).trans (congrArg (fun o => ((s.ticked.takeEvent .h o).takeEvent .v s.axisV.tick.2).proceed) none)

/-- An axis that the tick brings to an outcome rests (R140, R143, R145). -/
theorem State.ticked_movingDraw {o : AxisOutcome} (h : (s.axis a).tick.2 = .outcome o) : (s.ticked.axis a).movingDraw = 0 := by
  have idle := (s.axis a).tick_handed.2.2 o h
  rw [State.ticked_axis, Axis.movingDraw, Axis.inMotion, idle]
  rfl

/-! ### The last work of the executing request (R157, R159) -/

/-- The tick of one axis alone has something for the queue, and the executing request has no other work left. -/
structure State.LastWork (s : State) (x : Executing) (a : AxisId) : Prop where
  quiet : (s.axis (otherAxis a)).tick.2 = .quiet
  executing : s.motion.executing = some x
  active : x.work a = .active
  rest : x.work (otherAxis a) = .unused ∨ x.work (otherAxis a) = .finished
  phase : x.req.phase ≠ .switching
  queue : s.motion.queue = []

namespace State.LastWork

variable (c : s.LastWork x a)
include c

/-- The part once the axis has done its work, its request about to be finished. -/
theorem profileTick_done {clamped : Bool} (done : (s.axis a).tick.2 = .outcome (.done clamped)) (goes : x.req.stopReq = false) :
    s.profileTick = ((s.ticked.setExecuting (some (x.doneOn a clamped))).finishWork (x.doneOn a clamped)).pump := by
  have work : (s.ticked.setExecuting (some (x.doneOn a clamped))).HasWork (x.doneOn a clamped) := ⟨rfl, goes, c.phase⟩
  have all : (x.doneOn a clamped).allFinished = true :=
    Executing.allFinished_of_over (x.doneOn_work a clamped).1 ((x.doneOn_work a clamped).2 ▸ c.rest)
  rw [State.profileTick_of_event done nofun c.quiet, State.takeEvent_done (s := s.ticked) c.executing c.active, State.proceed,
    carryFuel, work.carryOn_finished all]

theorem profileTick_stopped (stopped : (s.axis a).tick.2 = .outcome .stopped) (stop : x.req.stopReq = true) :
    s.profileTick = (s.ticked.setExecuting (some (x.setWork a .finished))).ended (x.setWork a .finished) .stopped := by
  let y := x.setWork a .finished
  have rests : y.hWork ≠ .active ∧ y.vWork ≠ .active := by
    have there := c.rest
    cases a <;> simp only [otherAxis, Executing.work] at there <;> rcases there with k | k <;> simp [y, Executing.setWork, k]
  have still : (s.ticked.setExecuting (some y)).stillStopping y = false := by simp [State.stillStopping, rests]
  rw [State.profileTick_of_event stopped nofun c.quiet, State.takeEvent_stopped (s := s.ticked) c.executing c.active]
  refine State.proceed_stopped rfl ?_ ?_ still c.queue
  · cases a <;> exact c.phase
  · cases a <;> exact stop

theorem profileTick_homeFail (fails : (s.axis a).tick.2 = .outcome .homeFail) :
    s.profileTick = (s.ticked.raise .homeFail).ended x .homeFail := by
  rw [State.profileTick_of_event fails nofun c.quiet, State.takeEvent_homeFail (s := s.ticked) c.executing c.active]
  exact State.ended_proceed (s := s.ticked.raise .homeFail) c.queue .homeFail

/-! ### An approach leg asked for (R140, R155) -/

section

variable (asks : (s.axis a).tick.2 = .asks) (goes : x.req.stopReq = false)
include asks

theorem profileTick_asks : s.profileTick = s.ticked.proceed := State.profileTick_of_event asks nofun c.quiet

theorem due : s.ticked.StartDue x a (s.ticked.axis a).grantApproach.1 (s.ticked.axis a).grantApproach.2 := by
  obtain ⟨-, waits, -⟩ := (s.axis a).tick_handed
  refine State.startDue_of_asks c.active ?_ ?_ <;> rw [State.ticked_axis]
  exacts [(waits asks).1, (waits asks).2]

end

theorem notActive : x.work (otherAxis a) ≠ .active := by rcases c.rest with h | h <;> rw [h] <;> nofun

theorem alone : s.ticked.wantsStart x (otherAxis a) = false := by
  refine State.wantsStart_eq_false ?_ fun active => absurd active c.notActive
  rcases c.rest with h | h <;> rw [h] <;> nofun

theorem work (goes : x.req.stopReq = false) : s.ticked.HasWork x := ⟨c.executing, goes, c.phase⟩

end State.LastWork

/-- An idle axis adds nothing to the rail, after the tick as before it (R133, R155). -/
theorem State.ticked_movingDraw_of_idle (idle : (s.axis a).state = .idle) : (s.ticked.axis a).movingDraw = 0 := by
  have rests : (s.axis a).inMotion = false := by rw [Axis.inMotion, idle]
  rw [State.ticked_axis, Axis.tick_of_rest rests, Axis.movingDraw, Axis.inMotion, idle]
  rfl

end

end Sys2Proof.Machine
end

section
/-! PROOF. O46: the profile tick, clause by clause. -/

namespace Sys2Proof.Machine

/-! ### The part as the last work of a request leaves it -/

/-- The history with the end of a request in front, at the positions that the tick leaves (R164). -/
def State.tickHistory (s : State) (x : Executing) (res : MotionResult) : List HistEntry :=
  (⟨x.req.tag, x.req.job.kind, res, s.axisH.tick.1.position, s.axisV.tick.1.position⟩ :: s.motion.history).take 8

/-- The rail beside an idle axis carries what it carries beside the fans alone (R155). -/
theorem State.ticked_room {s : State} {a : AxisId} (idle : (s.axis (otherAxis a)).state = .idle) :
    s.ticked.fanDraw + (s.ticked.axis (otherAxis a)).movingDraw + (s.ticked.axis a).current ≤ s.ticked.ctl.budget ↔
      s.fanDraw + (s.ticked.axis a).current ≤ s.ctl.budget := by
  rw [State.ticked_movingDraw_of_idle idle]
  rfl

namespace State.LastWork

variable {s : State} {x : Executing} {a : AxisId} (c : s.LastWork x a)
include c

/-- The ends of a request that are no recall with a VALID slot, with the flags each of them sets (R143, R157, R159). -/
theorem profileTick_ends {result : MotionResult} {bits : BitVec 12}
    (ends : (∃ clamped, (s.axis a).tick.2 = .outcome (.done clamped) ∧ x.req.stopReq = false ∧
          (∀ index copy, x.req.job = .recall index copy → copy.slot = none) ∧
          result = (if x.req.clamped || clamped then .completedClamped else .completed) ∧ bits = 0x004) ∨
      (∃ clamped index copy n, (s.axis a).tick.2 = .outcome (.done clamped) ∧ x.req.stopReq = false ∧
          x.req.job = .recall index copy ∧ copy.slot = some n ∧ (s.slot n).state ≠ .valid ∧ result = .gridHeld ∧ bits = 0x004) ∨
      ((s.axis a).tick.2 = .outcome .stopped ∧ x.req.stopReq = true ∧ result = .stopped ∧ bits = 0x004) ∨
      ((s.axis a).tick.2 = .outcome .homeFail ∧ result = .homeFail ∧ bits = 0x014)) :
    s.profileTick = { s.ticked with
      light := if s.motion.blankHold then s.light.release else s.light
      motion := { s.motion with executing := none, railTimer := none, blankHold := false, history := s.tickHistory x result }
      chan := { s.chan with flags := s.chan.flags ||| bits } } := by
  rcases ends with ⟨clamped, done, goes, plain, rfl, rfl⟩ | ⟨clamped, index, copy, n, done, goes, job, slot, invalid, rfl, rfl⟩ |
    ⟨stopped, stop, rfl, rfl⟩ | ⟨fails, rfl, rfl⟩
  · let u := s.ticked.setExecuting (some (x.doneOn a clamped))
    rw [c.profileTick_done done goes, State.finishWork_ends (s := u) rfl plain, State.ended_pump (s := u) c.queue]
    rfl
  · let u := s.ticked.setExecuting (some (x.doneOn a clamped))
    rw [c.profileTick_done done goes, State.finishWork_held (s := u) (x := x.doneOn a clamped) job slot rfl invalid, State.ended_pump (s := u) c.queue]
    rfl
  · rw [c.profileTick_stopped stopped stop]
    cases a <;> rfl
  · have flags : ((s.chan.raise .homeFail).raise .motionDone).flags = s.chan.flags ||| 0x014 := BitVec.or_assoc ..
    rw [c.profileTick_homeFail fails, ← flags]
    rfl

/-- A recall whose slot is VALID places its choice and goes to SWITCHING, where it stays while silence is armed (R159, R160). -/
theorem profileTick_switches {clamped : Bool} {index : Nat} {copy : Preset} {n : Fin 4}
    (done : (s.axis a).tick.2 = .outcome (.done clamped)) (goes : x.req.stopReq = false) (job : x.req.job = .recall index copy)
    (slot : copy.slot = some n) (valid : (s.slot n).state = .valid) :
    let t : State := { s.ticked with
      warp := { s.warp with choice := some { slot := some n, origin := .recall x.req.tag } }
      motion := { s.motion with executing := some ((x.doneOn a clamped).setPhase .switching) } }
    s.profileTick = if s.ctl.armed then t else t.ended ((x.doneOn a clamped).setPhase .switching) (x.doneOn a clamped).req.completion := by
  intro t
  have finished : (s.ticked.setExecuting (some (x.doneOn a clamped))).finishWork (x.doneOn a clamped) =
      if s.ctl.armed then t else t.ended ((x.doneOn a clamped).setPhase .switching) (x.doneOn a clamped).req.completion :=
    State.finishWork_switches (x := x.doneOn a clamped) job slot valid
  rw [c.profileTick_done done goes, finished]
  split
  · exact State.pump_of_executing rfl
  · exact State.ended_pump (s := t) c.queue _

section

variable {p : Plan} (asks : (s.axis a).tick.2 = .asks) (goes : x.req.stopReq = false)
  (idle : (s.axis (otherAxis a)).state = .idle)
include asks goes idle

/-- An approach leg that the rail does not carry makes its request wait (R155). -/
theorem profileTick_waits (full : s.ctl.budget < s.fanDraw + (s.ticked.axis a).current) (running : x.req.phase = .running) :
    s.profileTick = { s.ticked with
      motion := { s.motion with executing := some (x.setPhase .waitRail), railTimer := some 10000 } } := by
  have due := c.due asks
  have full' := mt (State.ticked_room idle).1 (Nat.not_le.2 full)
  rw [c.profileTick_asks asks, (c.work goes).proceed_held due ((due.judgeRail c.alone).trans (if_neg full')),
    State.holdStart_of_rests due.rests, if_neg fun k => c.notActive k.1, if_neg (by rw [running]; nofun)]
  rfl

variable (plan : (s.ticked.axis a).plan = some p) (fits : s.fanDraw + (s.ticked.axis a).current ≤ s.ctl.budget)
include plan fits

/-- An approach leg that the rail carries and no end-stop stops is granted (R140, R155). -/
theorem profileTick_granted (clear : (s.ticked.axis a).anyActive = false) (away : p.target ≠ (s.ticked.axis a).position) :
    s.profileTick = (s.ticked.resume x).setAxis a ((s.ticked.axis a).approachLeg p) := by
  have due := c.due asks
  rw [Axis.grantApproach_of_clear plan clear away] at due
  rw [c.profileTick_asks asks, (c.work goes).proceed_started due c.alone ((State.ticked_room idle).2 fits),
    Executing.setWork_of_active c.active]

/-- An approach leg that an end-stop stops, or that ends as it starts, ends its request (R135, R140, R157). -/
theorem profileTick_legEnds (free : s.motion.blankHold = false) {result : MotionResult} {bits : BitVec 12}
    (ends : (s.ticked.axis a).anyActive = false ∧ p.target = (s.ticked.axis a).position ∧
        (∀ index copy, x.req.job ≠ .recall index copy) ∧
        result = (if x.req.clamped || p.clamped then .completedClamped else .completed) ∧ bits = 0x004 ∨
      (s.ticked.axis a).anyActive = true ∧ result = .endstop ∧ bits = 0x00C) :
    s.profileTick = { s.ticked.setAxis a { (s.ticked.axis a).stand with
        dirPin := if p.target = (s.ticked.axis a).position then (s.ticked.axis a).dirPin
          else decide ((s.ticked.axis a).position < p.target)
        homed := (s.ticked.axis a).homed && decide (result ≠ .endstop) } with
      motion := { s.motion with executing := none, railTimer := none, history := s.tickHistory x result }
      chan := { s.chan with flags := s.chan.flags ||| bits } } := by
  have due := c.due asks
  have room := (State.ticked_room idle).2 fits
  rcases ends with ⟨clear, zero, plain, rfl, rfl⟩ | ⟨active, rfl, rfl⟩
  · rw [Axis.grantApproach_of_zero plan clear zero] at due
    obtain ⟨z, tag, job, run⟩ :=
      (c.work goes).proceed_done due c.alone c.rest (fun index copy k => absurd k (plain index copy)) c.queue room
    have homed (res : Bool) : ((s.ticked.axis a).homed && decide ((if res then MotionResult.completedClamped else .completed) ≠ .endstop)) =
        (s.ticked.axis a).homed := by cases res <;> simp
    rw [c.profileTick_asks asks, run, State.ended_of_free (by cases a <;> exact free), State.putFirst, State.histEntry, tag, job,
      homed, if_pos zero]
    cases a <;> rfl
  · obtain ⟨side, stops⟩ := Axis.grantApproach_of_active plan active
    rw [stops] at due
    have flags : ((s.chan.raise .endstop).raise .motionDone).flags = s.chan.flags ||| 0x00C := BitVec.or_assoc ..
    rw [c.profileTick_asks asks, (c.work goes).proceed_endstop due c.alone c.notActive c.queue room, State.stoppedAtStart_eq_ended,
      State.ended_of_free (by cases a <;> exact free), ← flags, decide_eq_false (not_not.2 rfl), Bool.and_false]
    cases a <;> rfl

end

end State.LastWork

end Sys2Proof.Machine
end

section
/-! PROOF. O46: one axis ends DONE with a leg start of the other left to judge, and the obligation. -/

namespace Sys2Proof.Machine

/-! ### The other axis's leg start (R155, R157, R158) -/

theorem otherAxis_otherAxis (a : AxisId) : otherAxis (otherAxis a) = a := by cases a <;> rfl

/-- The tick ends the work of one axis DONE, and the request that moves it goes on. -/
structure State.HalfDone (s : State) (x : Executing) (a : AxisId) (clamped : Bool) : Prop where
  done : (s.axis a).tick.2 = .outcome (.done clamped)
  quiet : (s.axis (otherAxis a)).tick.2 = .quiet
  executing : s.motion.executing = some x
  active : x.work a = .active
  goes : x.req.stopReq = false
  running : x.req.phase = .running

namespace State.HalfDone

variable {s : State} {x : Executing} {a : AxisId} {clamped : Bool} (c : s.HalfDone x a clamped)
include c

theorem profileTick : s.profileTick = (s.ticked.setExecuting (some (x.doneOn a clamped))).proceed := by
  rw [State.profileTick_of_event c.done nofun c.quiet, State.takeEvent_done (s := s.ticked) c.executing c.active]

theorem work : (s.ticked.setExecuting (some (x.doneOn a clamped))).HasWork (x.doneOn a clamped) :=
  ⟨rfl, c.goes, fun k => nomatch c.running.symm.trans k⟩

omit c in
theorem due {y : Axis} {e : AxisEvent} (d : s.ticked.StartDue (x.doneOn a clamped) (otherAxis a) y e) :
    (s.ticked.setExecuting (some (x.doneOn a clamped))).StartDue (x.doneOn a clamped) (otherAxis a) y e :=
  d.congr (fun b => by cases b <;> rfl) rfl

omit c in
/-- The axis whose work is done has no leg to start. -/
theorem alone : (s.ticked.setExecuting (some (x.doneOn a clamped))).wantsStart (x.doneOn a clamped) (otherAxis (otherAxis a)) = false := by
  rw [otherAxis_otherAxis]
  have finished := (x.doneOn_work a clamped).1
  exact State.wantsStart_eq_false (by rw [finished]; nofun) fun active => nomatch finished.symm.trans active

omit c in
theorem notActive : (x.doneOn a clamped).work (otherAxis (otherAxis a)) ≠ .active := by
  rw [otherAxis_otherAxis, (x.doneOn_work a clamped).1]
  nofun

/-- The axis whose work is done rests, so that the rail carries the fans and the other axis alone (R155). -/
theorem room :
    (s.ticked.setExecuting (some (x.doneOn a clamped))).fanDraw +
        ((s.ticked.setExecuting (some (x.doneOn a clamped))).axis (otherAxis (otherAxis a))).movingDraw +
        ((s.ticked.setExecuting (some (x.doneOn a clamped))).axis (otherAxis a)).current ≤
      (s.ticked.setExecuting (some (x.doneOn a clamped))).ctl.budget ↔
    s.fanDraw + (s.axis (otherAxis a)).current ≤ s.ctl.budget := by
  have same (b : AxisId) : (s.ticked.setExecuting (some (x.doneOn a clamped))).axis b = s.ticked.axis b := by cases b <;> rfl
  rw [otherAxis_otherAxis, same, same, State.ticked_movingDraw c.done, State.ticked_axis, (s.axis (otherAxis a)).tick_handed.1]
  rfl

variable {y : Axis}

/-- A start of the other axis that an end-stop stops ends the request (R135, R144, R157). -/
theorem profileTick_endstop (room : s.fanDraw + (s.axis (otherAxis a)).current ≤ s.ctl.budget)
    (meets : s.ticked.MeetsEndstop (x.doneOn a clamped) (otherAxis a) y) (queue : s.motion.queue = [])
    (free : s.motion.blankHold = false) : s.profileTick = { s.ticked.setAxis (otherAxis a) y with
      motion := { s.motion with executing := none, railTimer := none, history := s.tickHistory x .endstop }
      chan := { s.chan with flags := s.chan.flags ||| 0x00C } } := by
  obtain ⟨side, d⟩ := meets.startDue
  let u := s.ticked.setExecuting (some (x.doneOn a clamped))
  let z := (x.doneOn a clamped).setWork (otherAxis a) .active
  let t := ((u.resume z).setAxis (otherAxis a) y).raise .endstop
  have flags : ((s.chan.raise .endstop).raise .motionDone).flags = s.chan.flags ||| 0x00C := BitVec.or_assoc ..
  have still : t.axisH.position = s.axisH.tick.1.position ∧ t.axisV.position = s.axisV.tick.1.position := by
    have position := meets.position
    cases a with
    | h => exact ⟨rfl, position⟩
    | v => exact ⟨position, rfl⟩
  have history : t.putFirst .endstop s.motion.history (z.setPhase .running).req = s.tickHistory x .endstop := by
    rw [State.putFirst, State.histEntry, still.1, still.2]
    cases a <;> rfl
  rw [c.profileTick, c.work.proceed_endstop (due d) alone notActive queue (c.room.2 room), State.stoppedAtStart_eq_ended,
    State.ended_of_free (by cases a <;> exact free), ← flags, ← history]
  cases a <;> rfl

variable (begins : s.ticked.BeginsLeg (x.doneOn a clamped) (otherAxis a) y)
include begins

/-- A start of the other axis that the rail carries (R155). -/
theorem profileTick_started (room : s.fanDraw + (s.axis (otherAxis a)).current ≤ s.ctl.budget) :
    s.profileTick = { s.ticked.setAxis (otherAxis a) y with
      motion := { s.motion with
        executing := some ((x.doneOn a clamped).setWork (otherAxis a) .active), railTimer := none } } := by
  have running : ((x.doneOn a clamped).setWork (otherAxis a) .active).setPhase .running =
      (x.doneOn a clamped).setWork (otherAxis a) .active := by
    have phase := c.running
    cases a <;> simp [Executing.setPhase, Executing.doneOn, Executing.setWork, otherAxis, ← phase]
  rw [c.profileTick, c.work.proceed_started (due begins.startDue) alone (c.room.2 room), State.resume, running]
  cases a <;> rfl

/-- A start of the other axis that the rail does not carry makes the request wait (R155). -/
theorem profileTick_waits (full : s.ctl.budget < s.fanDraw + (s.axis (otherAxis a)).current) :
    s.profileTick = { s.ticked with
      motion := { s.motion with executing := some ((x.doneOn a clamped).setPhase .waitRail), railTimer := some 10000 } } := by
  have d := due begins.startDue
  have running : (x.doneOn a clamped).req.phase ≠ .waitRail := fun k => nomatch c.running.symm.trans k
  rw [c.profileTick, c.work.proceed_held d ((d.judgeRail alone).trans (if_neg (mt c.room.1 (Nat.not_le.2 full)))),
    State.holdStart_of_rests d.rests, if_neg fun k => notActive k.1, if_neg running]
  rfl

end State.HalfDone

/-- Settles O46: the tick of both axes, the last work of a request, and a leg start that the end of the other's work brings. -/
theorem profileTickMovesAxesAndEndsRequests : Obligations.ProfileTickMovesAxesAndEndsRequests := by
  rintro s h v live rfl rfl
  rw [exec_profileTick live]
  refine ⟨fun h v => congrArg _ (if_pos ⟨h, v⟩), fun a x completion hist quiet executing active rest phase queue hc hh => ?_,
    fun a x x' clamped u y draw done quiet executing active goes running hx' hu hdraw => ?_⟩
  · subst hc hh
    have c : s.LastWork x a := ⟨quiet, executing, active, rest, phase, queue⟩
    refine ⟨fun result bits ends => ?_, fun clamped index copy n y done goes job slot valid hy => ?_,
      fun p draw w z low high asks goes idle hw plan hlow hhigh hdraw => ?_⟩
    · exact ⟨_, congrArg _ (c.profileTick_ends ends), State.ended_light s rfl⟩
    · have run := c.profileTick_switches done goes job slot valid
      obtain rfl : y = (x.doneOn a clamped).setPhase .switching := by rw [hy]; cases a <;> rfl
      refine ⟨fun armed => ?_, fun loud free => ?_⟩
      · rw [run, if_pos armed]
        rfl
      · rw [run, if_neg (by simp [loud]), State.ended_of_free (by exact free)]
        rfl
    · obtain rfl : draw = s.fanDraw := hdraw.trans s.fanDraw_eq.symm
      obtain rfl : w = s.ticked.axis a := by rw [hw]; cases a <;> rfl
      have meets : (s.ticked.axis a).anyActive = true ↔ low ∨ high := (Axis.anyActive_iff _).trans (or_congr hlow hhigh).symm
      have clear : (s.ticked.axis a).anyActive = false ↔ ¬low ∧ ¬high := by
        rw [← not_or, ← meets, Bool.not_eq_true]
      refine ⟨fun full running => ?_, fun fits noLow noHigh away hz => ?_, fun result bits fits free ends => ?_⟩
      · rw [c.profileTick_waits asks goes idle full running]
        rfl
      · rw [c.profileTick_granted asks goes idle plan fits (clear.2 ⟨noLow, noHigh⟩) away, hz]
        cases a <;> rfl
      · rw [c.profileTick_legEnds asks goes idle plan fits free (result := result) (bits := bits)]
        · cases a <;> rfl
        · rcases ends with ⟨noLow, noHigh, zero, plain, hr, hb⟩ | ⟨active, hr, hb⟩
          · exact .inl ⟨clear.2 ⟨noLow, noHigh⟩, zero, plain, hr, hb⟩
          · exact .inr ⟨meets.2 active, hr, hb⟩
  · obtain rfl : draw = s.fanDraw := hdraw.trans s.fanDraw_eq.symm
    obtain rfl : x' = x.doneOn a clamped := hx'
    obtain rfl : u = s.ticked := hu
    have c : s.HalfDone x a clamped := ⟨done, quiet, executing, active, goes, running⟩
    exact ⟨fun room meets queue free => congrArg _ (c.profileTick_endstop room meets queue free),
      fun begins room => congrArg _ (c.profileTick_started begins room),
      fun begins full => congrArg _ (c.profileTick_waits begins full)⟩

end Sys2Proof.Machine
end

section
/-! PROOF. O47: what an end-stop input makes of its axis. -/

namespace Sys2Proof.Machine

/-! ### An input and its flag (R135) -/

section

variable (x : Axis) (e : EndStop)

theorem Axis.setInput_eq (selected : Bool) : x.setInput e selected = { x with
    lowLevel := if isLow e then selected != x.lowFalling else x.lowLevel
    highLevel := if isLow e then x.highLevel else selected != x.highFalling } := by
  unfold Axis.setInput
  split <;> rfl

theorem Axis.latch_eq : x.latch e = { x with
    lowLatched := x.lowLatched || isLow e, highLatched := x.highLatched || !isLow e } := by
  cases low : isLow e <;> simp [Axis.latch, low]

/-- An input at the level that its selected edge leads to. -/
theorem Axis.setInput_active : x.setInput e true = { x with
    lowLevel := if isLow e then !x.lowFalling else x.lowLevel
    highLevel := if isLow e then x.highLevel else !x.highFalling } := by
  rw [Axis.setInput_eq, Bool.true_bne, Bool.true_bne]

/-- An input at the other level. -/
theorem Axis.setInput_inactive : x.setInput e false = { x with
    lowLevel := if isLow e then x.lowFalling else x.lowLevel
    highLevel := if isLow e then x.highLevel else x.highFalling } := by
  rw [Axis.setInput_eq, Bool.false_bne, Bool.false_bne]

end

/-! ### An enabled input becomes active (R135, R141, R143, R144) -/

/-- What an enabled input that becomes active makes of its axis. -/
def Axis.meetsInput (x : Axis) (e : EndStop) : Axis × AxisEvent :=
  if isLow e then x.lowBecomesActive else x.highBecomesActive

section

variable {x : Axis} {e : EndStop}

theorem Axis.inputEdge_of_enabled (enabled : (x.setInput e true).inputEnabled e = true) :
    x.inputEdge e = ((x.setInput e true).latch e).meetsInput e := if_pos enabled

theorem Axis.inputEdge_of_disabled (disabled : (x.setInput e true).inputEnabled e = false) :
    x.inputEdge e = (x.setInput e true, .quiet) := if_neg (by simp [disabled])

/-- An axis that stands, and one in RELEASE at its low end-stop, go on as they were (R135). -/
theorem Axis.meetsInput_quiet
    (rests : x.state = .off ∨ x.state = .idle ∨ (x.state = .approach ∧ x.leg = none) ∨ (x.state = .release ∧ isLow e = true)) :
    x.meetsInput e = (x, .quiet) := by
  rcases rests with state | state | ⟨state, leg⟩ | ⟨state, low⟩
  · simp [Axis.meetsInput, Axis.lowBecomesActive, Axis.highBecomesActive, state]
  · simp [Axis.meetsInput, Axis.lowBecomesActive, Axis.highBecomesActive, state]
  · simp [Axis.meetsInput, Axis.lowBecomesActive, Axis.highBecomesActive, state, leg]
  · simp [Axis.meetsInput, Axis.lowBecomesActive, state, low]

/-- The low end-stop ends SEEK (R141). -/
theorem Axis.meetsInput_seek (state : x.state = .seek) (low : isLow e = true) : x.meetsInput e = (x.beginRelease, .quiet) := by
  simp [Axis.meetsInput, Axis.lowBecomesActive, state, low]

/-- The high end-stop fails a homing (R143). -/
theorem Axis.meetsInput_homing (state : x.state = .seek ∨ x.state = .release) (high : isLow e = false) :
    x.meetsInput e = (x.homingFails, .outcome .homeFail) := by
  rcases state with state | state <;> simp [Axis.meetsInput, Axis.highBecomesActive, state, high]

/-- Either end-stop stops a moving axis abruptly (R144). -/
theorem Axis.meetsInput_moving (state : x.state = .moving ∨ x.state = .stopping ∨ (x.state = .approach ∧ x.leg ≠ none)) :
    ∃ side, x.meetsInput e = (x.abrupt, .outcome (.endstop side)) := by
  refine ⟨if isLow e then .low else .high, ?_⟩
  rcases state with state | state | ⟨state, leg⟩
  · cases low : isLow e <;> simp [Axis.meetsInput, Axis.lowBecomesActive, Axis.highBecomesActive, state, low]
  · cases low : isLow e <;> simp [Axis.meetsInput, Axis.lowBecomesActive, Axis.highBecomesActive, state, low]
  · have runs := Option.isSome_iff_ne_none.2 leg
    cases low : isLow e <;> simp [Axis.meetsInput, Axis.lowBecomesActive, Axis.highBecomesActive, state, runs, low]

/-! ### An input becomes inactive (R142) -/

/-- Away from RELEASE and its enabled low end-stop an input that becomes inactive does nothing. -/
theorem Axis.inputInactive_quiet
    (other : (x.setInput e false).state ≠ .release ∨ (x.setInput e false).lowEnable = false ∨ isLow e = false) :
    x.inputInactive e = (x.setInput e false, .quiet) := by
  rcases other with state | off | high
  · unfold Axis.inputInactive Axis.lowBecomesInactive
    dsimp only
    split
    · split <;> first | rfl | exact absurd ‹_› state
    · rfl
  · refine if_neg fun enabled => ?_
    obtain ⟨enabled, low⟩ := Bool.and_eq_true_iff.1 enabled
    rw [Axis.inputEnabled, if_pos low] at enabled
    cases off.symm.trans enabled
  · exact if_neg fun enabled => by simp [high] at enabled

/-- The low end-stop falls inactive in RELEASE: the home point (R142). -/
theorem Axis.inputInactive_release (state : (x.setInput e false).state = .release)
    (enable : (x.setInput e false).lowEnable = true) (low : isLow e = true) :
    x.inputInactive e = ((x.setInput e false).homeFound, .outcome (.done false)) := by
  have falls : (x.setInput e false).lowBecomesInactive = ((x.setInput e false).homeFound, .outcome (.done false)) := by
    rw [Axis.lowBecomesInactive, state]
  exact (if_pos (by rw [Axis.inputEnabled, if_pos low, enable, low]; rfl)).trans falls

end

end Sys2Proof.Machine
end

section
/-! PROOF. O47: the executing request at an end-stop event, and the obligation. -/

namespace Sys2Proof.Machine

/-! ### An end-stop event of an axis (R135, R142) -/

section

variable {s : State} {e : EndStop} {a : AxisId}

theorem exec_endstopEdge (live : s.resetAsserted = false) (own : endAxis e = a) : exec (.endstopEdge e) s =
    .next ((s.setAxis a ((s.axis a).inputEdge e).1).afterEvent a ((s.axis a).inputEdge e).2) := by
  subst own
  exact congrArg _ (if_pos (by rw [State.live, live]; rfl))

theorem exec_endstopInactive (live : s.resetAsserted = false) (own : endAxis e = a) : exec (.endstopInactive e) s =
    .next ((s.setAxis a ((s.axis a).inputInactive e).1).afterEvent a ((s.axis a).inputInactive e).2) := by
  subst own
  exact congrArg _ (if_pos (by rw [State.live, live]; rfl))

/-! ### An outcome as the executing request takes it (R143, R144, R157) -/

theorem State.afterEvent_outcome (o : AxisOutcome) : s.afterEvent a (.outcome o) = (s.takeEvent a (.outcome o)).proceed :=
  if_neg nofun

/-- With no request executing an outcome is set aside, its flag apart (R157). -/
theorem State.afterEvent_aside (executing : s.motion.executing = none) (queue : s.motion.queue = []) (o : AxisOutcome) :
    s.afterEvent a (.outcome o) = o.flags s := by
  have kept : (o.flags s).motion = s.motion := by cases o <;> rfl
  have aside : s.takeEvent a (.outcome o) = o.flags s := by
    rw [State.takeEvent, State.noteOutcome, kept, executing]
  rw [State.afterEvent_outcome, aside]
  exact State.proceed_of_idle (by rw [kept, executing]) (by rw [kept, queue])

variable {r : Executing} (executing : s.motion.executing = some r) (active : r.work a = .active)

include executing active in
/-- A failed homing ends its request (R143, R157). -/
theorem State.afterEvent_homeFail (queue : s.motion.queue = []) :
    s.afterEvent a (.outcome .homeFail) = (s.raise .homeFail).ended r .homeFail := by
  rw [State.afterEvent_outcome, State.takeEvent_homeFail executing active]
  exact State.ended_proceed (s := s.raise .homeFail) queue .homeFail

include executing active in
/-- An end-stop that stops a moving axis ends its request, and brings the other axis of the request to a stop (R144, R157). -/
theorem State.afterEvent_endstop (queue : s.motion.queue = []) (side : EndSide) :
    s.afterEvent a (.outcome (.endstop side)) = ((s.raise .endstop).ended r .endstop).setAxis (otherAxis a)
      (if r.work (otherAxis a) = .active then (s.axis (otherAxis a)).stoppedAside else s.axis (otherAxis a)) := by
  rw [State.afterEvent_outcome, State.takeEvent_endstop executing active, State.stoppedAtStart_eq_ended]
  apply State.proceed_of_idle
  · cases a <;> rfl
  · cases a <;> exact queue

/-- A moving axis is brought to a stop (R145). -/
theorem Axis.stoppedAside_of_moving {x : Axis} (moving : x.state = .moving) :
    x.stoppedAside = { x with state := .stopping, stopHoming := false } := by
  simp [Axis.stoppedAside, Axis.busy, Axis.inMotion, Axis.stopRequest, moving]

/-! ### The home point (R142, R154) -/

/-- A request that homes an axis has found its home point, and goes on. -/
structure State.Homing (s : State) (r : Executing) (sel : HomeSel) (a : AxisId) : Prop where
  executing : s.motion.executing = some r
  job : r.req.job = .home sel
  active : r.work a = .active
  phase : r.req.phase = .running
  goes : r.req.stopReq = false

namespace State.Homing

variable {sel : HomeSel} (c : s.Homing r sel a)
include c

theorem found : s.afterEvent a (.outcome (.done false)) = (s.setExecuting (some (r.doneOn a false))).proceed := by
  rw [State.afterEvent_outcome, State.takeEvent_done c.executing c.active]

theorem work : (s.setExecuting (some (r.doneOn a false))).HasWork (r.doneOn a false) :=
  ⟨rfl, c.goes, fun k => nomatch c.phase.symm.trans k⟩

/-- The home point of the last axis to home ends the request (R157). -/
theorem found_last (rest : r.work (otherAxis a) = .unused ∨ r.work (otherAxis a) = .finished) (queue : s.motion.queue = []) :
    s.afterEvent a (.outcome (.done false)) =
      (s.setExecuting (some (r.doneOn a false))).ended (r.doneOn a false) (r.doneOn a false).req.completion := by
  let u := s.setExecuting (some (r.doneOn a false))
  have all : (r.doneOn a false).allFinished = true :=
    Executing.allFinished_of_over (r.doneOn_work a false).1 ((r.doneOn_work a false).2 ▸ rest)
  have plain (index : Nat) (copy : Preset) (k : r.req.job = .recall index copy) : copy.slot = none := nomatch c.job.symm.trans k
  rw [c.found, State.proceed, carryFuel, c.work.carryOn_finished all, State.finishWork_ends (s := u) rfl plain,
    State.ended_pump (s := u) queue]

end State.Homing

/-- The home point of V in a HOME BOTH begins the homing of H, where the rail carries it (R154, R155). -/
theorem State.Homing.found_v {sel : HomeSel} (c : s.Homing r sel .v) (owed : r.hWork = .owed) (rests : s.axisH.inMotion = false)
    (still : s.axisV.inMotion = false) (room : s.fanDraw + s.axisH.current ≤ s.ctl.budget) :
    s.afterEvent .v (.outcome (.done false)) =
      ((s.setExecuting (some (r.doneOn .v false))).resume ((r.doneOn .v false).setWork .h .active)).setAxis .h s.axisH.takeHoming := by
  have home : r.req.job.isHome = true := by rw [c.job]; rfl
  have due : (s.setExecuting (some (r.doneOn .v false))).StartDue (r.doneOn .v false) .h s.axisH.takeHoming .quiet := by
    refine ⟨State.wantsStart_of_owed owed fun _ _ => .inr rfl, rests, ?_⟩
    exact (if_neg fun k : r.hWork = .active => nomatch owed.symm.trans k).trans (if_pos home)
  have none : s.axisV.movingDraw = 0 := by simp [Axis.movingDraw, still]
  have fits : s.fanDraw + s.axisV.movingDraw + s.axisH.current ≤ s.ctl.budget := by rwa [none]
  rw [c.found]
  exact c.work.proceed_started due (State.wantsStart_eq_false nofun nofun) fits

end

/-- Settles O47: the input acts on its axis, and the executing request takes the outcome. -/
theorem endstopEvents : Obligations.EndstopEvents := by
  intro s e a low x y rest live queue ha hlow
  have own : endAxis e = a := by rw [ha]; cases e <;> rfl
  obtain rfl : low = isLow e := by rw [hlow]; cases e <;> rfl
  clear ha hlow
  have queued (z : Axis) : (s.setAxis a z).motion.queue = [] := by cases a <;> exact queue
  have working (z : Axis) : (s.setAxis a z).motion.executing = s.motion.executing := by cases a <;> rfl
  refine ⟨fun hx hy hrest => ?_, fun hy => ?_⟩
  · have input : (s.axis a).setInput e true = x := (Axis.setInput_active _ e).trans hx.symm
    have latched : x.latch e = y := (x.latch_eq e).trans hy.symm
    rw [exec_endstopEdge live own]
    refine ⟨fun disabled => ?_, fun enabled => ?_⟩
    · rw [Axis.inputEdge_of_disabled (by rw [input]; exact disabled), input]
      rfl
    · rw [Axis.inputEdge_of_enabled (by rw [input]; exact enabled), input, latched]
      have state : y.state = x.state := by rw [hy]
      have leg : y.leg = x.leg := by rw [hy]
      rw [← state, ← leg]
      refine ⟨fun rests => ?_, fun seek low => ?_, fun z w bits result cases => ?_⟩
      · rw [Axis.meetsInput_quiet rests]
        rfl
      · rw [Axis.meetsInput_seek seek low, hy]
        rfl
      · rcases cases with ⟨homing, high, hz, rfl, rfl, rfl⟩ | ⟨moving, hz, rfl, rfl, hw⟩
        · obtain rfl : z = y.homingFails := by rw [hz, hrest]; rfl
          rw [Axis.meetsInput_homing homing high]
          refine ⟨fun none => ?_, fun r executing active free => ?_⟩
          · rw [State.afterEvent_aside (by rw [working, none]) (queued _)]
            cases a <;> rfl
          · rw [State.afterEvent_homeFail (by rw [working, executing]) active (queued _),
              State.ended_of_free (by cases a <;> exact free)]
            cases a <;> rfl
        · obtain rfl : z = y.abrupt := by rw [hz, hrest]; rfl
          obtain ⟨side, stops⟩ := Axis.meetsInput_moving (e := e) moving
          rw [stops]
          refine ⟨fun none => ?_, fun r executing active free => ?_⟩
          · rw [State.afterEvent_aside (by rw [working, none]) (queued _)]
            cases a <;> rfl
          · have other : (if r.work (otherAxis a) = .active then (s.axis (otherAxis a)).stoppedAside else s.axis (otherAxis a)) = w := by
              rcases hw with ⟨apart, rfl⟩ | ⟨⟨r', hr', both⟩, runs, rfl⟩
              · exact if_neg (apart r executing)
              · obtain rfl : r' = r := Option.some.inj (hr'.symm.trans executing)
                rw [if_pos both, Axis.stoppedAside_of_moving runs]
            have same : (s.setAxis a y.abrupt).axis (otherAxis a) = s.axis (otherAxis a) := by cases a <;> rfl
            rw [State.afterEvent_endstop (by rw [working, executing]) active (queued _), same, other,
              State.ended_of_free (by cases a <;> exact free)]
            cases a <;> rfl
  · have input : (s.axis a).setInput e false = y := (Axis.setInput_inactive _ e).trans hy.symm
    rw [exec_endstopInactive live own]
    refine ⟨fun other => ?_, fun state enable low hx => ?_⟩
    · rw [Axis.inputInactive_quiet (by rw [input]; exact other), input]
      rfl
    · obtain rfl : x = y.homeFound := by rw [hx]; rfl
      rw [Axis.inputInactive_release (by rw [input]; exact state) (by rw [input]; exact enable) low, input]
      refine ⟨fun none => ?_, fun r sel executing job active phase goes free => ?_⟩
      · rw [State.afterEvent_aside (by rw [working, none]) (queued _)]
        rfl
      · have c : (s.setAxis a y.homeFound).Homing r sel a := ⟨by rw [working, executing], job, active, phase, goes⟩
        refine ⟨fun last => ?_, fun v owed rests room clear => ?_⟩
        · have kind : r.req.job.kind = .home := by rw [job]; rfl
          rw [c.found_last last (queued _), State.ended_of_free (by cases a <;> exact free), ← kind, ← Bool.or_false r.req.clamped]
          cases a <;> rfl
        · subst v
          have fits : (s.setAxis .v y.homeFound).fanDraw + s.axisH.current ≤ s.ctl.budget :=
            (congrArg (· + s.axisH.current) s.fanDraw_eq).trans_le room
          have goesOn : ((r.doneOn .v false).setWork .h .active).setPhase .running = { r with hWork := .active, vWork := .finished } := by
            simp [Executing.setPhase, Executing.doneOn, Executing.setWork, ← phase]
          rw [c.found_v owed rests rfl fits, State.resume, goesOn,
            Axis.takeHoming_eq (x := (s.setAxis .v y.homeFound).axisH) (fun _ => rfl) fun enable level =>
              absurd (clear.resolve_left (by rw [show s.axisH.lowEnable = true from enable]; nofun)) level]
          rfl

end Sys2Proof.Machine
end

section
/-! PROOF. O60: what the motion queue may do to its own record so that the queue's invariant lasts. The queue puts a request
into execution only where the part moves, which `QueueClosed` does not ask: so the queue is gone through for this invariant by
itself. -/

namespace Sys2Proof.Machine

/-- What the queue's invariant says of the motion record, in a part that moves or does not. -/
structure Motion.Sound (m : Motion) (moves : Bool) : Prop where
  room : m.queue.length ≤ 8
  entries : m.history.length ≤ 8
  fresh : ∀ r ∈ m.queue, r.phase = .queued ∧ r.clamped = false ∧ r.stopReq = false
  begun : ∀ x ∈ m.executing, x.req.phase ≠ .queued
  still : moves = false → m.executing = none ∧ m.queue = []
  held : m.blankHold = true → m.executing.isSome = true

theorem State.motionOk_iff (s : State) : s.MotionOk ↔ s.motion.Sound s.ctl.op.moves :=
  ⟨fun ⟨room, entries, fresh, begun, still, held⟩ => ⟨room, entries, fresh, begun, still, held⟩,
    fun h => ⟨h.room, h.entries, h.fresh, h.begun, h.still, h.held⟩⟩

namespace Motion.Sound

variable {m : Motion} {moves : Bool} (h : m.Sound moves)
include h

/-- A part that executes a request moves. -/
theorem moves_of_executing {x : Executing} (hx : m.executing = some x) : moves = true := by
  cases moves with
  | true => rfl
  | false => cases hx.symm.trans (h.still rfl).1

/-- A request goes into execution, or goes on. -/
theorem execute {x : Executing} (begun : x.req.phase ≠ .queued) (works : moves = true) (rail : Option Nat) :
    ({ m with executing := some x, railTimer := rail } : Motion).Sound moves :=
  ⟨h.room, h.entries, h.fresh, fun _ hy => Option.some.inj hy ▸ begun, fun k => (nomatch works.symm.trans k), fun _ => rfl⟩

/-- The executing request ends. -/
theorem finish {history : List HistEntry} (entries : history.length ≤ 8) :
    ({ m with executing := none, railTimer := none, blankHold := false, history := history } : Motion).Sound moves :=
  ⟨h.room, entries, h.fresh, nofun, fun k => ⟨rfl, (h.still k).2⟩, nofun⟩

theorem unhold : ({ m with blankHold := false } : Motion).Sound moves :=
  ⟨h.room, h.entries, h.fresh, h.begun, h.still, nofun⟩

/-- The records queued fall away, wholly or from the front. -/
theorem unqueue {queue : List Request} {history : List HistEntry} (rest : queue <:+ m.queue) (entries : history.length ≤ 8) :
    ({ m with queue := queue, history := history } : Motion).Sound moves :=
  ⟨rest.length_le.trans h.room, entries, fun r hr => h.fresh r (rest.subset hr), h.begun,
    fun k => ⟨(h.still k).1, List.suffix_nil.1 ((h.still k).2 ▸ rest)⟩, h.held⟩

/-- A record joins the back of the queue (R152). -/
theorem append (works : moves = true) (room : m.queue.length < 8) (tag : Byte) (j : Job) :
    ({ m with queue := m.queue ++ [.fresh tag j] } : Motion).Sound moves := by
  refine ⟨?_, h.entries, fun r hr => ?_, h.begun, fun k => (nomatch works.symm.trans k), h.held⟩
  · simpa using room
  · rcases List.mem_append.1 hr with old | new
    · exact h.fresh r old
    · rw [List.mem_singleton.1 new]
      exact ⟨rfl, rfl, rfl⟩

end Motion.Sound

/-- From state `s` to state `t` the invariant of the motion queue lasts. -/
structure MotionKept (s t : State) : Prop where
  kept : s.MotionOk → t.MotionOk

namespace MotionKept

variable {s t u : State}

theorem refl (s : State) : MotionKept s s := ⟨id⟩

theorem trans (h : MotionKept s t) (k : MotionKept t u) : MotionKept s u := ⟨k.kept ∘ h.kept⟩

theorem ite {p : Prop} [Decidable p] {a b : State} (ha : p → MotionKept s a) (hb : ¬p → MotionKept s b) :
    MotionKept s (if p then a else b) := iteInduction (motive := MotionKept s) ha hb

/-- A change of the motion record that keeps it sound in the operating state as it is. -/
theorem of_sound (ctl : t.ctl = s.ctl) (sound : s.motion.Sound s.ctl.op.moves → t.motion.Sound s.ctl.op.moves) :
    MotionKept s t := by
  refine ⟨fun h => ?_⟩
  rw [State.motionOk_iff, ctl]
  exact sound (s.motionOk_iff.1 h)

/-- A change outside the motion record and the operating state. -/
theorem of_motion (ctl : t.ctl = s.ctl) (motion : t.motion = s.motion) : MotionKept s t := .of_sound ctl fun h => motion ▸ h

/-- The executing request goes on, with its phase as it was or another. -/
theorem of_executing {x y : Executing} (hx : s.motion.executing = some x) (ctl : t.ctl = s.ctl)
    (motion : t.motion = { s.motion with executing := some y, railTimer := t.motion.railTimer })
    (phase : x.req.phase ≠ .queued → y.req.phase ≠ .queued) : MotionKept s t :=
  .of_sound ctl fun h => motion ▸ h.execute (phase (h.begun x hx)) (h.moves_of_executing hx) _

end MotionKept

/-! ### How requests end, and stop requests (R145, R157, R161 to R164) -/

namespace State

variable (s : State)

theorem putFirst_length (res : MotionResult) (history : List HistEntry) (r : Request) :
    (s.putFirst res history r).length ≤ 8 := List.length_take_le ..

/-- However many requests end, the history holds at most eight entries (R164). -/
theorem foldl_putFirst_length (res : MotionResult) (rs : List Request) {history : List HistEntry} (few : history.length ≤ 8) :
    (rs.foldl (s.putFirst res) history).length ≤ 8 := by
  induction rs generalizing history with
  | nil => exact few
  | cons r rs ih => exact ih (s.putFirst_length res history r)

theorem releaseHold_motionKept : MotionKept s s.releaseHold := by
  obtain ⟨motion, -⟩ := s.releaseHold_values
  exact .of_sound ((queueFrame_closed s).unhold s (.refl s)).ctl fun h => motion ▸ h.unhold

theorem endRequest_motionKept (res : MotionResult) : MotionKept s (s.endRequest res) := by
  cases hx : s.motion.executing with
  | none =>
    rw [State.endRequest, hx]
    exact .refl s
  | some x =>
    rw [State.endRequest_eq hx]
    exact .of_sound rfl fun h => h.finish (s.putFirst_length ..)

theorem flushQueue_motionKept (res : MotionResult) : MotionKept s (s.flushQueue res) := by
  obtain ⟨motion, -⟩ := s.endAll_values res s.motion.queue
  have flushed : (s.flushQueue res).motion = { s.motion with
      queue := [], history := s.motion.queue.foldl (s.putFirst res) s.motion.history } :=
    congrArg (fun m : Motion => { m with queue := [] }) motion
  exact .of_sound ((queueFrame_closed s).flushQueue res (.refl s)).ctl fun h =>
    flushed ▸ h.unqueue (List.nil_suffix) (s.foldl_putFirst_length res _ h.entries)

theorem stopRequestAxes_motionKept (x : Executing) : MotionKept s (s.stopRequestAxes x) := by
  rw [State.stopRequestAxes_eq]
  exact .of_motion rfl rfl

theorem takeEvent_motionKept (a : AxisId) (e : AxisEvent) : MotionKept s (s.takeEvent a e) := by
  have noted (t : State) (o : AxisOutcome) : MotionKept t (t.noteOutcome a o) := by
    unfold State.noteOutcome
    split
    · exact .refl t
    · rename_i x hx
      have phase (w : Work) : (x.setWork a w).req = x.req := by cases a <;> rfl
      refine .ite (fun _ => ?_) fun _ => .refl t
      cases o with
      | done clamped => exact .of_executing hx rfl rfl fun begun => (phase .finished).symm ▸ begun
      | stopped => exact .of_executing hx rfl rfl fun begun => (phase .finished).symm ▸ begun
      | endstop _ => exact (t.endRequest_motionKept _).trans (State.stopRequestAxes_motionKept _ _)
      | homeFail => exact t.endRequest_motionKept _
  cases e with
  | quiet | asks => exact .refl s
  | outcome o =>
    have flagged : MotionKept s (o.flags s) := by cases o <;> exact .of_motion rfl rfl
    exact flagged.trans (noted _ o)

/-! ### Leg starts (R155) -/

section

variable {s : State} {x : Executing} (hx : s.motion.executing = some x)
include hx

theorem holdStart_motionKept : MotionKept s (s.holdStart x) :=
  .ite (fun _ => .of_executing hx rfl rfl fun _ => nofun) fun _ =>
    .ite (fun _ => .refl s) fun _ => .of_executing hx rfl rfl fun _ => nofun

theorem startOne_motionKept (y : Executing) (a : AxisId) : MotionKept s (s.startOne y a).1 := by
  have resumed : MotionKept s (s.resume (y.setWork a .active)) := .of_executing hx rfl rfl fun _ => nofun
  cases a <;> exact resumed.trans (.of_motion rfl rfl)

theorem startBoth_motionKept (y : Executing) : MotionKept s (s.startBoth y).1 := by
  have resumed : MotionKept s (s.resume ((y.setWork .h .active).setWork .v .active)) := .of_executing hx rfl rfl fun _ => nofun
  exact resumed.trans (.of_motion rfl rfl)

theorem judgeRail_motionKept : MotionKept s (s.judgeRail x).1 := by
  have held := State.holdStart_motionKept hx
  unfold State.judgeRail
  split
  · split
    · exact State.startBoth_motionKept hx x
    · split
      · exact State.startOne_motionKept hx _ _
      · exact held
  · split
    · exact State.startOne_motionKept hx _ _
    · exact held
  · split
    · exact State.startOne_motionKept hx _ _
    · exact held
  · exact .refl s

/-! ### The executing request, and the head of the queue (R153, R157, R159) -/

theorem finishWork_motionKept : MotionKept s (s.finishWork x) := by
  have switching (n : Fin 4) : MotionKept s (s.enterSwitching x n) := by
    let u := (s.setWarp { s.warp with choice := some { slot := some n, origin := .recall x.req.tag } }).setExecuting
      (some (x.setPhase .switching))
    have placed : MotionKept s u := .of_executing hx rfl rfl fun _ => nofun
    exact .ite (fun _ => placed) fun _ => placed.trans (u.endRequest_motionKept _)
  unfold State.finishWork
  split
  · split
    · exact s.endRequest_motionKept _
    · exact .ite (fun _ => switching _) fun _ => s.endRequest_motionKept _
  all_goals exact s.endRequest_motionKept _

end

theorem carryOn_motionKept (n : Nat) : MotionKept s (s.carryOn n) := by
  induction n generalizing s with
  | zero => exact .refl s
  | succ n ih =>
    unfold State.carryOn
    split
    · exact .refl s
    · rename_i x hx
      have judged := State.judgeRail_motionKept hx
      refine .ite (fun _ => .refl s) fun _ => .ite (fun _ => .ite (fun _ => .refl s) fun _ => s.endRequest_motionKept _) fun _ =>
        .ite (fun _ => State.finishWork_motionKept hx) fun _ => ?_
      split
      · rename_i t heq
        rwa [heq] at judged
      · rename_i t eh ev _ heq
        rw [heq] at judged
        exact ((judged.trans (State.takeEvent_motionKept _ .h eh)).trans (State.takeEvent_motionKept _ .v ev)).trans (ih _)

theorem handIdle_motionKept (a : AxisId) : MotionKept s (s.handIdle a) := by
  unfold State.handIdle
  split
  · exact .refl s
  · rename_i x hx
    have handed : MotionKept s (s.setExecuting (some (x.setWork a .active))) :=
      .of_executing hx rfl rfl fun begun => by cases a <;> exact begun
    have moved (t : State) (y : Axis) : MotionKept t (t.setAxis a y) := .of_motion (by simp) (by simp)
    exact .ite (fun _ => (handed.trans (moved _ _)).trans (State.takeEvent_motionKept _ _ _)) fun _ => .refl s

/-- A request that starts in a part that moves keeps the invariant (R153, R158). -/
theorem startRequest_motionKept {s : State} (moves : s.ctl.op.moves = true) (r : Request) : MotionKept s (s.startRequest r) := by
  let u := s.setExecuting (some (s.executingOf r))
  have executing : MotionKept s u := .of_sound rfl fun h => h.execute (show Phase.running ≠ .queued from nofun) moves _
  have held : MotionKept u (u.takeHold r.job) := by
    have asked : MotionKept u ((u.setMotion { u.motion with blankHold := true }).setLight u.light.hold) :=
      .of_sound rfl fun h => ⟨h.room, h.entries, h.fresh, h.begun, h.still, fun _ => rfl⟩
    unfold State.takeHold
    split
    · exact .ite (fun _ => asked) fun _ => .refl u
    all_goals exact .refl u
  refine .ite (fun _ => executing.trans (u.endRequest_motionKept _)) fun _ => ?_
  exact (((executing.trans held).trans (State.handIdle_motionKept _ .h)).trans (State.handIdle_motionKept _ .v)).trans
    (State.carryOn_motionKept _ _)

/-- What the queue starts keeps the invariant (R153). -/
theorem pump_motionKept : MotionKept s s.pump := by
  have heads (n : Nat) (t : State) : MotionKept t (t.startHeads n) := by
    induction n generalizing t with
    | zero => exact .refl t
    | succ n ih =>
      unfold State.startHeads
      split
      · exact .refl t
      · rename_i r rest hq
        have taken : MotionKept t (t.setMotion { t.motion with queue := rest }) :=
          .of_sound rfl fun h => h.unqueue (hq ▸ List.suffix_cons r rest) h.entries
        refine .ite (fun start => ?_) fun _ => .refl t
        have moves : t.ctl.op.moves = true := by
          simp only [State.mayStart, Bool.and_eq_true] at start
          exact start.2
        exact (taken.trans (State.startRequest_motionKept (s := t.setMotion { t.motion with queue := rest }) moves r)).trans (ih _)
  exact heads _ s

theorem proceed_motionKept : MotionKept s s.proceed := (s.carryOn_motionKept _).trans (State.pump_motionKept _)

theorem afterEvent_motionKept (a : AxisId) (e : AxisEvent) : MotionKept s (s.afterEvent a e) :=
  .ite (fun _ => .refl s) fun _ => (s.takeEvent_motionKept a e).trans (State.proceed_motionKept _)

/-! ### Recalls in SWITCHING, stops and trips (R17, R156, R160, R162, R163) -/

theorem endSwitching_motionKept : MotionKept s s.endSwitching := by
  unfold State.endSwitching
  split
  · exact .refl s
  · exact .ite (fun _ => (s.endRequest_motionKept _).trans (State.pump_motionKept _)) fun _ => .refl s

theorem railTimeout_motionKept : MotionKept s s.railTimeout := by
  unfold State.railTimeout
  split
  · exact .refl s
  · exact .ite (fun _ => ((s.endRequest_motionKept _).trans (State.stopRequestAxes_motionKept _ _)).trans (State.pump_motionKept _))
      fun _ => .refl s

theorem stopActive_motionKept (a : AxisId) : MotionKept s (s.stopActive a) := by
  unfold State.stopActive
  split
  · exact .refl s
  · have stopped : MotionKept s (s.setAxis a (s.axis a).stopRequest.1) := .of_motion (by simp) (by simp)
    exact .ite (fun _ => stopped.trans (State.takeEvent_motionKept _ _ _)) fun _ => .refl s

/-- STOP_MOTION keeps the invariant (R162). -/
theorem stopMotion_motionKept : MotionKept s s.stopMotion := by
  have stopped : MotionKept s s.stopExecuting := by
    unfold State.stopExecuting
    split
    · exact .refl s
    · rename_i x hx
      have withdrawn : MotionKept s (s.withdraw x.req.tag) := .ite (fun _ => .of_motion rfl rfl) fun _ => .refl s
      have asked : MotionKept s (s.setExecuting (some { x with req := { x.req with stopReq := true } })) :=
        .of_executing hx rfl rfl id
      refine .ite (fun _ => withdrawn.trans (State.endRequest_motionKept _ _)) fun _ => .ite (fun _ => .refl s) fun _ => ?_
      exact ((asked.trans (State.stopActive_motionKept _ .h)).trans (State.stopActive_motionKept _ .v)).trans
        (State.carryOn_motionKept _ _)
  exact (stopped.trans (State.flushQueue_motionKept _ _)).trans (State.pump_motionKept _)

/-- An entry to TRIPPED leaves the queue at rest, with the ends of its requests in the history (R163). -/
theorem AbortedFrom.sound {s t : State} (a : s.AbortedFrom t) (few : s.motion.history.length ≤ 8) (moves : Bool) :
    t.motion.Sound moves := by
  have entries : t.motion.history.length ≤ 8 := by
    cases hx : s.motion.executing with
    | none =>
      obtain ⟨-, -, -, history⟩ := a.idle hx
      exact history ▸ s.foldl_putFirst_length _ _ few
    | some x =>
      obtain ⟨-, -, history, -⟩ := a.busy x hx
      exact history ▸ s.foldl_putFirst_length _ _ (s.putFirst_length ..)
  refine ⟨by simp [a.queue], entries, by simp [a.queue], by simp [a.executing], fun _ => ⟨a.executing, a.queue⟩, fun held => ?_⟩
  cases a.blankHold.symm.trans held

end State

end Sys2Proof.Machine
end

section
/-! PROOF. O60: what a change of state may do so that the invariants of the motion queue, the state controller and the control
channel last, and the changes of operating state, the trips and the resets by it. -/

namespace Sys2Proof.Machine

/-! ### What the three invariants read -/

/-- The state with the reset values in all that the three invariants do not read. -/
def State.bare (s : State) : State := { State.reset with
  resetAsserted := s.resetAsserted
  locked := s.locked
  motion := { s.motion with presets := Motion.reset.presets, railTimer := none }
  ctl := { s.ctl with lastTrip := .noTrip, orientation := .desk, acoustic := .standard }
  temps := { Temps.resetWith s.temps.pinCode with comparator := s.temps.comparator }
  chan := { s.chan with flags := 0, enables := 0 } }

theorem State.bare_invariants (s : State) : (s.MotionOk ↔ s.bare.MotionOk) ∧ (s.CtlOk ↔ s.bare.CtlOk) := ⟨Iff.rfl, Iff.rfl⟩

/-- The controller's own part of its invariant: the comparator apart. -/
structure State.CtlSound (s : State) : Prop where
  runs : s.ctl.runOn.isSome = decide (s.ctl.op = .cooldown)
  limit : ∀ n ∈ s.ctl.runOn, n ≤ 60000
  silence : s.ctl.silence ≤ 4
  armed : s.ctl.armed = true ↔ s.ctl.silence < 4
  budget : s.ctl.budget ≤ 1000
  threshold : s.temps.comparator.threshold ≤ 4031
  pending : s.ctl.resetPending = true → s.ctl.op = .standby ∨ s.ctl.op = .tripped

/-- The comparator has judged the code it sees (R86). -/
structure State.Judged (s : State) : Prop where
  released : s.temps.comparator.state = .released → s.temps.comparator.threshold < s.temps.watchedCode
  tripped : s.temps.comparator.state = .tripped → s.temps.watchedCode < s.temps.comparator.threshold + 64

/-- A TRIPPED comparator has tripped the part (R87). -/
def State.TripHeld (s : State) : Prop := s.temps.comparator.state = .tripped → s.ctl.op = .tripped

theorem State.ctlOk_iff (s : State) : s.CtlOk ↔ s.CtlSound ∧ s.TripHeld ∧ (s.resetAsserted = false → s.Judged) :=
  ⟨fun ⟨runs, limit, silence, armed, budget, held, threshold, judged, pending⟩ =>
      ⟨⟨runs, limit, silence, armed, budget, threshold, pending⟩, held, fun k => ⟨(judged k).1, (judged k).2⟩⟩,
    fun ⟨h, held, judged⟩ => ⟨h.runs, h.limit, h.silence, h.armed, h.budget, held, h.threshold,
      fun k => ⟨(judged k).released, (judged k).tripped⟩, h.pending⟩⟩

/-- What the control channel's invariant says of its record alone. -/
structure ChanState.Sound (c : ChanState) : Prop where
  taken : c.taken = c.entries.length
  room : c.taken ≤ 16
  ignored : c.ignored ≤ 255
  count : c.frameCount < 65536
  data : ∀ e ∈ c.entries, e.reply.data.length ≤ 8
  lane : ∀ a ∈ c.lane, a.bytes.length ≤ 199
  waiting : ∀ a ∈ c.waiting, a.bytes.length ≤ 199

/-- No answer waits for a lane that is free and in lock (R172). -/
def State.LaneServed (s : State) : Prop := s.linked = true → s.chan.lane = none → s.chan.waiting = none

theorem State.channelOk_iff (s : State) : s.ChannelOk ↔ s.chan.Sound ∧ s.LaneServed :=
  ⟨fun ⟨taken, room, ignored, count, data, lane, waiting, served⟩ => ⟨⟨taken, room, ignored, count, data, lane, waiting⟩, served⟩,
    fun ⟨h, served⟩ => ⟨h.taken, h.room, h.ignored, h.count, h.data, h.lane, h.waiting, served⟩⟩

/-- From state `s` to state `t` the invariant of the control channel lasts, its two parts apart: a packet's count runs ahead of
its entry while its owner works (R170). -/
structure ChannelKept (s t : State) : Prop where
  sound : s.chan.Sound → t.chan.Sound
  served : s.LaneServed → t.LaneServed

theorem ChanKept.channelKept {s t : State} (h : ChanKept s t) (linked : t.linked = s.linked) : ChannelKept s t := by
  have same : t.chan = { s.chan with flags := t.chan.flags, enables := t.chan.enables } := by
    unfold ChanKept at h
    rw [← h]
  refine ⟨fun k => ?_, fun k => ?_⟩
  · rw [same]
    exact ⟨k.taken, k.room, k.ignored, k.count, k.data, k.lane, k.waiting⟩
  · unfold State.LaneServed
    rw [same, linked]
    exact k

/-- From state `s` to state `t` the invariants of the motion queue, the state controller and the control channel last. -/
structure WorkKept (s t : State) : Prop where
  motion : s.MotionOk → t.MotionOk
  ctl : s.CtlOk → t.CtlOk
  chan : ChannelKept s t

namespace WorkKept

variable {s t u : State}

theorem refl (s : State) : WorkKept s s := ⟨id, id, id, id⟩

theorem trans (h : WorkKept s t) (k : WorkKept t u) : WorkKept s u :=
  ⟨k.motion ∘ h.motion, k.ctl ∘ h.ctl, k.chan.sound ∘ h.chan.sound, k.chan.served ∘ h.chan.served⟩

theorem ite {p : Prop} [Decidable p] {a b : State} (ha : p → WorkKept s a) (hb : ¬p → WorkKept s b) :
    WorkKept s (if p then a else b) := iteInduction (motive := WorkKept s) ha hb

/-- A change of what the three invariants do not read. -/
theorem of_bare (h : t.bare = s.bare) : WorkKept s t := by
  obtain ⟨motionT, ctlT⟩ := t.bare_invariants
  rw [h] at motionT ctlT
  have chan : ChanKept s t := by
    have same : { t.chan with flags := 0, enables := 0 } = { s.chan with flags := 0, enables := 0 } := congrArg State.chan h
    exact congrArg (fun c : ChanState => { c with flags := s.chan.flags, enables := s.chan.enables }) same
  exact ⟨motionT.2, ctlT.2, chan.channelKept (congrArg State.linked h :)⟩

/-- What the motion queue does. -/
theorem of_queue (frame : QueueFrame s t) (motion : MotionKept s t) : WorkKept s t := by
  refine ⟨motion.kept, fun h => ?_, (ChanKept.of_flags frame.chan).channelKept ?_⟩
  · unfold State.CtlOk
    rw [frame.ctl, frame.temps, frame.resetAsserted]
    exact h
  · rw [State.linked, State.live, frame.resetAsserted, frame.locked]
    rfl

/-- A change of the control channel's record. -/
theorem of_chan {c : ChanState} (sound : s.chan.Sound → c.Sound) (served : s.LaneServed → (s.setChan c).LaneServed) :
    WorkKept s (s.setChan c) := ⟨id, id, sound, served⟩

theorem raiseIf (s : State) (b : Bool) (e : EventFlag) : WorkKept s (s.raiseIf b e) := .ite (fun _ => .of_bare rfl) fun _ => .refl s

end WorkKept

/-! ### Changes of operating state and trips (R116, R117, R121, R163) -/

theorem ChangeFrame.channelKept {s t : State} (frame : ChangeFrame s t) : ChannelKept s t := by
  refine (ChanKept.of_flags frame.entries).channelKept ?_
  rw [State.linked, State.live, frame.resetAsserted, frame.locked]
  rfl

namespace State

variable (s : State)

/-- A change of operating state takes the run-on elapsed with it; a pending ENGINE_RESET it survives in STANDBY and TRIPPED
alone (R116, R128). -/
theorem CtlSound.enter {s t : State} (h : s.CtlSound) {new : OpState} {cause : TripCause} (temps : t.temps = s.temps)
    (ctl : t.ctl = { s.ctl with op := new, runOn := runOnAt new, lastTrip := cause })
    (pending : s.ctl.resetPending = true → new = .standby ∨ new = .tripped) : t.CtlSound := by
  have runs : (runOnAt new).isSome = decide (new = .cooldown) := by cases new <;> rfl
  have limit : ∀ n ∈ runOnAt new, n ≤ 60000 := by cases new <;> simp [runOnAt]
  refine ⟨?_, ?_, ?_, ?_, ?_, temps ▸ h.threshold, ?_⟩ <;> rw [ctl]
  exacts [runs, limit, h.silence, h.armed, h.budget, pending]

/-- A change of operating state keeps the controller's invariant where the comparator is released and no ENGINE_RESET is
pending beyond STANDBY and TRIPPED. -/
theorem changeState_ctlOk {new : OpState} (h : s.CtlOk) (released : s.temps.comparator.state = .released)
    (pending : s.ctl.resetPending = true → new = .standby ∨ new = .tripped) : (s.changeState new).CtlOk := by
  obtain ⟨frame, ctl⟩ := s.changeState_frame new
  obtain ⟨sound, -, judged⟩ := s.ctlOk_iff.1 h
  refine (State.ctlOk_iff _).2 ⟨sound.enter (cause := s.ctl.lastTrip) frame.temps ctl pending, fun k => ?_, fun k => ?_⟩
  · rw [frame.temps, released] at k
    cases k
  · have j := judged (frame.resetAsserted ▸ k)
    exact ⟨frame.temps ▸ j.released, frame.temps ▸ j.tripped⟩

/-- A comparator that has not tripped the part is RELEASED (R87). -/
theorem CtlOk.released {s : State} (h : s.CtlOk) (op : s.ctl.op ≠ .tripped) : s.temps.comparator.state = .released := by
  obtain ⟨-, held, -⟩ := s.ctlOk_iff.1 h
  cases k : s.temps.comparator.state with
  | released => rfl
  | tripped => exact absurd (held k) op

/-- No ENGINE_RESET is pending where the part moves (R128). -/
theorem CtlOk.settled {s : State} (h : s.CtlOk) (moves : s.ctl.op.moves = true) : s.ctl.resetPending = false := by
  obtain ⟨sound, -, -⟩ := s.ctlOk_iff.1 h
  refine Bool.eq_false_iff.2 fun k => ?_
  rcases sound.pending k with op | op <;> cases op ▸ moves

/-- An entry to LIT or COOLDOWN keeps the three invariants where the comparator is released and no ENGINE_RESET is pending. -/
theorem changeState_workKept {new : OpState} (moves : new.moves = true)
    (released : s.CtlOk → s.temps.comparator.state = .released) (settled : s.CtlOk → s.ctl.resetPending = false) :
    WorkKept s (s.changeState new) := by
  obtain ⟨frame, -⟩ := s.changeState_frame new
  refine ⟨fun h => ?_, fun h => ?_, frame.channelKept⟩
  · have sound := s.motionOk_iff.1 h
    let w := s.writeOp new
    have written : w.MotionOk :=
      w.motionOk_iff.2 ⟨sound.room, sound.entries, sound.fresh, sound.begun, fun k => (nomatch moves.symm.trans k), sound.held⟩
    have left : MotionKept w (w.leave s.ctl.op) := by
      unfold State.leave
      split
      · exact w.releaseHold_motionKept
      all_goals exact .of_motion rfl rfl
    have arrived (t : State) : MotionKept t (t.arrive new) := by
      cases new with
      | standby | tripped => cases moves
      | lit | cooldown => exact t.pump_motionKept
    exact (left.trans (arrived _)).kept written
  · exact s.changeState_ctlOk h (released h) fun k => nomatch (settled h).symm.trans k

/-- Departure from COOLDOWN for STANDBY waits for the queue to be empty and idle (R117, R120). -/
theorem judgeRunOn_workKept : WorkKept s s.judgeRunOn := by
  refine .ite (fun ⟨op, complete⟩ => ?_) fun _ => .refl s
  obtain ⟨frame, -⟩ := s.changeState_frame .standby
  refine ⟨fun h => ?_, fun h => ?_, frame.channelKept⟩
  · have idle : s.motion.executing = none ∧ s.motion.queue = [] := by
      simp only [State.runOnComplete, State.lensIdle, Bool.and_eq_true, List.isEmpty_iff, Option.isNone_iff_eq_none] at complete
      obtain ⟨-, ⟨-, queue⟩, executing⟩ := complete
      exact ⟨executing, queue⟩
    have sound := s.motionOk_iff.1 h
    have motion : (s.changeState .standby).motion = s.motion := by
      rw [State.changeState, op]
      rfl
    rw [State.motionOk_iff, motion]
    exact ⟨sound.room, sound.entries, sound.fresh, sound.begun, fun _ => idle, sound.held⟩
  · exact s.changeState_ctlOk h (CtlOk.released h (op ▸ nofun)) fun _ => .inl rfl

/-- A trip makes a sound controller's part TRIPPED and leaves the comparator as it stands (R121). -/
theorem trip_ctl (cause : TripCause) (h : s.CtlSound) :
    (s.trip cause).CtlSound ∧ (s.trip cause).ctl.op = .tripped ∧ (s.trip cause).temps = s.temps ∧
      (s.trip cause).resetAsserted = s.resetAsserted := by
  rcases s.trip_cases cause with ⟨op, e⟩ | ⟨-, frame, ctl⟩
  · rw [e]
    exact ⟨h, op, rfl, rfl⟩
  · refine ⟨h.enter frame.temps ctl fun _ => .inr rfl, ?_, frame.temps, frame.resetAsserted⟩
    rw [ctl]

/-- A trip leaves the queue at rest (R163). -/
theorem trip_motionOk (cause : TripCause) (h : s.MotionOk) : (s.trip cause).MotionOk := by
  rcases s.trip_cases cause with ⟨-, e⟩ | ⟨op, -⟩
  · rwa [e]
  · obtain ⟨-, entries, -⟩ := h
    exact (State.motionOk_iff _).2 ((State.trip_trippedFrom op cause).aborted.sound entries _)

theorem trip_channelKept (cause : TripCause) : ChannelKept s (s.trip cause) := by
  rcases s.trip_cases cause with ⟨-, e⟩ | ⟨-, frame, -⟩
  · rw [e]
    exact ⟨id, id⟩
  · exact frame.channelKept

theorem trip_workKept (cause : TripCause) : WorkKept s (s.trip cause) := by
  refine ⟨s.trip_motionOk cause, fun h => ?_, s.trip_channelKept cause⟩
  obtain ⟨sound, -, judged⟩ := s.ctlOk_iff.1 h
  obtain ⟨sound', op, temps, asserted⟩ := s.trip_ctl cause sound
  refine (State.ctlOk_iff _).2 ⟨sound', fun _ => op, fun k => ?_⟩
  have j := judged (asserted ▸ k)
  exact ⟨temps ▸ j.released, temps ▸ j.tripped⟩

/-! ### The comparator's judgement and resets (R86, R129, R130) -/

/-- Once the comparator has judged its code, the controller's invariant holds where its own part of it did. -/
theorem judgeComparator_ctlOk (h : s.CtlSound) (held : s.TripHeld) : s.judgeComparator.CtlOk := by
  rw [State.ctlOk_iff]
  rcases s.judgeComparator_cases with ⟨-, low, e⟩ | ⟨-, high, e⟩ | ⟨k, e⟩ <;> rw [e]
  · let u := s.setComparator { s.temps.comparator with state := .tripped }
    have set : u.CtlSound := ⟨h.runs, h.limit, h.silence, h.armed, h.budget, h.threshold, h.pending⟩
    obtain ⟨sound, op, temps, -⟩ := u.trip_ctl .comparator set
    refine ⟨sound, fun _ => op, fun _ => ⟨fun k => ?_, fun _ => ?_⟩⟩
    · cases (congrArg (fun t : Temps => t.comparator.state) temps).symm.trans k
    · rw [temps]
      exact Nat.lt_of_le_of_lt low (Nat.lt_add_of_pos_right (by decide))
  · refine ⟨⟨h.runs, h.limit, h.silence, h.armed, h.budget, h.threshold, h.pending⟩, nofun, fun _ => ⟨fun _ => ?_, nofun⟩⟩
    exact Nat.lt_of_lt_of_le (Nat.lt_add_of_pos_right (by decide)) high
  · refine ⟨h, held, fun _ => ⟨fun released => ?_, fun tripped => ?_⟩⟩
    · exact (k.resolve_right fun ⟨k, _⟩ => nomatch released.symm.trans k).2
    · exact (k.resolve_left fun ⟨k, _⟩ => nomatch tripped.symm.trans k).2

theorem judgeComparator_motionOk (h : s.MotionOk) : s.judgeComparator.MotionOk := by
  rcases s.judgeComparator_cases with ⟨-, -, e⟩ | ⟨-, -, e⟩ | ⟨-, e⟩ <;> rw [e]
  · exact State.trip_motionOk _ _ h
  · exact h
  · exact h

theorem judgeComparator_channelKept : ChannelKept s s.judgeComparator := by
  rcases s.judgeComparator_cases with ⟨-, -, e⟩ | ⟨-, -, e⟩ | ⟨-, e⟩ <;> rw [e]
  · have tripped := (s.setComparator { s.temps.comparator with state := .tripped }).trip_channelKept .comparator
    exact ⟨tripped.sound, tripped.served⟩
  · exact ⟨id, id⟩
  · exact ⟨id, id⟩

/-- A change of the comparator or of a pin's code that is judged at once keeps the three invariants. -/
theorem judgeComparator_workKept {s u : State} (bare : ({ u with temps := s.temps } : State).bare = s.bare)
    (sound : s.CtlSound → u.temps.comparator.threshold ≤ 4031)
    (held : s.TripHeld → u.TripHeld) : WorkKept s u.judgeComparator := by
  have same := WorkKept.of_bare bare
  have judged := u.judgeComparator_channelKept
  refine ⟨fun h => u.judgeComparator_motionOk (same.motion h), fun h => ?_, judged.sound ∘ same.chan.sound,
    judged.served ∘ same.chan.served⟩
  obtain ⟨-, heldS, -⟩ := s.ctlOk_iff.1 h
  obtain ⟨k, -, -⟩ := (State.ctlOk_iff _).1 (same.ctl h)
  exact u.judgeComparator_ctlOk ⟨k.runs, k.limit, k.silence, k.armed, k.budget, sound (s.ctlOk_iff.1 h).1, k.pending⟩ (held heldS)

/-- After a reset the three invariants hold, whatever the state was (R130). -/
theorem applyReset_workKept {s : State} (u : State) : WorkKept s u.applyReset := by
  let v := u.abandonBus.resetBlocks
  have fresh : State.reset.MotionOk ∧ State.reset.CtlOk ∧ State.reset.ChannelOk := by decide
  obtain ⟨motion, ctl, chan⟩ := fresh
  obtain ⟨sound, -, -⟩ := (State.ctlOk_iff _).1 ctl
  have soundV : v.CtlSound :=
    ⟨sound.runs, sound.limit, sound.silence, sound.armed, sound.budget, sound.threshold, sound.pending⟩
  obtain ⟨list, -⟩ := (State.channelOk_iff _).1 chan
  have judged := v.judgeComparator_channelKept
  exact ⟨fun _ => v.judgeComparator_motionOk motion, fun _ => v.judgeComparator_ctlOk soundV nofun,
    fun _ => judged.sound list, fun _ => judged.served fun _ _ => rfl⟩

/-- While RESET_N is asserted no packet, no answer and no ENGINE_RESET is pending (R128, R130, R172). -/
theorem assertReset_workKept : WorkKept s s.assertReset := by
  rw [s.assertReset_eq]
  refine ⟨id, fun h => ?_, fun h => ?_, fun _ _ _ => rfl⟩
  · obtain ⟨sound, held, -⟩ := s.ctlOk_iff.1 h
    exact (State.ctlOk_iff _).2
      ⟨⟨sound.runs, sound.limit, sound.silence, sound.armed, sound.budget, sound.threshold, nofun⟩, held, nofun⟩
  · exact ⟨rfl, Nat.zero_le _, h.ignored, h.count, nofun, nofun, nofun⟩

end State

end Sys2Proof.Machine
end

section
/-! PROOF. O60: the control tick, the silence counter, the packets and the events keep the three invariants, and so does every
step. -/

namespace Sys2Proof.Machine

namespace State

variable (s : State)

/-! ### The motion queue's events -/

theorem proceed_workKept : WorkKept s s.proceed := .of_queue s.proceed_frame s.proceed_motionKept

theorem afterEvent_workKept (a : AxisId) (e : AxisEvent) : WorkKept s (s.afterEvent a e) :=
  .of_queue (s.afterEvent_frame a e) (s.afterEvent_motionKept a e)

theorem endSwitching_workKept : WorkKept s s.endSwitching := .of_queue s.endSwitching_frame s.endSwitching_motionKept

theorem takeEvent_workKept (a : AxisId) (e : AxisEvent) : WorkKept s (s.takeEvent a e) :=
  .of_queue ((queueFrame_closed s).takeEvent a e (.refl s)) (s.takeEvent_motionKept a e)

theorem setAxis_workKept (a : AxisId) (x : Axis) : WorkKept s (s.setAxis a x) := by cases a <;> exact .of_bare rfl

theorem profileTick_workKept : WorkKept s s.profileTick := by
  have ticked : WorkKept s ((s.setAxis .h s.axisH.tick.1).setAxis .v s.axisV.tick.1) := .of_bare rfl
  exact .ite (fun _ => ticked) fun _ =>
    ((ticked.trans (State.takeEvent_workKept _ _ _)).trans (State.takeEvent_workKept _ _ _)).trans (State.proceed_workKept _)

/-! ### Fans, the control tick and the silence counter (R111, R116, R120, R124, R125) -/

theorem stallExpired_workKept (f : FanId) : WorkKept s (s.stallExpired f) := by
  have failed (t : State) : WorkKept t (t.failFan f) := by
    have set : WorkKept t (t.setFan f (t.fan f).enterFailed) := .of_bare rfl
    unfold State.failFan
    dsimp only
    split
    · exact set.trans (.ite (fun _ => State.trip_workKept _ _) fun _ => .refl _)
    · exact .of_bare rfl
  have raised : WorkKept s (s.raise .fanFault) := .of_bare rfl
  have stalls : WorkKept s (s.stall f) := .ite (fun _ => .of_bare rfl) fun _ => raised.trans (failed _)
  unfold State.stallExpired
  split
  · exact stalls
  · exact stalls
  all_goals exact .refl s

theorem judgeDigital_workKept (zs : List ZoneId) : WorkKept s (s.judgeDigital zs) := by
  rcases s.judgeDigital_cases zs with e | ⟨-, z, e⟩ <;> rw [e]
  · exact .refl s
  · exact s.trip_workKept _

theorem zoneTick_workKept : WorkKept s s.zoneTick := by
  have copied : WorkKept s s.copyMode := .of_bare rfl
  have sensed (t : State) : WorkKept t t.senseZones := by
    have set (x : ZoneCtl) : WorkKept t (t.setZoneCtl x) := .of_bare rfl
    exact (set _).trans (.raiseIf _ _ _)
  have formed (t : State) : WorkKept t t.formDemands := .of_bare rfl
  have derated (t : State) : WorkKept t t.judgeDerate := by
    have set (n : Nat) : WorkKept t (t.setCeiling n) := .of_bare rfl
    exact .ite (fun _ => (set _).trans (.raiseIf _ _ _)) fun _ => .ite (fun _ => set _) fun _ => .refl t
  have thermal (t : State) : WorkKept t t.reformThermal := .of_bare rfl
  exact (((copied.trans (sensed _)).trans (formed _)).trans (derated _)).trans (thermal _)

/-- The sweep's entries and the scan's channels leave the comparator and the codes on the pins as they are (R72, R81). -/
theorem setTemps_workKept {x : Temps} (comparator : x.comparator = s.temps.comparator) (pinCode : x.pinCode = s.temps.pinCode) :
    WorkKept s (s.setTemps x) := by
  refine .of_bare ?_
  change { s.bare with temps := { Temps.resetWith x.pinCode with comparator := x.comparator } } = s.bare
  rw [comparator, pinCode]
  rfl

theorem takeNext_workKept {x : Temps} (comparator : x.comparator = s.temps.comparator) (pinCode : x.pinCode = s.temps.pinCode) :
    WorkKept s (s.setTemps x.takeNext) := by
  unfold Temps.takeNext
  split <;> exact s.setTemps_workKept comparator pinCode

theorem controlTick_workKept : WorkKept s s.controlTick := by
  have fans (t : State) : WorkKept t t.fanTick := .ite (fun _ => .of_bare rfl) fun _ => .of_bare rfl
  have swept (t : State) : WorkKept t (t.setTemps t.temps.startSweep) := by
    unfold Temps.startSweep
    split
    · exact .of_bare rfl
    · exact t.takeNext_workKept rfl rfl
  have scan (t : State) : WorkKept t t.startScan := .of_bare rfl
  have zones := s.zoneTick_workKept.trans (State.judgeDigital_workKept _ ZoneId.all)
  have sources := ((zones.trans (fans _)).trans (swept _)).trans (scan _)
  exact (sources.trans (State.judgeRunOn_workKept _)).trans (State.proceed_workKept _)

/-- The controller's own values change within their ranges, the operating state apart. -/
theorem setCtl_workKept {c : StateCtl} (op : c.op = s.ctl.op) (sound : s.CtlSound → (s.setCtl c).CtlSound) : WorkKept s (s.setCtl c) := by
  refine ⟨fun h => ?_, fun h => ?_, id, id⟩
  · refine (State.motionOk_iff _).2 ?_
    change s.motion.Sound c.op.moves
    exact op ▸ s.motionOk_iff.1 h
  · obtain ⟨k, held, judged⟩ := s.ctlOk_iff.1 h
    exact (State.ctlOk_iff _).2 ⟨sound k, fun tripped => op.trans (held tripped), fun k => ⟨(judged k).released, (judged k).tripped⟩⟩

theorem silenceExpires_workKept : WorkKept s s.silenceExpires := by
  have ends : WorkKept s s.silenceEnds := by
    let c : StateCtl := { s.ctl with silence := Config.silenceLimit, armed := false }
    let u := (s.setCtl c).raise .linkLost
    have counted : WorkKept s (s.setCtl c) := s.setCtl_workKept rfl fun k => ⟨k.runs, k.limit, Nat.le_refl _,
      ⟨nofun, fun k => absurd k (Nat.lt_irrefl _)⟩, k.budget, k.threshold, k.pending⟩
    have lost : WorkKept s u := counted.trans (.of_bare rfl)
    have cools : WorkKept u (if u.ctl.op = .lit then u.changeState .cooldown else u) :=
      .ite (fun op => u.changeState_workKept rfl (fun h => CtlOk.released h (op ▸ nofun)) fun h => CtlOk.settled h (op ▸ rfl))
        fun _ => .refl u
    exact (lost.trans cools).trans (State.endSwitching_workKept _)
  rw [s.silenceExpires_eq]
  exact .ite (fun _ => ends.trans (State.applyReset_workKept _)) fun _ => ends

theorem silenceCounts_workKept : WorkKept s s.silenceCounts := by
  refine .ite (fun armed => .ite (fun _ => s.silenceExpires_workKept) fun few => ?_) fun _ => .refl s
  refine s.setCtl_workKept rfl fun k => ⟨k.runs, k.limit, ?_, ?_, k.budget, k.threshold, k.pending⟩
  · exact (Nat.lt_of_not_le few).le
  · exact ⟨fun _ => Nat.lt_of_not_le few, fun _ => armed⟩

theorem workKept_rearm : WorkKept s s.rearm :=
  s.setCtl_workKept rfl fun k => ⟨k.runs, k.limit, Nat.zero_le _, ⟨fun _ => Nat.zero_lt_succ _, fun _ => rfl⟩, k.budget, k.threshold,
    k.pending⟩

/-- The run-on elapsed runs on, and up to 60,000 ms (R116). -/
theorem runsOn_workKept {f : Nat → Nat} (most : ∀ n, f n ≤ 60000) :
    WorkKept s (s.setCtl { s.ctl with runOn := s.ctl.runOn.map f }) :=
  s.setCtl_workKept rfl fun k => ⟨Option.isSome_map.trans k.runs,
    fun _ hn => by obtain ⟨m, -, rfl⟩ := Option.map_eq_some_iff.1 hn; exact most m,
    k.silence, k.armed, k.budget, k.threshold, k.pending⟩

theorem millisecond_workKept : WorkKept s s.millisecond := by
  let u := s.setCtl { s.ctl with runOn := s.ctl.runOn.map fun n => min (n + 1) Config.runOnLimit }
  have counts : WorkKept s u := s.runsOn_workKept fun n => Nat.min_le_right _ _
  have timers : WorkKept u ((u.setFanDrv (u.fanDrv.each fun _ x => x.millisecond)).setMotion
      { u.motion with railTimer := countDown u.motion.railTimer }) := .of_bare rfl
  exact .ite (fun _ => counts.trans timers) fun _ => .refl s

/-! ### Frame answers and the return lane (R171, R172, R180) -/

/-- A frame answer has at most 199 bytes: sixteen entries of at most eleven each, behind the header (R167, R180). -/
theorem frameAnswer_length (h : s.chan.Sound) : s.frameAnswer.bytes.length ≤ 199 := by
  have taken := h.taken
  have room := h.room
  have entries (es : List Entry) (small : ∀ e ∈ es, e.reply.data.length ≤ 8) : (es.flatMap Entry.bytes).length ≤ 11 * es.length := by
    induction es with
    | nil => exact Nat.le_refl _
    | cons e es ih =>
      have one : e.bytes.length ≤ 11 := by
        have := small e List.mem_cons_self
        simp only [Entry.bytes, byte, List.length_append, List.length_cons, List.length_nil]
        omega
      have rest := ih fun k hk => small k (List.mem_cons_of_mem e hk)
      simp only [List.flatMap_cons, List.length_append, List.length_cons]
      omega
  have listed := entries s.chan.entries h.data
  have crc (w : BitVec 16) : (wordBytes w).length = 2 := rfl
  simp only [State.frameAnswer, List.length_append, s.header_length, crc]
  omega

theorem formAnswer_workKept : WorkKept s s.formAnswer := by
  refine .of_chan (fun h => ?_) fun _ => ?_
  · have small : ∀ a ∈ some s.frameAnswer, a.bytes.length ≤ 199 := fun a ha => Option.some.inj ha ▸ s.frameAnswer_length h
    have count : s.chan.nextCount < 65536 := Nat.mod_lt _ (by decide)
    have kept (lane waiting : Option FrameAnswer) (hl : ∀ a ∈ lane, a.bytes.length ≤ 199)
        (hw : ∀ a ∈ waiting, a.bytes.length ≤ 199) : ChanState.Sound { s.chan with
          frameCount := s.chan.nextCount, taken := 0, ignored := 0, entries := [], lane := lane, waiting := waiting } :=
      ⟨rfl, Nat.zero_le _, Nat.zero_le _, count, nofun, hl, hw⟩
    unfold ChanState.send
    split
    · exact kept _ _ small h.waiting
    · split
      · exact kept _ _ h.lane small
      · exact iteInduction (fun _ => kept _ _ h.lane h.waiting) fun _ => kept _ _ h.lane small
  · have busy (c : ChanState) (pending : Bool) (a : FrameAnswer) : (c.send pending a).lane ≠ none := by
      unfold ChanState.send
      split
      · exact nofun
      · split
        · simp [*]
        · split <;> simp [*]
    exact fun _ k => (busy _ _ _ k).elim

theorem nextAnswer_workKept : WorkKept s (s.setChan s.chan.nextAnswer) :=
  .of_chan (fun h => ⟨h.taken, h.room, h.ignored, h.count, h.data, h.waiting, nofun⟩) fun _ _ _ => rfl

theorem answerSent_workKept : WorkKept s s.answerSent :=
  .ite (fun _ => .ite (fun _ => State.applyReset_workKept _) fun _ => s.nextAnswer_workKept) fun _ => .refl s

/-- A loss of lock cuts off the answer on the lane and leaves the one that waits (R172). -/
theorem lockLost_workKept : WorkKept s s.lockLost := by
  have unlocked : s.darken.linked = false := Bool.and_false _
  have dark : WorkKept s s.darken := ⟨id, id, id, fun _ k => nomatch unlocked.symm.trans k⟩
  have cut : WorkKept s.darken (s.darken.setChan { s.darken.chan with lane := none }) :=
    .of_chan (fun h => ⟨h.taken, h.room, h.ignored, h.count, h.data, nofun, h.waiting⟩) fun _ k => nomatch unlocked.symm.trans k
  rw [State.lockLost_eq]
  exact dark.trans (.ite (fun _ => State.applyReset_workKept _) fun _ => cut)

/-- The answer that waits goes out at once when the lock is regained (R172). -/
theorem lockRegained_workKept : WorkKept s s.lockRegained :=
  ⟨id, id, s.nextAnswer_workKept.chan.sound, fun _ _ _ => rfl⟩

/-- The lock changes where no answer is under way for it (R14, R172). -/
theorem setLocked_workKept {b : Bool} (unlinked : (s.setLocked b).linked = true → s.linked = true) : WorkKept s (s.setLocked b) :=
  ⟨id, id, id, fun h k => h (unlinked k)⟩

end State

end Sys2Proof.Machine
end

section
/-! PROOF. O60: the owners of the packet commands, the packets and the events keep the three invariants, and so does every
step. -/

namespace Sys2Proof.Machine

/-! ### The owners of the packet commands (R118, R119, R123, R126, R128, R152, R170) -/

/-- A request joins a queue with room for it, in a part that moves (R152). -/
theorem enqueue_workKept (tag : Byte) (j : Job) (s : State) : WorkKept s (enqueue tag j s).1 := by
  unfold enqueue
  split
  · exact .refl s
  · rename_i moves
    split
    · exact .refl s
    · rename_i room
      have works : s.ctl.op.moves = true := by simpa using moves
      have appended : MotionKept s (s.append (.fresh tag j)) := .of_sound rfl fun h => h.append works (Nat.lt_of_not_le room) tag j
      have joined : WorkKept s (s.append (.fresh tag j)) := ⟨appended.kept, id, id, id⟩
      exact joined.trans (.of_queue (State.pump_frame _) (State.pump_motionKept _))

theorem tryLight_workKept {s : State} (settled : s.ctl.resetPending = false) (op : s.ctl.op ≠ .tripped) : WorkKept s (tryLight s).1 := by
  unfold tryLight
  split
  · exact .refl s
  · exact s.changeState_workKept (new := .lit) rfl (fun h => State.CtlOk.released h op) fun _ => settled

/-- LIGHT_ON lights a part whose comparator is released (R118). -/
theorem lightOn_workKept {s : State} (settled : s.ctl.resetPending = false) : WorkKept s (lightOn s).1 := by
  unfold lightOn
  split
  · exact tryLight_workKept settled (by simp [*])
  · exact tryLight_workKept settled (by simp [*])
  all_goals exact .refl s

/-- CLEAR_TRIP leaves TRIPPED once the comparator is released (R123). -/
theorem clearTrip_workKept {s : State} (settled : s.ctl.resetPending = false) : WorkKept s (clearTrip s).1 := by
  unfold clearTrip
  split
  · split
    · exact .refl s
    · rename_i barred
      have released : s.temps.comparator.state = .released := by
        unfold State.clearTripBar at barred
        split at barred
        · cases barred
        · cases k : s.temps.comparator.state with
          | released => rfl
          | tripped => contradiction
      exact s.changeState_workKept (new := .cooldown) rfl (fun _ => released) fun _ => settled
  · exact .refl s

theorem setTripComparator_workKept (channel : Byte) (threshold : BitVec 16) (s : State) :
    WorkKept s (setTripComparator channel threshold s).1 := by
  unfold setTripComparator
  split
  · exact .refl s
  · split
    · exact .refl s
    · split
      · exact State.judgeComparator_workKept rfl (fun _ => ‹_›) fun _ => nofun
      · exact .refl s

theorem writeTableSecond_workKept (table : Byte) (values : List (BitVec 16)) (s : State) :
    WorkKept s (writeTableSecond table values s).1 := by
  have installed (tab : TableId) (values : List Int) : WorkKept s (s.setTemps (s.temps.install tab values)) := by
    obtain ⟨comparator, pinCode⟩ : (s.temps.install tab values).comparator = s.temps.comparator ∧
        (s.temps.install tab values).pinCode = s.temps.pinCode := by
      unfold Temps.install
      split <;> exact ⟨rfl, rfl⟩
    exact s.setTemps_workKept comparator pinCode
  simp only [writeTableSecond, answer]
  repeat' split
  all_goals first | exact installed _ _ | exact .of_bare rfl

/-- What the owner of a packet command does keeps the three invariants while no ENGINE_RESET is pending (R128, R170). -/
theorem ownerOf_workKept (i : Instr) {s : State} (settled : s.ctl.resetPending = false) : WorkKept s (ownerOf i s).1 := by
  cases i
  case moveAxis | stepAxis | home | recallPreset =>
    simp only [ownerOf, moveAxis, stepAxis, home, recallPreset, answer]
    repeat' split
    all_goals first | exact enqueue_workKept _ _ s | exact .refl s
  case stopMotion => exact .of_queue s.stopMotion_frame s.stopMotion_motionKept
  case lightOn => exact lightOn_workKept settled
  case clearTrip => exact clearTrip_workKept settled
  case lightOff =>
    exact .ite (fun op => s.changeState_workKept rfl (fun h => State.CtlOk.released h (op ▸ nofun)) fun _ => settled) fun _ => .refl s
  case setTripComparator => exact setTripComparator_workKept ..
  case setInstall orientation acoustic budget =>
    simp only [ownerOf, setInstall, answer]
    split
    · split
      · rename_i within
        exact s.setCtl_workKept rfl fun k => ⟨k.runs, k.limit, k.silence, k.armed, within, k.threshold, k.pending⟩
      · exact .refl s
    · exact .refl s
  case engineReset =>
    simp only [ownerOf, engineReset, answer]
    split
    · rename_i op
      exact s.setCtl_workKept rfl fun k => ⟨k.runs, k.limit, k.silence, k.armed, k.budget, k.threshold, fun _ => .inl op⟩
    · exact .refl s
  case writeAxis =>
    simp only [ownerOf, writeAxis, answer]
    repeat' split
    all_goals first | exact .refl s | exact s.setAxis_workKept _ _
  case readAxis axis page =>
    have drawn (t : State) (b : Bool) : WorkKept t (t.drawFreeIf b) := .ite (fun _ => .of_bare rfl) fun _ => .refl t
    simp only [ownerOf, readAxis, answer]
    repeat' split
    all_goals first | exact .refl s | exact s.setAxis_workKept _ _ | exact drawn s _
  case readGrid | gridInfo | readPoll | readThermistorTable | readZone | readFan | readPreset | readMotion =>
    simp only [ownerOf, readGrid, gridInfo, readPoll, readTable, readZone, readFan, readPreset, readMotion, answer]
    split <;> exact .refl s
  case setLight | setLightRamp | assignSource | writePoll | erasePreset | ackEvents | setEventEnable | setThermalLimits =>
    simp only [ownerOf, setLight, setLightRamp, assignSource, writePoll, erasePreset, ackEvents, setEventEnable,
      setThermalLimits, answer]
    split <;> exact .of_bare rfl
  case writeThermistorTableSecond => exact writeTableSecond_workKept ..
  case clearFan =>
    simp only [ownerOf, clearFan, answer]
    split
    · exact .refl s
    · exact .ite (fun _ => .of_bare rfl) fun _ => .refl s
  case writeGrid | commitGrid | eraseGrid | selectGrid | writeChannel | readSource | writeThermistorTableFirst
      | storePreset | writeZone | writeFan =>
    simp only [ownerOf, writeGrid, commitGrid, eraseGrid, selectGrid, writeChannel, readSource, writeTableFirst,
      storePreset, storeExplicit, storeCurrent, writeZone, writeFan, answer]
    repeat' split
    all_goals exact .of_bare rfl
  all_goals exact .refl s

/-! ### Packets (R167, R170) -/

/-- A packet taken keeps the three invariants where its owner's work does, leaves the channel alone and answers with at most
eight bytes. -/
theorem State.carryOut_workKept {s : State} (tag : Byte) {run : Owner} (room : s.chan.taken < 16)
    (work : WorkKept s.countTaken (run s.countTaken).1) (chan : ChanKept s.countTaken (run s.countTaken).1)
    (data : (run s.countTaken).2.data.length ≤ 8) : WorkKept s (s.carryOut tag run) := by
  refine ⟨work.motion, work.ctl, fun h => ?_, work.chan.served⟩
  have entries : (run s.countTaken).1.chan.entries = s.chan.entries := (congrArg ChanState.entries chan :)
  have taken : (run s.countTaken).1.chan.taken = s.chan.taken + 1 := (congrArg ChanState.taken chan :)
  have ignored : (run s.countTaken).1.chan.ignored = s.chan.ignored := (congrArg ChanState.ignored chan :)
  have count : (run s.countTaken).1.chan.frameCount = s.chan.frameCount := (congrArg ChanState.frameCount chan :)
  have lane : (run s.countTaken).1.chan.lane = s.chan.lane := (congrArg ChanState.lane chan :)
  have waiting : (run s.countTaken).1.chan.waiting = s.chan.waiting := (congrArg ChanState.waiting chan :)
  have added : (s.carryOut tag run).chan = { (run s.countTaken).1.chan with
      entries := s.chan.entries ++ [{ tag := tag, reply := (run s.countTaken).2 }] } := by rw [← entries]; rfl
  rw [added]
  refine ⟨?_, ?_, ignored ▸ h.ignored, count ▸ h.count, fun e he => ?_, lane ▸ h.lane, waiting ▸ h.waiting⟩
  · simp [taken, h.taken]
  · exact taken ▸ room
  · rcases List.mem_append.1 he with old | new
    · exact h.data e old
    · rw [List.mem_singleton.1 new]
      exact data

/-- A packet keeps the three invariants where its owner's work does while no ENGINE_RESET is pending (R128, R167). -/
theorem State.takePacket_workKept (s : State) (tag : Byte) {run : Owner}
    (owner : ∀ t : State, t.ctl.resetPending = false → WorkKept t (run t).1 ∧ ChanKept t (run t).1 ∧ (run t).2.data.length ≤ 8) :
    WorkKept s (s.takePacket tag run) := by
  have ignored : WorkKept s s.ignoreLine := by
    have counted : WorkKept s (s.setChan { s.chan with ignored := min (s.chan.ignored + 1) Config.maxIgnored }) :=
      .of_chan (fun h => ⟨h.taken, h.room, Nat.min_le_right _ _, h.count, h.data, h.lane, h.waiting⟩) id
    exact counted.trans (.raiseIf _ _ _)
  rcases s.takePacket_cases tag run with ⟨-, e⟩ | ⟨-, -, e⟩ | ⟨-, settled, room, e⟩ | ⟨-, -, -, e⟩ <;> rw [e]
  · exact .refl s
  · exact .refl s
  · obtain ⟨work, chan, data⟩ := owner s.countTaken settled
    exact State.carryOut_workKept tag room work chan data
  · exact ignored

theorem ownerOf_kept (i : Instr) (t : State) (settled : t.ctl.resetPending = false) :
    WorkKept t (ownerOf i t).1 ∧ ChanKept t (ownerOf i t).1 ∧ (ownerOf i t).2.data.length ≤ 8 :=
  ⟨ownerOf_workKept i settled, ownerOf_chanKept i t, ownerOf_data i t⟩

theorem answer_kept (r : Result) (t : State) :
    WorkKept t (answer r t).1 ∧ ChanKept t (answer r t).1 ∧ (answer r t).2.data.length ≤ 8 := ⟨.refl t, .refl t, Nat.zero_le _⟩

theorem State.receive_workKept (s : State) (r : PacketRead) : WorkKept s (s.receive r) := by
  cases r with
  | badCheck tag | unknownCommand tag | badLength tag => exact s.takePacket_workKept tag fun t _ => answer_kept _ t
  | command tag i => exact s.takePacket_workKept tag (ownerOf_kept i)

/-- A packet command completes and keeps the three invariants (R167, R170). -/
theorem exec_packet_workKept {i : Instr} (hi : (packetOf i).isSome = true) (s : State) : ∃ t, exec i s = .next t ∧ WorkKept s t := by
  obtain ⟨⟨tag, code, payload⟩, hp⟩ := Option.isSome_iff_exists.1 hi
  obtain ⟨run, he, hr⟩ := exec_packet hp s
  refine ⟨_, he, s.takePacket_workKept tag ?_⟩
  rcases hr with rfl | ⟨-, rfl⟩
  · exact ownerOf_kept i
  · exact fun t _ => answer_kept _ t

/-! ### The events of the video path, the return lane and the sources -/

namespace State

variable (s : State)

theorem endOutput_workKept (b : Bool) : WorkKept s (s.endOutput b) := by
  unfold State.endOutput
  split
  · exact .refl s
  · exact .of_bare rfl

theorem outputFrameStart_workKept : WorkKept s s.outputFrameStart := by
  have entered (t : State) : WorkKept t t.enterOutput := .of_bare rfl
  have latched (t : State) : WorkKept t t.latch := by
    unfold State.latch
    split
    · exact .refl t
    · exact .of_bare rfl
  have counted (t : State) (x : Stats) : WorkKept t (t.setStats x) := .of_bare rfl
  have begun := ((s.endOutput_workKept false).trans (entered _)).trans (latched _)
  unfold State.outputFrameStart
  rw [State.startOutput_eq]
  exact .ite (fun _ => (begun.trans (counted _ _)).trans (State.endSwitching_workKept _)) fun _ => .refl s

theorem inputFrameStart_workKept (l : Line) : WorkKept s (s.inputFrameStart l) := by
  have timed (t : State) (n : Nat) : WorkKept t (t.setLineTime n) := .of_bare rfl
  have due : WorkKept s s.startDueFirst := ((timed s _).trans (State.outputFrameStart_workKept _)).trans (timed _ _)
  have begun (t : State) : WorkKept t (t.beginFrame l) := by
    have started : WorkKept t (t.setWarp (t.warp.startFrame l)) := .of_bare rfl
    have answers (u : State) : WorkKept u u.formAnswer.rearm := u.formAnswer_workKept.trans (State.workKept_rearm _)
    exact (WorkKept.ite (fun _ => started.trans (State.endSwitching_workKept _)) fun _ => started).trans (answers _)
  exact due.trans (begun _)

theorem outputLine_workKept : WorkKept s s.outputLine := by
  unfold State.outputLine
  split
  · exact .refl s
  · rename_i f _
    have sent : WorkKept s (s.sendLine f) := .of_bare rfl
    rw [State.produceLine_eq]
    exact .ite (fun _ => .ite (fun _ => sent.trans (State.endOutput_workKept _ _)) fun _ => sent) fun _ => .refl s

theorem applyReading_workKept (n : Fin 12) (r : Reading) : WorkKept s (s.applyReading n r) := by
  have applied : WorkKept s (s.setSource n ((s.source n).apply r)) := .of_bare rfl
  exact applied.trans (.raiseIf _ _ _)

theorem endFlight_workKept (f : Flight) (r : Reading) (wire : List SbSignal) : WorkKept s (s.endFlight f r wire) :=
  WorkKept.trans (.ite (fun _ => .refl s) fun _ => s.applyReading_workKept _ _) (State.takeNext_workKept _ rfl rfl)

theorem cutFlight_workKept (f : Flight) (o : ReadOutcome) (p : SbPlace) : WorkKept s (s.cutFlight f o p) := by
  have due : WorkKept s (s.setTemps { s.temps with recoveryDue := true }) := .of_bare rfl
  have drawn (t : State) : WorkKept t t.drawFree := .of_bare rfl
  exact (due.trans (State.endFlight_workKept _ f (.bad o) (f.cutWire p s.freeCount))).trans (drawn _)

/-- The events of the sensor bus keep the three invariants (R74 to R80). -/
theorem bus_workKept : (∀ e, WorkKept s (s.stopBegun e)) ∧ (∀ micros, WorkKept s (s.addStretch micros)) ∧
    (∀ o p, WorkKept s (s.cutBegun o p)) ∧ WorkKept s s.recoveryDone ∧ WorkKept s s.recoveryAbandoned := by
  refine ⟨fun e => ?_, fun micros => ?_, fun o p => ?_, ?_, ?_⟩
  · unfold State.stopBegun
    split
    · exact .refl s
    · exact s.endFlight_workKept _ _ _
  · unfold State.addStretch
    split
    · exact .refl s
    · exact .ite (fun _ => s.cutFlight_workKept _ _ _) fun _ => .of_bare rfl
  · unfold State.cutBegun
    split
    · exact .refl s
    · exact s.cutFlight_workKept _ _ _
  · unfold State.recoveryDone
    split
    · exact .refl s
    · exact .of_bare rfl
  · unfold State.recoveryAbandoned
    split
    · exact .refl s
    · exact s.cutFlight_workKept _ _ _

/-- A level on a pin is judged at once where the part is live (R86). -/
theorem showLevel_workKept (level : PinLevel) : WorkKept s (s.showLevel level) := by
  let u := s.setPinCode level.ch level.code
  cases live : s.resetAsserted with
  | false =>
    have judged : s.showLevel level = u.judgeComparator := State.whenLive_of_live (s := u) live State.judgeComparator
    rw [judged]
    exact State.judgeComparator_workKept rfl (fun k => k.threshold) id
  | true =>
    have waits : s.showLevel level = u := if_neg (by simp [State.live, State.setPinCode, live])
    rw [waits]
    refine ⟨id, fun h => ?_, id, id⟩
    obtain ⟨k, held, -⟩ := s.ctlOk_iff.1 h
    exact (State.ctlOk_iff _).2
      ⟨⟨k.runs, k.limit, k.silence, k.armed, k.budget, k.threshold, k.pending⟩, held, fun k => nomatch live.symm.trans k⟩

end State

/-! ### Every command, and every step -/

/-- Every command completes and keeps the three invariants. -/
theorem exec_workKept (i : Instr) (s : State) : ∃ t, exec i s = .next t ∧ WorkKept s t := by
  have live (f : State → State) (hf : WorkKept s (f s)) : WorkKept s (s.whenLive f) := .ite (fun _ => hf) fun _ => .refl s
  have linked (f : State → State) (hf : WorkKept s (f s)) : WorkKept s (s.whenLinked f) := .ite (fun _ => hf) fun _ => .refl s
  obtain ⟨stops, stretches, cuts, recovers, abandons⟩ := s.bus_workKept
  cases i
  case inputActiveLine ps =>
    exact ⟨_, rfl, linked _ (.ite (fun _ => s.inputFrameStart_workKept _) fun _ => .of_bare rfl)⟩
  case controlLine ps =>
    have line : WorkKept s s.blankingLine := .of_bare rfl
    exact ⟨_, rfl, linked _ (.ite (fun _ => line.trans (State.receive_workKept _ _)) fun _ => line)⟩
  case outputLine => exact ⟨_, rfl, linked _ s.outputLine_workKept⟩
  case outputFrameStart => exact ⟨_, rfl, linked _ s.outputFrameStart_workKept⟩
  case plainBlankingLine => exact ⟨_, rfl, linked _ (.of_bare rfl)⟩
  case linkLockLost =>
    exact ⟨_, rfl, .ite (fun _ => s.lockLost_workKept) fun _ => s.setLocked_workKept fun k => nomatch (Bool.and_false _).symm.trans k⟩
  case linkLockRegained =>
    refine ⟨_, rfl, .ite (fun _ => s.lockRegained_workKept) fun dark => s.setLocked_workKept fun k => ?_⟩
    have isLive : s.live = true := (Bool.and_eq_true_iff.1 k).1
    simpa [State.linked, isLive] using dark
  case answerSent => exact ⟨_, rfl, linked _ s.answerSent_workKept⟩
  case resetNAsserted => exact ⟨_, rfl, live _ s.assertReset_workKept⟩
  case resetNReleased => exact ⟨_, rfl, State.applyReset_workKept _⟩
  case controlTick => exact ⟨_, rfl, live _ s.controlTick_workKept⟩
  case runOnElapsedLimit => exact ⟨_, rfl, live _ (s.runsOn_workKept fun _ => Nat.le_refl _)⟩
  case thermistorConversionDone ch code =>
    have taken : WorkKept s (s.takeConversion ch code) := .ite (fun _ => .refl s) fun _ => s.applyReading_workKept _ _
    have advanced (t : State) : WorkKept t (t.advanceScan ch) := .ite (fun _ => .of_bare rfl) fun _ => .refl t
    exact ⟨_, rfl, live _ (taken.trans (advanced _))⟩
  case sbTransactionEnd e => exact ⟨_, rfl, live _ (stops e)⟩
  case sbStretchLimit micros => exact ⟨_, rfl, live _ (stretches micros)⟩
  case sbClockTimeout | sbBusError => exact ⟨_, rfl, live _ (cuts _ _)⟩
  case sbRecoveryDone => exact ⟨_, rfl, live _ recovers⟩
  case sbRecoveryAbandoned => exact ⟨_, rfl, live _ abandons⟩
  case comparatorTrip level | comparatorRelease level => exact ⟨_, rfl, s.showLevel_workKept level⟩
  case stallTimerExpiry f => exact ⟨_, rfl, live _ (s.stallExpired_workKept f)⟩
  case tachEdge f e =>
    have edge : WorkKept s (s.updateFan f fun x => x.edge e.micros (Config.freeSpeed s.freeCount)) := .of_bare rfl
    have drawn (t : State) (b : Bool) : WorkKept t (t.drawFreeIf b) := .ite (fun _ => .of_bare rfl) fun _ => .refl t
    exact ⟨_, rfl, live _ (.ite (fun _ => edge.trans (drawn _ _)) fun _ => .refl s)⟩
  case profileTick => exact ⟨_, rfl, live _ s.profileTick_workKept⟩
  case endstopEdge e =>
    exact ⟨_, rfl, .ite (fun _ => (s.setAxis_workKept _ _).trans (State.afterEvent_workKept _ _ _)) fun _ => s.setAxis_workKept _ _⟩
  case endstopInactive e =>
    exact ⟨_, rfl, .ite (fun _ => (s.setAxis_workKept _ _).trans (State.afterEvent_workKept _ _ _)) fun _ => s.setAxis_workKept _ _⟩
  case railWaitTimeout => exact ⟨_, rfl, live _ (.of_queue s.railTimeout_frame s.railTimeout_motionKept)⟩
  case silenceTick => exact ⟨_, rfl, live _ s.silenceCounts_workKept⟩
  case silenceExpiry => exact ⟨_, rfl, live _ (.ite (fun _ => s.silenceExpires_workKept) fun _ => .refl s)⟩
  case rampTick | lightPwmPeriodBoundary | fanPwmPeriodBoundary | kickTimerExpiry | pauseTimerExpiry | retryClearTimerExpiry
      | tachTimeout => exact ⟨_, rfl, live _ (.of_bare rfl)⟩
  all_goals exact exec_packet_workKept rfl s

/-- Settles O60: a millisecond or the command at the front of the queue, each of which keeps the three invariants. -/
theorem everyStepKeepsQueueStateAndChannel : Obligations.EveryStepKeepsQueueStateAndChannel := by
  intro s t he
  have kept : WorkKept s t := by
    unfold step at he
    split at he
    · cases he
      exact s.millisecond_workKept
    · rename_i i rest _
      have waits : WorkKept s (s.setPending rest) := .of_bare rfl
      obtain ⟨u, hu, k⟩ := exec_workKept i (s.setPending rest)
      cases hu.symm.trans he
      exact waits.trans k
  refine ⟨kept.motion, kept.ctl, fun h => ?_⟩
  obtain ⟨list, served⟩ := s.channelOk_iff.1 h
  exact t.channelOk_iff.2 ⟨kept.chan.sound list, kept.chan.served served⟩

end Sys2Proof.Machine
end

section
/-! PROOF. O54: STORE_PRESET, ERASE_PRESET, READ_PRESET and READ_MOTION. -/

namespace Sys2Proof.Machine

/-! ### STORE_PRESET as its owner takes it (R165) -/

theorem indexOrNone_beyond {n : Nat} {b : Byte} (h : n ≤ b.toNat) (other : b ≠ 0xFF) : indexOrNone n b = none := by
  rw [indexOrNone, if_neg other, index_of_le h]
  rfl

/-- FFh names none of the things, and what lies below their number names one of them (R178). -/
theorem indexOrNone_of_names {n : Nat} {b : Byte} {g : Option (Fin n)} (few : n ≤ 255)
    (h : g = none ∧ b = 0xFF ∨ ∃ m, g = some m ∧ b.toNat = m.val) : indexOrNone n b = some g := by
  rcases h with ⟨rfl, rfl⟩ | ⟨m, rfl, hm⟩
  · exact if_pos rfl
  · have other : b ≠ 0xFF := fun k => by
      have : b.toNat = 255 := congrArg BitVec.toNat k
      omega
    rw [indexOrNone, if_neg other, index_of_eq m hm]
    rfl

theorem PresetMode.ofCode_beyond {b : Byte} (h : 2 ≤ b.toNat) : PresetMode.ofCode b = none := by
  unfold PresetMode.ofCode
  split <;> first | omega | rfl

theorem storePreset_refused {b mode slot : Byte} (h : 12 ≤ b.toNat ∨ 2 ≤ mode.toNat ∨ 4 ≤ slot.toNat ∧ slot ≠ 0xFF)
    (hTarget vTarget : BitVec 16) (blank : Byte) (s : State) :
    storePreset b mode hTarget vTarget slot blank s = answer .refusedRange s := by
  unfold storePreset
  rcases h with preset | mode | ⟨slot, other⟩
  · rw [index_of_le preset]
  · rw [PresetMode.ofCode_beyond mode]
    split <;> trivial
  · rw [indexOrNone_beyond slot other]
    split <;> trivial

theorem Axis.ready_iff (x : Axis) : x.ready = true ↔ x.homed = true ∧ x.state = .idle := by simp [Axis.ready]

/-- The positions are stored of two axes that are homed and IDLE, and of no others (R165). -/
theorem storeCurrent_eq (n : Fin 12) (slot : Option (Fin 4)) (blank : Bool) (s : State) :
    (s.axisH.homed = true → s.axisV.homed = true → s.axisH.state = .idle → s.axisV.state = .idle →
      storeCurrent n slot blank s = (s.setPreset n ⟨true, s.axisH.position, s.axisV.position, slot, blank⟩, .ok)) ∧
    (s.axisH.homed = false ∨ s.axisV.homed = false ∨ s.axisH.state ≠ .idle ∨ s.axisV.state ≠ .idle →
      storeCurrent n slot blank s = answer .refusedState s) := by
  have ready : (s.axisH.ready && s.axisV.ready) = true ↔
      (s.axisH.homed = true ∧ s.axisH.state = .idle) ∧ s.axisV.homed = true ∧ s.axisV.state = .idle := by
    rw [Bool.and_eq_true, Axis.ready_iff, Axis.ready_iff]
  refine ⟨fun hHomed vHomed hIdle vIdle => if_pos (ready.2 ⟨⟨hHomed, hIdle⟩, vHomed, vIdle⟩), fun h => if_neg fun k => ?_⟩
  obtain ⟨⟨hHomed, hIdle⟩, vHomed, vIdle⟩ := ready.1 k
  rcases h with h | h | h | h
  · cases hHomed.symm.trans h
  · cases vHomed.symm.trans h
  · exact h hIdle
  · exact h vIdle

section

variable {b mode slot : Byte} {n : Fin 12} {g : Option (Fin 4)} (preset : index 12 b = some n) (grid : indexOrNone 4 slot = some g)
  (hTarget vTarget : BitVec 16) (blank : Byte) (s : State)
include preset grid

theorem storePreset_explicit :
    storePreset b 0 hTarget vTarget slot blank s = storeExplicit n hTarget.toNat vTarget.toNat g (yes blank) s := by
  rw [storePreset, preset, grid]
  rfl

theorem storePreset_current : storePreset b 1 hTarget vTarget slot blank s = storeCurrent n g (yes blank) s := by
  rw [storePreset, preset, grid]
  rfl

end

/-! ### ERASE_PRESET and READ_PRESET as their owner takes them (R166) -/

theorem presetCommands_beyond {b : Byte} (h : 12 ≤ b.toNat) (s : State) :
    erasePreset b s = answer .refusedRange s ∧ readPreset b s = answer .refusedRange s := by
  rw [erasePreset, readPreset, index_of_le h]
  exact ⟨rfl, rfl⟩

theorem presetCommands_named {b : Byte} {n : Fin 12} (h : b.toNat = n.val) (s : State) :
    erasePreset b s = (s.setPreset n { s.motion.presets[n] with valid := false }, .ok) ∧
    readPreset b s = (s, .okWith (s.motion.presets[n]).bytes) := by
  rw [erasePreset, readPreset, index_of_eq n h]
  exact ⟨rfl, rfl⟩

theorem Preset.bytes_eq (p : Preset) : p.bytes = [if p.valid then 1 else 0] ++ be16 p.hTarget ++ be16 p.vTarget ++
    [match p.slot with
      | none => 0xFF
      | some m => BitVec.ofNat 8 m.val, if p.blank then 1 else 0] := by
  rw [Preset.bytes, flagByte_eq, flagByte_eq]
  cases p.slot <;> rfl

/-! ### READ_MOTION (R164, R183) -/

theorem readMotion_beyond {b : Byte} (h : 8 ≤ b.toNat) (page : Fin 2) (s : State) : readMotion b page s = answer .refusedRange s :=
  if_neg (Nat.not_lt.2 h)

theorem readMotion_page {b : Byte} (h : b.toNat < 8) (page : Fin 2) (s : State) :
    readMotion b page s = (s, .okWith (page8 (s.motion.page b.toNat page))) := if_pos h

/-- Settles O54: the three preset commands by the fields that name a preset, a mode and a slot, READ_MOTION page by page. -/
theorem presetAndReadMotionCommands : Obligations.PresetAndReadMotionCommands := by
  intro s tag b mode slot blank h v takes
  have refused {run : Owner} {r : Result} (hr : run s.countTaken = answer r s.countTaken) :
      Host.Outcome.next (s.takePacket tag run) = (.next (s.onlyAnswered tag r []) : Out) :=
    congrArg _ (State.takePacket_answer takes tag hr)
  have told {run : Owner} {data : List Byte} (hr : run s.countTaken = (s.countTaken, .okWith data)) :
      Host.Outcome.next (s.takePacket tag run) = (.next (s.onlyAnswered tag .ok data) : Out) :=
    congrArg _ (State.takePacket_same takes tag hr)
  have stored {run : Owner} {t : State} {r : Reply} (hr : run s.countTaken = (t, r)) :
      Host.Outcome.next (s.takePacket tag run) = (.next (t.addEntry tag r) : Out) :=
    congrArg _ (State.takePacket_work takes tag hr)
  refine ⟨fun beyond => refused (storePreset_refused beyond h v blank _), fun beyond => ?_,
    fun beyond page => refused (readMotion_beyond beyond page _), fun n hn => ?_, fun few => ?_⟩
  · obtain ⟨erase, read⟩ := presetCommands_beyond beyond s.countTaken
    exact ⟨refused erase, refused read⟩
  · have preset := index_of_eq n hn
    obtain ⟨erase, read⟩ := presetCommands_named hn s.countTaken
    rw [Preset.bytes_eq] at read
    refine ⟨fun g hg => ?_, stored erase, told read⟩
    have grid := indexOrNone_of_names (by decide) hg
    obtain ⟨positions, notReady⟩ := storeCurrent_eq n g (yes blank) s.countTaken
    refine ⟨?_, ?_, ?_⟩
    · rintro rfl
      exact stored (storePreset_explicit preset grid h v blank _)
    · rintro rfl hHomed vHomed hIdle vIdle
      exact stored ((storePreset_current preset grid h v blank _).trans (positions hHomed vHomed hIdle vIdle))
    · rintro rfl rests
      exact refused ((storePreset_current preset grid h v blank _).trans (notReady rests))
  · have page (p : Fin 2) {data : List Byte} (hp : page8 (s.motion.page b.toNat p) = data) :
        exec (.readMotion tag b p) s = .next (s.onlyAnswered tag .ok data) :=
      hp ▸ told (readMotion_page few p s.countTaken)
    refine ⟨fun none => page 0 ?_, fun e he => page 0 ?_, fun idle => page 1 ?_, fun x hx => page 1 ?_⟩
    · rw [Motion.page, none]
      rfl
    · rw [Motion.page, he]
      rfl
    · rw [Motion.page, idle]
      rfl
    · rw [Motion.page, hx]
      rfl

end Sys2Proof.Machine
end

section
/-! PROOF. O49: a MOVE_AXIS or a STEP_AXIS that an idle queue starts at once. -/

namespace Sys2Proof.Machine

/-! ### Requests that move one axis (R151, R154) -/

/-- A job that moves axis `a` alone to a target formed in state `s`, brought into range or not (R154). -/
structure Job.MovesAlone (j : Job) (s : State) (a : AxisId) (target : Nat) (outside : Bool) : Prop where
  involves : ∀ b, j.involves b = decide (b = a)
  moves : j.isHome = false
  target : ∀ b, j.targetFor s b = target
  clamped : j.stepClamped s = outside
  takeHold : ∀ t : State, t.takeHold j = t
  plain : ∀ index copy, j ≠ .recall index copy

theorem Job.movesAlone_moveAxis (s : State) (a : AxisId) (target : Nat) : (Job.moveAxis a target).MovesAlone s a target false :=
  ⟨fun _ => rfl, rfl, fun _ => rfl, rfl, fun _ => rfl, nofun⟩

theorem not_within (lo hi x : Int) : (!within lo hi x) = decide (x < lo ∨ hi < x) := by
  rw [within, ← Bool.decide_and, ← decide_not, decide_eq_decide]
  omega

theorem Job.movesAlone_stepAxis {s : State} {a : AxisId} {delta : Int} {target : Nat} {outside : Bool}
    (formed : (target : Int) = max 0 (min ((s.axis a).position + delta) 65535))
    (mark : outside = decide ((s.axis a).position + delta < 0 ∨ 65535 < (s.axis a).position + delta)) :
    (Job.stepAxis a delta).MovesAlone s a target outside := by
  refine ⟨fun _ => rfl, rfl, fun _ => ?_, ?_, fun _ => rfl, nofun⟩
  · rw [Job.targetFor, clampInt, ← formed, Int.toNat_natCast]
  · rw [mark]
    exact not_within 0 65535 _

/-- The executing request that such a job becomes, with its axis's work so far. -/
def Executing.ofMove (tag : Byte) (j : Job) (a : AxisId) (target : Nat) (clamped : Bool) (work : Work) (phase : Phase) : Executing :=
  { req := { tag := tag, job := j, phase := phase, clamped := clamped, stopReq := false }
    hWork := if a = .h then work else .unused, vWork := if a = .v then work else .unused
    hTarget := target, vTarget := target, inSequence := false }

theorem Executing.ofMove_work (tag : Byte) (j : Job) (a : AxisId) (target : Nat) (clamped : Bool) (work : Work) (phase : Phase) :
    (ofMove tag j a target clamped work phase).work a = work ∧
    (ofMove tag j a target clamped work phase).work (otherAxis a) = .unused ∧
    (ofMove tag j a target clamped work phase).target a = target := by
  cases a <;> exact ⟨rfl, rfl, rfl⟩

/-- An axis that is owed no work is handed none. -/
theorem State.handIdle_of_not_owed {s : State} {x : Executing} {a : AxisId} (executing : s.motion.executing = some x)
    (settled : x.work a ≠ .owed) : s.handIdle a = s := by
  rw [State.handIdle, executing]
  exact if_neg fun ⟨owed, _⟩ => settled owed

/-- A request that an end-stop ends at its start, with no hold taken, leaves its history entry behind (R135, R157, R164). -/
theorem State.stoppedAtStart_fresh {s : State} (idle : s.motion.executing = none) (free : s.motion.blankHold = false)
    (x y z : Executing) {a : AxisId} {stopped : Axis} (stands : stopped.position = (s.axis a).position) :
    (((s.setExecuting (some x)).resume y).setAxis a stopped).stoppedAtStart z = { s.setAxis a stopped with
      motion := { s.motion with railTimer := none, history := s.putFirst .endstop s.motion.history z.req }
      chan := (s.chan.raise .endstop).raise .motionDone } := by
  let t := ((s.setExecuting (some x)).resume y).setAxis a stopped
  have held : t.motion.blankHold = false := by cases a <;> exact free
  have first : t.putFirst .endstop = s.putFirst .endstop := by
    cases a with
    | h => exact State.putFirst_congr (s := s) (t := t) stands rfl _
    | v => exact State.putFirst_congr (s := s) (t := t) rfl stands _
  rw [State.stoppedAtStart, held, if_neg Bool.false_ne_true, first, ← Motion.ended_eq idle free]
  cases a <;> rfl

namespace Job.MovesAlone

variable {s : State} {j : Job} {a : AxisId} {target : Nat} {outside : Bool} (m : j.MovesAlone s a target outside) (tag : Byte)
include m

theorem executingOf : s.executingOf (.fresh tag j) = .ofMove tag j a target outside .owed .running := by
  have mark : (false || j.stepClamped s) = outside := m.clamped
  simp only [State.executingOf, Request.fresh, m.involves, m.target, mark, Executing.ofMove, decide_eq_true_eq, eq_comm (a := a)]

theorem needsHoming : j.needsHoming s = !(s.axis a).homed := by
  rw [Job.needsHoming, m.moves, m.involves, m.involves]
  cases a <;> simp [State.axis]

/-- A move of an unhomed axis ends NOT_HOMED (R154). -/
theorem startRequest_notHomed (unhomed : (s.axis a).homed = false) : s.startRequest (.fresh tag j) =
    (s.setExecuting (some (.ofMove tag j a target outside .owed .running))).endRequest .notHomed := by
  have needs : (Request.fresh tag j).job.needsHoming s = true := by
    rw [show (Request.fresh tag j).job = j from rfl, m.needsHoming, unhomed]
    rfl
  rw [State.startRequest, m.executingOf, needs, if_pos rfl]

/-- A move of a homed axis: its axis is handed a move that needs no leg, and the request goes on (R154, R155). -/
theorem startRequest_homed (homed : (s.axis a).homed = true) : s.startRequest (.fresh tag j) =
    (s.setExecuting (some (s.finishIdle (.ofMove tag j a target outside .owed .running) a))).carryOn carryFuel := by
  let x : Executing := .ofMove tag j a target outside .owed .running
  have needs : (Request.fresh tag j).job.needsHoming s = false := by
    rw [show (Request.fresh tag j).job = j from rfl, m.needsHoming, homed]
    rfl
  have handed : ((s.setExecuting (some x)).handIdle .h).handIdle .v = s.setExecuting (some (s.finishIdle x a)) := by
    cases a with
    | h =>
      obtain ⟨-, other⟩ := s.finishIdle_frame x .h
      have unused : (s.finishIdle x .h).work .v = .unused := other
      rw [State.handIdle_eq (a := .h) (x := x) rfl m.moves rfl]
      exact State.handIdle_of_not_owed (a := .v) (x := s.finishIdle x .h) rfl (by rw [unused]; exact nofun)
    | v =>
      rw [State.handIdle_of_not_owed (a := .h) (x := x) rfl nofun]
      exact State.handIdle_eq (a := .v) rfl m.moves rfl
  rw [State.startRequest, m.executingOf, needs, if_neg Bool.false_ne_true,
    show (Request.fresh tag j).job = j from rfl, m.takeHold, handed]

/-- A move to the position that its axis stands at is complete at once (R154, R157). -/
theorem startRequest_there (homed : (s.axis a).homed = true) (there : (s.axis a).needsLeg target = false) :
    s.startRequest (.fresh tag j) =
      (s.setExecuting (some (.ofMove tag j a target (outside || decide ((s.axis a).limit < target)) .finished .running))).endRequest
        (if outside = true ∨ (s.axis a).limit < target then .completedClamped else .completed) := by
  let x : Executing := .ofMove tag j a target (outside || decide ((s.axis a).limit < target)) .finished .running
  have finished : s.finishIdle (.ofMove tag j a target outside .owed .running) a = x := by
    have target_a := (Executing.ofMove_work tag j a target outside .owed .running).2.2
    rw [State.finishIdle, target_a, there, if_neg Bool.false_ne_true]
    cases a <;> rfl
  have done : x.allFinished = true := by cases a <;> rfl
  have completed : x.req.completion = if outside = true ∨ (s.axis a).limit < target then .completedClamped else .completed := by
    simp only [Request.completion, x, Executing.ofMove, Bool.or_eq_true, decide_eq_true_eq]
  have work : (s.setExecuting (some x)).HasWork x := ⟨rfl, rfl, nofun⟩
  have ends : (s.setExecuting (some x)).finishWork x = (s.setExecuting (some x)).endRequest x.req.completion :=
    (State.finishWork_ends rfl fun index copy k => absurd k (m.plain index copy)).trans (State.endRequest_eq rfl _).symm
  rw [m.startRequest_homed tag homed, finished, carryFuel, work.carryOn_finished done, ends, completed]

/-! ### A move with a leg to go (R136, R139, R155) -/

section

variable (homed : (s.axis a).homed = true) (needs : (s.axis a).needsLeg target = true) (idle : ∀ b, (s.axis b).state = .idle)
  {x : Executing} (hx : x = .ofMove tag j a target outside .owed .running)
include hx

theorem hasStarted (idle : ∀ b, (s.axis b).state = .idle) : (s.setExecuting (some x)).HasStarted x := by
  subst hx
  exact ⟨rfl, rfl, rfl, m.moves, rfl, idle⟩

/-- The rail judges the axis alone (R155). -/
theorem judged (idle : ∀ b, (s.axis b).state = .idle) : (s.setExecuting (some x)).judgeRail x =
    if s.fanDraw + (s.axis a).current ≤ s.ctl.budget then (s.setExecuting (some x)).startOne x a
    else ((s.setExecuting (some x)).holdStart x, .quiet, .quiet) := by
  obtain ⟨owed, other, -⟩ := Executing.ofMove_work tag j a target outside .owed .running
  rw [← hx] at owed other
  exact (m.hasStarted tag hx idle).judgeRail_alone owed (other ▸ nofun)

include homed needs

theorem startRequest_away : s.startRequest (.fresh tag j) = (s.setExecuting (some x)).carryOn carryFuel := by
  have owes : s.finishIdle x a = x := by
    rw [State.finishIdle, hx, (Executing.ofMove_work tag j a target outside .owed .running).2.2, needs, if_pos rfl]
  rw [m.startRequest_homed tag homed, ← hx, owes]

include idle

/-- The rail does not carry the axis: the request waits (R155). -/
theorem startRequest_waits (above : s.ctl.budget < s.fanDraw + (s.axis a).current) : s.startRequest (.fresh tag j) =
    s.setMotion { s.motion with executing := some (x.setPhase .waitRail), railTimer := some 10000 } := by
  have left : x.allFinished = false := by rw [hx]; cases a <;> rfl
  have judged := (m.judged tag hx idle).trans (if_neg (Nat.not_le.2 above))
  rw [m.startRequest_away tag homed needs hx]
  exact (m.hasStarted tag hx idle).carryOn_holdStart left judged 7

/-- The rail carries the axis: its first leg stands, or an end-stop ends the request as it starts (R135, R155, R157). -/
theorem startRequest_starts (fits : s.fanDraw + (s.axis a).current ≤ s.ctl.budget) : s.startRequest (.fresh tag j) =
    if (s.axis a).anyActive then
      ((s.setExecuting (some x)).oneStarted x a).stoppedAtStart ((x.setWork a .active).setPhase .running)
    else (s.setExecuting (some x)).oneStarted x a := by
  obtain ⟨owed, other, goal⟩ := Executing.ofMove_work tag j a target outside .owed .running
  rw [← hx] at owed other goal
  have left : x.allFinished = false := by rw [hx]; cases a <;> rfl
  have judged := (m.judged tag hx idle).trans (if_pos fits)
  have moves : x.req.job.isHome = false := by rw [hx]; exact m.moves
  have leg : ((s.setExecuting (some x)).axis a).needsLeg (x.target a) = true := by
    rw [goal]
    cases a <;> exact needs
  rw [m.startRequest_away tag homed needs hx]
  have started := (m.hasStarted tag hx idle).carryOn_startOne left 7 judged moves owed (other ▸ nofun) leg
  cases a <;> exact started

omit hx

/-- No end-stop is active: the first leg stands (R136, R139). -/
theorem startRequest_moves (fits : s.fanDraw + (s.axis a).current ≤ s.ctl.budget) (clear : (s.axis a).anyActive = false) :
    s.startRequest (.fresh tag j) = { s.setAxis a ((s.axis a).granted (s.approachOf a) target) with
      motion := { s.motion with executing := some (.ofMove tag j a target outside .active .running), railTimer := none } } := by
  let x : Executing := .ofMove tag j a target outside .owed .running
  have goal : x.target a = target := (Executing.ofMove_work tag j a target outside .owed .running).2.2
  have begun : s.startOf x a = ((s.axis a).granted (s.approachOf a) target, .quiet) := by
    rcases State.startOf_cases (s := s) (x := x) (goal.symm ▸ needs) with ⟨-, e⟩ | ⟨stops, -⟩
    · rw [e, goal]
    · cases clear.symm.trans stops
  have started : (s.setExecuting (some x)).startOf x a = s.startOf x a := by cases a <;> rfl
  rw [m.startRequest_starts tag homed needs idle rfl fits, clear, if_neg Bool.false_ne_true, State.oneStarted, started, begun]
  cases a <;> rfl

/-- An end-stop is active: it ends the request as it starts (R135, R144, R157). -/
theorem startRequest_endstop (executing : s.motion.executing = none) (free : s.motion.blankHold = false)
    (fits : s.fanDraw + (s.axis a).current ≤ s.ctl.budget) (stops : (s.axis a).anyActive = true) :
    s.startRequest (.fresh tag j) = { s.setAxis a ((s.axis a).granted (s.approachOf a) target).abrupt with
      motion := { s.motion with
        railTimer := none
        history := (⟨tag, j.kind, .endstop, s.axisH.position, s.axisV.position⟩ :: s.motion.history).take 8 }
      chan := (s.chan.raise .endstop).raise .motionDone } := by
  let x : Executing := .ofMove tag j a target outside .owed .running
  have goal : x.target a = target := (Executing.ofMove_work tag j a target outside .owed .running).2.2
  have begun : (s.startOf x a).1 = ((s.axis a).granted (s.approachOf a) target).abrupt := by
    rcases State.startOf_cases (s := s) (x := x) (goal.symm ▸ needs) with ⟨clear, -⟩ | ⟨-, side, e⟩
    · cases clear.symm.trans stops
    · rw [e, goal]
  have started : (s.setExecuting (some x)).startOf x a = s.startOf x a := by cases a <;> rfl
  have stands : ((s.axis a).granted (s.approachOf a) target).abrupt.position = (s.axis a).position := rfl
  rw [m.startRequest_starts tag homed needs idle rfl fits, if_pos stops, State.oneStarted, started, begun,
    State.stoppedAtStart_fresh executing free _ _ _ stands]
  cases a <;> rfl

end

end Job.MovesAlone

/-! ### The packets, and what they come to -/

/-- A MOVE_AXIS or a STEP_AXIS that an idle queue takes starts at once (R152, R153). -/
theorem exec_startAlone {s : State} (takes : s.takes) (queue : s.motion.queue = []) (start : s.mayStart = true) {tag b : Byte}
    {a : AxisId} {carried : BitVec 16} {delta : BitVec 24} {c : Instr} {j : Job} (hb : b.toNat = if a = .h then 0 else 1)
    (command : c = .moveAxis tag b carried ∧ j = .moveAxis a carried.toNat ∨
      c = .stepAxis tag b delta ∧ -65535 ≤ delta.toInt ∧ delta.toInt ≤ 65535 ∧ j = .stepAxis a delta.toInt) :
    exec c s = .next ((s.startRequest (.fresh tag j)).besides s.motion.queue (s.chan.taken + 1)
      (s.chan.entries ++ [{ tag := tag, reply := { result := .queued, data := [1] } }])) := by
  have axis := AxisId.ofCode_of_eq hb
  rcases command with ⟨rfl, rfl⟩ | ⟨rfl, low, high, rfl⟩
  · have owner : moveAxis tag b carried s.countTaken = enqueue tag (.moveAxis a carried.toNat) s.countTaken := by rw [moveAxis, axis]
    exact congrArg _ (s.takePacket_enqueue takes queue start tag _ owner)
  · have inRange : within (-65535) 65535 delta.toInt = true := by simp [within, low, high]
    have owner : stepAxis tag b delta s.countTaken = enqueue tag (.stepAxis a delta.toInt) s.countTaken := by
      rw [stepAxis, axis]
      exact if_pos inRange
    exact congrArg _ (s.takePacket_enqueue takes queue start tag _ owner)

/-- Settles O49: the packet starts the request at once (`exec_startAlone`), and it ends, waits or starts its leg as its axis
stands to its goal, to the rail and to its end-stops. -/
theorem moveAndStepAxisStartAtOnce : Obligations.MoveAndStepAxisStartAtOnce := by
  intro s tag b carried delta c job target outside a x y approach owed goal firstEnd draw result phase work e takes op queue executing
    free hIdle vIdle hb hx command hgoal hdraw
  subst hx
  have idle (b : AxisId) : (s.axis b).state = .idle := by
    cases b
    exacts [hIdle, vIdle]
  obtain rfl : draw = s.fanDraw := hdraw.trans s.fanDraw_eq.symm
  have moves : job.MovesAlone s a target outside := by
    rcases command with ⟨-, rfl, rfl, rfl⟩ | ⟨-, -, -, rfl, formed, mark⟩
    · exact Job.movesAlone_moveAxis s a _
    · exact Job.movesAlone_stepAxis formed mark
  have run := exec_startAlone takes queue (State.mayStart_of_idle op executing hIdle vIdle) hb
    (command.imp (fun ⟨hc, hj, _⟩ => ⟨hc, hj⟩) fun ⟨hc, low, high, hj, _⟩ => ⟨hc, low, high, hj⟩)
  have needs : (s.axis a).needsLeg target = decide (goal ≠ (s.axis a).position) := by rw [Axis.needsLeg, Axis.clampTarget, ← hgoal]
  refine ⟨fun ends hresult => ?_, fun homed away he => ⟨fun above hphase hwork => ?_, fun fits hphase hwork happ howed hfirst hy =>
    ⟨fun low high => ?_, fun stops => ?_⟩⟩⟩
  · cases homed : (s.axis a).homed with
    | false =>
      rw [run, moves.startRequest_notHomed tag homed, State.endRequest_fresh executing free, hresult, if_pos homed]
      rfl
    | true =>
      have there : goal = (s.axis a).position := ends.resolve_left fun k => nomatch homed.symm.trans k
      rw [run, moves.startRequest_there tag homed (needs.trans (decide_eq_false (not_not.2 there))),
        State.endRequest_fresh executing free, hresult, homed, if_neg (by decide : ¬true = false)]
      rfl
  · subst he hphase hwork
    rw [run, moves.startRequest_waits tag homed (needs.trans (decide_eq_true away)) idle rfl above]
    rfl
  all_goals
    subst he hphase hwork
    have leg : (s.axis a).needsLeg target = true := needs.trans (decide_eq_true away)
    have granted : (s.axis a).granted (s.approachOf a) target = y := by
      have toward : s.approachOf a = approach := by rw [happ]; cases a <;> rfl
      rw [toward, hy]
      exact Axis.granted_eq hgoal away howed hfirst
  · have clear : (s.axis a).anyActive = false := by
      rw [← Bool.not_eq_true, Axis.anyActive_iff]
      rintro (⟨enabled, active⟩ | ⟨enabled, active⟩)
      · exact low.elim (fun k => nomatch k.symm.trans enabled) active
      · exact high.elim (fun k => nomatch k.symm.trans enabled) active
    rw [run, moves.startRequest_moves tag homed leg idle fits clear, granted]
    cases a <;> rfl
  · have flags : ((s.chan.raise .endstop).raise .motionDone).flags = s.chan.flags ||| 0x00C := BitVec.or_assoc ..
    rw [run, moves.startRequest_endstop tag homed leg idle executing free fits ((s.axis a).anyActive_iff.2 stops), granted, ← flags]
    cases a <;> rfl

end Sys2Proof.Machine
end

section
/-! PROOF. O52: STOP_MOTION and the rail wait timer's expiry: what they leave of the executing request, of its axes and of the
queue. -/

namespace Sys2Proof.Machine

/-! ### Stop requests (R145, R146, R162) -/

/-- A stop request leaves one axis of what it finds. -/
theorem Axis.StopRequestedTo.eq {x y : Axis} (h : x.StopRequestedTo y) : y = x.stoppedAside := by
  obtain ⟨rests, moves, homes, waits⟩ := h
  obtain ⟨rests', moves', homes', waits'⟩ := x.stoppedAside_cases
  cases hs : x.state with
  | off | idle | stopping => exact (rests (by simp [hs])).trans (rests' (by simp [hs])).symm
  | moving => exact (moves (.inl hs)).trans (moves' (.inl hs)).symm
  | seek => exact (homes .negative (.inl ⟨hs, rfl⟩)).trans (homes' .negative (.inl ⟨hs, rfl⟩)).symm
  | release => exact (homes .positive (.inr ⟨hs, rfl⟩)).trans (homes' .positive (.inr ⟨hs, rfl⟩)).symm
  | approach =>
    by_cases hl : x.leg = none
    · exact (waits hs hl).trans (waits' hs hl).symm
    · exact (moves (.inr ⟨hs, hl⟩)).trans (moves' (.inr ⟨hs, hl⟩)).symm

/-- An axis that waits in APPROACH hands back at once that it has stopped; any other hands back nothing yet (R145, R146). -/
theorem Axis.stopRequest_event (x : Axis) : x.stopRequest.2 = if x.waits then .outcome .stopped else .quiet := by
  cases hs : x.state with
  | approach => cases hl : x.leg <;> simp [Axis.stopRequest, Axis.waits, hs, hl]
  | off | idle | moving | seek | release | stopping => simp [Axis.stopRequest, Axis.waits, hs]

/-- After a stop request an axis is busy just where it was in motion. -/
theorem Axis.stoppedAside_busy (x : Axis) : x.stoppedAside.busy = x.inMotion := by
  cases hs : x.state with
  | approach =>
    cases hl : x.leg <;>
      simp [Axis.stoppedAside, Axis.busy, Axis.inMotion, Axis.waits, Axis.stopRequest, Axis.stand, hs, hl]
  | off | idle | moving | seek | release | stopping =>
    simp [Axis.stoppedAside, Axis.busy, Axis.inMotion, Axis.waits, Axis.stopRequest, Axis.stopFromHoming, hs]

theorem Axis.waits_of_inMotion {x : Axis} (h : x.inMotion = true) : x.waits = false := by
  cases hs : x.state with
  | approach => cases hl : x.leg <;> simp_all [Axis.inMotion, Axis.waits]
  | off | idle | moving | seek | release | stopping => simp [Axis.waits, hs]

/-- An axis's work once a stop request has reached it: over, where the axis waited in APPROACH (R146). -/
def Work.afterStop (w : Work) (waits : Bool) : Work := if w = .active ∧ waits = true then .finished else w

theorem Work.afterStop_false (w : Work) : w.afterStop false = w := if_neg fun k => nomatch k.2

theorem Work.afterStop_of_not_active {w : Work} (h : w ≠ .active) (waits : Bool) : w.afterStop waits = w := if_neg fun k => h k.1

theorem State.setAxis_self (s : State) (a : AxisId) : s.setAxis a (s.axis a) = s := by cases a <;> rfl

theorem Executing.setWork_self (x : Executing) (a : AxisId) : x.setWork a (x.work a) = x := by cases a <;> rfl

/-- The executing request's axis as STOP_MOTION leaves it, and its work (R145, R146, R162). -/
theorem State.stopActive_eq {s : State} {x : Executing} (hx : s.motion.executing = some x) (a : AxisId) :
    s.stopActive a = (s.setAxis a (if x.work a = .active then (s.axis a).stoppedAside else s.axis a)).setExecuting
      (some (x.setWork a ((x.work a).afterStop (s.axis a).waits))) := by
  have placed (y : Axis) : (s.setAxis a y).setExecuting (some x) = s.setAxis a y := by cases a <;> rw [← hx] <;> rfl
  rw [State.stopActive, hx]
  dsimp only
  by_cases active : x.work a = .active
  · rw [if_pos active]
    by_cases busy : (s.axis a).busy = true
    · have aside : (s.axis a).stoppedAside = (s.axis a).stopRequest.1 := if_pos busy
      rw [if_pos ⟨active, busy⟩, Axis.stopRequest_event, aside]
      cases waits : (s.axis a).waits with
      | true =>
        have running : (s.setAxis a (s.axis a).stopRequest.1).motion.executing = some x := by cases a <;> exact hx
        have rested : (x.work a).afterStop true = .finished := if_pos ⟨active, rfl⟩
        rw [rested]
        exact State.takeEvent_stopped running active
      | false =>
        rw [Work.afterStop_false, x.setWork_self, placed]
        rfl
    · have aside : (s.axis a).stoppedAside = s.axis a := if_neg busy
      have rests : (s.axis a).waits = false := (Bool.or_eq_false_iff.1 (Bool.eq_false_iff.2 busy)).2
      rw [if_neg fun k => busy k.2, aside, rests, Work.afterStop_false, x.setWork_self, placed, s.setAxis_self]
  · rw [if_neg fun k => active k.1, if_neg active, Work.afterStop_of_not_active active, x.setWork_self, placed, s.setAxis_self]

/-- The executing request under STOP_MOTION: marked, and its work over on an axis that waited (R162). -/
def Executing.stopAsked (x : Executing) (s : State) : Executing :=
  { x with
    req := { x.req with stopReq := true }
    hWork := x.hWork.afterStop s.axisH.waits, vWork := x.vWork.afterStop s.axisV.waits }

/-- The part once the stop requests of STOP_MOTION have reached the axes (R162). -/
def State.stopSent (s : State) (x : Executing) : State :=
  { s with
    axisH := if x.hWork = .active then s.axisH.stoppedAside else s.axisH
    axisV := if x.vWork = .active then s.axisV.stoppedAside else s.axisV
    motion := { s.motion with executing := some (x.stopAsked s) } }

theorem State.stopActive_both {s : State} {x : Executing} :
    ((s.setExecuting (some { x with req := { x.req with stopReq := true } })).stopActive .h).stopActive .v = s.stopSent x := by
  rw [State.stopActive_eq (x := { x with req := { x.req with stopReq := true } }) rfl .h]
  exact State.stopActive_eq (x := { x with
    req := { x.req with stopReq := true }, hWork := x.hWork.afterStop s.axisH.waits }) rfl .v

theorem Work.afterStop_active {w : Work} {waits : Bool} : w.afterStop waits = .active ↔ w = .active ∧ waits = false := by
  unfold Work.afterStop
  cases waits <;> cases w <;> simp

/-- A request under STOP_MOTION waits for its axes just where one of them was in motion (R162). -/
theorem State.stopSent_stillStopping (s : State) (x : Executing) : (s.stopSent x).stillStopping (x.stopAsked s) = true ↔
    ∃ a, x.work a = .active ∧ (s.axis a).inMotion = true := by
  have one {w : Work} (y : Axis) : (w.afterStop y.waits = .active ∧ (if w = .active then y.stoppedAside else y).busy = true) ↔
      w = .active ∧ y.inMotion = true := by
    rw [Work.afterStop_active]
    constructor
    · rintro ⟨⟨active, -⟩, busy⟩
      rw [if_pos active, y.stoppedAside_busy] at busy
      exact ⟨active, busy⟩
    · rintro ⟨active, moves⟩
      rw [if_pos active, y.stoppedAside_busy]
      exact ⟨⟨active, Axis.waits_of_inMotion moves⟩, moves⟩
  have both : (s.stopSent x).stillStopping (x.stopAsked s) = true ↔
      x.hWork = .active ∧ s.axisH.inMotion = true ∨ x.vWork = .active ∧ s.axisV.inMotion = true := by
    simp only [State.stillStopping, Bool.or_eq_true, Bool.and_eq_true, decide_eq_true_eq]
    exact or_congr (one s.axisH) (one s.axisV)
  rw [both]
  constructor
  · rintro (h | v)
    exacts [⟨.h, h⟩, ⟨.v, v⟩]
  · rintro ⟨_ | _, h⟩
    exacts [.inl h, .inr h]

/-! ### STOP_MOTION on the executing request and on the queue (R157, R162, R164) -/

section

variable {s : State} {x : Executing} (hx : s.motion.executing = some x)
include hx

/-- A recall in SWITCHING ends at once, with its own choice withdrawn (R17, R162). -/
theorem State.stopExecuting_switching (phase : x.req.phase = .switching) :
    s.stopExecuting = (s.withdrawIfSwitching x).ended x .stopped := by
  have running : (s.withdrawIfSwitching x).motion.executing = some x := by rw [State.withdrawIfSwitching_eq]; exact hx
  have withdrawn : s.stopExecuting = (s.withdrawIfSwitching x).endRequest .stopped := by
    rw [State.stopExecuting, hx, State.withdrawIfSwitching, if_pos phase]
    exact if_pos phase
  rw [withdrawn]
  exact State.endRequest_eq running .stopped

theorem State.stopExecuting_asked (phase : x.req.phase ≠ .switching) (stop : x.req.stopReq = true) : s.stopExecuting = s := by
  simp only [State.stopExecuting, hx, phase, stop, if_true, if_false]

/-- A request with an axis in motion waits for it; any other ends at once (R162). -/
theorem State.stopExecuting_fresh (phase : x.req.phase ≠ .switching) (goes : x.req.stopReq = false) :
    ((∃ a, x.work a = .active ∧ (s.axis a).inMotion = true) → s.stopExecuting = s.stopSent x) ∧
    ((∀ a, x.work a = .active → (s.axis a).inMotion = false) → s.stopExecuting = (s.stopSent x).ended (x.stopAsked s) .stopped) := by
  have sent : s.stopExecuting = (s.stopSent x).carryOn carryFuel := by
    rw [← State.stopActive_both]
    simp only [State.stopExecuting, hx, phase, goes, if_false, Bool.false_eq_true]
  have judged : (s.stopSent x).carryOn carryFuel = if (s.stopSent x).stillStopping (x.stopAsked s) then s.stopSent x
      else (s.stopSent x).endRequest .stopped := by
    have phase' : (x.stopAsked s).req.phase ≠ .switching := phase
    rw [carryFuel, State.carryOn]
    change (if (x.stopAsked s).req.phase = .switching then _ else if true = true then _ else _) = _
    rw [if_neg phase', if_pos rfl]
  rw [sent, judged]
  refine ⟨fun moves => if_pos ((s.stopSent_stillStopping x).2 moves), fun rests => ?_⟩
  rw [if_neg fun k => ?_]
  · exact State.endRequest_eq rfl .stopped
  · obtain ⟨a, active, moves⟩ := (s.stopSent_stillStopping x).1 k
    cases (rests a active).symm.trans moves

end

/-- A flag that is set twice is set once (R173). -/
theorem ChanState.raise_twice (c : ChanState) (e : EventFlag) : (c.raise e).raise e = c.raise e := by
  simp only [ChanState.raise, BitVec.or_assoc, BitVec.or_self]

/-- The queued records end in order, and MOTION_DONE is set if there was one (R162, R164). -/
theorem State.flushQueue_eq (s : State) (res : MotionResult) : s.flushQueue res = { s with
    motion := { s.motion with queue := [], history := s.motion.queue.foldl (s.putFirst res) s.motion.history }
    chan := if s.motion.queue = [] then s.chan else s.chan.raise .motionDone } := by
  have ends (rs : List Request) (t : State) : t.endAll res rs = { t with
      motion := { t.motion with history := rs.foldl (t.putFirst res) t.motion.history }
      chan := if rs = [] then t.chan else t.chan.raise .motionDone } := by
    induction rs generalizing t with
    | nil => rfl
    | cons r rs ih =>
      rw [State.endAll, ih, if_neg (List.cons_ne_nil r rs)]
      have once : (if rs = [] then (t.record r res).chan else (t.record r res).chan.raise .motionDone) = t.chan.raise .motionDone := by
        split
        · rfl
        · exact t.chan.raise_twice .motionDone
      rw [once]
      rfl
  rw [State.flushQueue, ends]
  rfl

/-- STOP_MOTION flushes the queue after it has dealt with the executing request; nothing is left to start (R162). -/
theorem State.stopMotion_eq (s : State) : s.stopMotion = s.stopExecuting.flushQueue .flushed := by
  rw [State.stopMotion]
  refine State.pump_empty _ ?_
  rw [State.flushQueue_eq]

/-! ### The rail wait timer (R156) -/

/-- The expiry ends a request in WAIT_RAIL and sends its axes a stop request (R156, R157). -/
theorem State.railTimeout_eq {s : State} {x : Executing} (hx : s.motion.executing = some x) (waits : x.req.phase = .waitRail)
    (queue : s.motion.queue = []) : s.railTimeout = { s.ended x .railTimeout with
      axisH := if x.hWork = .active then s.axisH.stoppedAside else s.axisH
      axisV := if x.vWork = .active then s.axisV.stoppedAside else s.axisV } := by
  have ends : s.railTimeout = ((s.ended x .railTimeout).stopRequestAxes x).pump := by
    rw [State.railTimeout, hx]
    dsimp only
    rw [if_pos waits, State.endRequest_eq hx]
    rfl
  rw [ends, State.stopRequestAxes_eq]
  exact State.pump_empty _ queue

end Sys2Proof.Machine
end

section
/-! PROOF. O52: the end of a recall in SWITCHING, and the three statements together. -/

namespace Sys2Proof.Machine

/-! ### The end of a recall in SWITCHING (R17, R160) -/

/-- What the end of the recall `x` in SWITCHING makes of state `s`, the warp engine and the operating state apart. -/
structure State.SwitchEnded (s : State) (x : Executing) (t : State) : Prop where
  done : t.chan.flag .motionDone = true
  motion : t.motion = { s.motion with
    executing := none, railTimer := none, blankHold := false, history := s.putFirst x.req.completion s.motion.history x.req }
  light : s.motion.blankHold = true → s.light.motionHeld = true → t.light.motion = 4095 ∧ t.light.motionHeld = false

namespace State.SwitchEnded

variable {s u t : State} {x : Executing}

/-- The recall ends in a state whose queue, positions and light are as they were. -/
theorem of_ended (motion : u.motion = s.motion) (hPos : u.axisH.position = s.axisH.position)
    (vPos : u.axisV.position = s.axisV.position) (light : u.light = s.light) : s.SwitchEnded x (u.ended x x.req.completion) := by
  refine ⟨ChanState.flag_raise .., ?_, ?_⟩
  · rw [← State.putFirst_congr hPos vPos, ← motion]
    rfl
  · have freed := (u.ended_light (l := (u.ended x x.req.completion).light) rfl).2
    rwa [motion, light] at freed

/-- What comes after the end and leaves the queue, the light and MOTION_DONE alone. -/
theorem after (h : s.SwitchEnded x t) (motion : u.motion = t.motion) (light : u.light = t.light)
    (flags : u.chan.flags = t.chan.flags) : s.SwitchEnded x u := by
  refine ⟨(congrArg (BitVec.getLsbD · EventFlag.motionDone.bit) flags).trans h.done, motion.trans h.motion, ?_⟩
  rw [light]
  exact h.light

end State.SwitchEnded

section

variable {s : State} {x : Executing} (hx : s.motion.executing = some x) (phase : x.req.phase = .switching)
  (queue : s.motion.queue = [])
include hx phase queue

/-- A recall in SWITCHING ends, and with the queue empty nothing follows (R153, R160). -/
theorem State.endSwitching_ended : s.endSwitching = s.ended x x.req.completion := by
  have ends : s.endSwitching = (s.endRequest x.req.completion).pump := by
    rw [State.endSwitching, hx]
    exact if_pos phase
  rw [ends, State.endRequest_eq hx]
  exact State.ended_pump queue _

/-! ### At a frame start (R11, R13, R160) -/

/-- An output frame start latches the pending choice, and ends the recall (R15, R18, R160). -/
theorem State.outputFrameStart_switching (due : s.warp.frameStartDue = true) :
    s.SwitchEnded x s.outputFrameStart ∧ s.outputFrameStart.warp.choice = none ∧
    s.outputFrameStart.warp.active = (match s.warp.choice with
      | none => s.warp.active
      | some k => k.slot) ∧ s.outputFrameStart.motion.executing = none := by
  let u := (s.endOutput false).enterOutput.latch.setStats (s.endOutput false).enterOutput.latch.stats.beginFrame
  have same : u.motion = s.motion ∧ u.axisH = s.axisH ∧ u.axisV = s.axisV ∧ u.light = s.light ∧ u.warp.choice = none ∧
      u.warp.active = match s.warp.choice with
        | none => s.warp.active
        | some k => k.slot := by
    simp only [u, State.latch_eq, State.enterOutput]
    rw [s.endOutput_eq false]
    exact ⟨rfl, rfl, rfl, rfl, rfl, rfl⟩
  obtain ⟨motion, axisH, axisV, light, choice, active⟩ := same
  have ends : s.outputFrameStart = u.ended x x.req.completion := by
    rw [State.outputFrameStart, if_pos due, State.startOutput_eq]
    exact State.endSwitching_ended (motion ▸ hx) phase (motion ▸ queue)
  rw [ends]
  exact ⟨.of_ended motion (congrArg Axis.position axisH) (congrArg Axis.position axisV) light, choice, active, rfl⟩

/-- An input frame start that overtakes a frame ends the recall and leaves its choice pending (R13, R160). -/
theorem State.beginFrame_switching (overtakes : s.warp.overtakes = true) (l : Line) :
    s.SwitchEnded x (s.beginFrame l) ∧ (s.beginFrame l).warp.choice = s.warp.choice ∧ (s.beginFrame l).warp.active = s.warp.active := by
  let u := s.setWarp (s.warp.startFrame l)
  have begun : s.beginFrame l = (u.ended x x.req.completion).formAnswer.rearm := by
    have ends : u.endSwitching = u.ended x x.req.completion := State.endSwitching_ended hx phase queue
    rw [← ends]
    exact congrArg (fun t : State => t.formAnswer.rearm) (if_pos overtakes)
  obtain ⟨c, formed, flags, -⟩ := (u.ended x x.req.completion).formAnswer_frame
  rw [begun, formed]
  have ended : s.SwitchEnded x (u.ended x x.req.completion) := .of_ended rfl rfl rfl rfl
  exact ⟨ended.after rfl rfl flags, rfl, rfl⟩

/-- An input frame start in whose line time an older frame's output frame start falls: that start comes before it, and ends the
recall (R11, R13; notes/assumptions/14.md). -/
theorem State.inputFrameStart_switching (due : (s.setLineTime (s.warp.lineTime + 1)).warp.frameStartDue = true) (l : Line) :
    s.SwitchEnded x (s.inputFrameStart l) ∧ (s.inputFrameStart l).warp.choice = none ∧
    (s.inputFrameStart l).warp.active = (match s.warp.choice with
      | none => s.warp.active
      | some k => k.slot) := by
  obtain ⟨⟨done, motion, light⟩, choice, active, idle⟩ :=
    State.outputFrameStart_switching (s := s.setLineTime (s.warp.lineTime + 1)) hx phase queue due
  have ended : s.SwitchEnded x s.startDueFirst := ⟨done, motion, light⟩
  let u := s.startDueFirst.setWarp (s.startDueFirst.warp.startFrame l)
  have begun : s.inputFrameStart l = u.formAnswer.rearm :=
    s.startDueFirst.beginFrame_eq l fun y hy => nomatch (show none = some y from idle.symm.trans hy)
  obtain ⟨c, formed, flags, -⟩ := u.formAnswer_frame
  rw [begun, formed]
  exact ⟨ended.after rfl rfl flags, choice, active⟩

/-! ### At a silence expiry (R125, R160) -/

/-- The expiry ends the recall, in LIT with the light dark, and leaves its choice pending (R125, R160). -/
theorem State.silenceEnds_switching :
    s.SwitchEnded x s.silenceEnds ∧ s.silenceEnds.warp.choice = s.warp.choice ∧ s.silenceEnds.warp.active = s.warp.active ∧
    (s.ctl.op = .lit → s.silenceEnds.ctl.op = .cooldown ∧ s.silenceEnds.light.lightEn = false) := by
  by_cases lit : s.ctl.op = .lit
  · let w := s.silenceLost.writeOp .cooldown
    let v := w.releaseHold
    obtain ⟨motion, axisH, axisV, warp, -, lightEn⟩ := w.releaseHold_values
    have cooled : s.silenceLost.changeState .cooldown = v := by
      have pumped : s.silenceLost.changeState .cooldown = v.pump := by
        rw [State.changeState, show s.silenceLost.ctl.op = .lit from lit]
        rfl
      rw [pumped]
      exact State.pump_empty v ((congrArg Motion.queue motion).trans queue)
    have ends : s.silenceEnds = v.ended x x.req.completion := by
      rw [s.silenceEnds_eq, if_pos lit, cooled]
      exact State.endSwitching_ended ((congrArg Motion.executing motion).trans hx) phase ((congrArg Motion.queue motion).trans queue)
    have free : v.motion.blankHold = false := congrArg Motion.blankHold motion
    have dark : (v.ended x x.req.completion).light = v.light := by rw [State.ended_of_free free]
    have stands (y : Axis) : (y.enter .cooldown).position = y.position := by
      change y.energise.position = y.position
      unfold Axis.energise
      split <;> rfl
    rw [ends]
    refine ⟨⟨ChanState.flag_raise .., ?_, fun held asked => ?_⟩, congrArg Warp.choice warp, congrArg Warp.active warp, fun _ => ⟨?_, ?_⟩⟩
    · have entries : v.putFirst x.req.completion = s.putFirst x.req.completion :=
        State.putFirst_congr ((congrArg Axis.position axisH).trans (stands s.axisH))
          ((congrArg Axis.position axisV).trans (stands s.axisV)) _
      rw [← entries]
      change ({ v.motion with
        executing := none, railTimer := none, blankHold := false
        history := v.putFirst x.req.completion v.motion.history x.req } : Motion) = _
      rw [show v.motion = _ from motion]
      rfl
    · obtain ⟨-, -, -, motionHeld, -⟩ := Light.reform_limiters { s.light with safety := 0, lightEn := false }
      have released : v.light = w.light.release := congrArg State.light (if_pos held : w.releaseHold = _)
      rw [dark, released]
      exact w.light.release_motion (motionHeld.trans asked)
    · rw [← ends, State.silenceEnds_eq, if_pos lit, (State.endSwitching_frame _).ctl, (State.changeState_frame _ _).2]
    · rw [dark, lightEn]
      exact Light.reform_lightEn _
  · have ends : s.silenceEnds = s.silenceLost.ended x x.req.completion := by
      rw [s.silenceEnds_eq, if_neg lit]
      exact State.endSwitching_ended (s := s.silenceLost) hx phase queue
    rw [ends]
    exact ⟨.of_ended rfl rfl rfl rfl, rfl, rfl, fun k => absurd k lit⟩

end

/-! ### STOP_MOTION as it is taken (R162) -/

/-- A STOP_MOTION that is taken stops what executes, flushes the queue, and answers how many requests that ended (R162). -/
theorem exec_stopMotion {s : State} (takes : s.takes) (tag : Byte) {t : State} {n : Nat} (stopped : s.countTaken.stopMotion = t)
    (ended : s.countTaken.endedAtOnce s.countTaken.stopExecuting = n) :
    exec (.stopMotion tag) s = .next (t.addEntry tag (.okWith (byte n))) := by
  have run : stopMotion s.countTaken = (t, .okWith (byte n)) := by rw [stopMotion, stopped, ended]
  exact congrArg _ (State.takePacket_work takes tag run)

/-- STOP_MOTION that ends nothing of the executing request flushes the queue (R162). -/
theorem exec_stopMotion_flush {s u : State} (takes : s.takes) (tag : Byte) (stopped : s.countTaken.stopExecuting = u)
    (still : s.motion.executing.isSome = u.motion.executing.isSome) :
    exec (.stopMotion tag) s = .next ((u.flushQueue .flushed).addEntry tag (.okWith (byte s.motion.queue.length))) := by
  refine exec_stopMotion takes tag (by rw [State.stopMotion_eq, stopped]) ?_
  have none : ¬ (s.countTaken.motion.executing.isSome = true ∧ u.motion.executing.isNone = true) := by
    rintro ⟨some, gone⟩
    rw [← Option.not_isSome, ← still, show s.motion.executing.isSome = true from some] at gone
    cases gone
  rw [stopped, State.endedAtOnce, if_neg none]
  rfl

theorem ChanState.raiseUnless (c : ChanState) (p : Prop) [Decidable p] :
    (if p then c else c.raise .motionDone) = { c with flags := if p then c.flags else c.flags ||| 0x004 } := by
  split <;> rfl

/-- The part once STOP_MOTION has ended the executing request `x`, with its axes as `y` has them (R17, R162, R164). -/
def State.requestStopped (s : State) (x : Executing) (y : AxisId → Axis) : State :=
  { s with
    axisH := y .h, axisV := y .v, light := if s.motion.blankHold then s.light.release else s.light
    warp := { s.warp with choice :=
      if x.req.phase = .switching ∧ s.warp.choice.any (fun c => decide (c.origin = .recall x.req.tag)) = true then none
      else s.warp.choice }
    motion := { s.motion with
      executing := none, railTimer := none, blankHold := false, history := s.putFirst .stopped s.motion.history x.req }
    chan := s.chan.raise .motionDone }

section

variable {s : State} {x : Executing} (hx : s.motion.executing = some x) {y : AxisId → Axis}
  (hy : ∀ a : AxisId, (x.req.phase = .switching ∨ x.work a ≠ .active → y a = s.axis a) ∧
    (x.req.phase ≠ .switching → x.work a = .active → (s.axis a).StopRequestedTo (y a)))
include hy

/-- The axes of a request that is not in SWITCHING, each as its stop request leaves it. -/
theorem stopRequested_eq (phase : x.req.phase ≠ .switching) (a : AxisId) :
    y a = if x.work a = .active then (s.axis a).stoppedAside else s.axis a := by
  obtain ⟨spared, asked⟩ := hy a
  split
  · exact (asked phase ‹_›).eq
  · exact spared (.inr ‹_›)

theorem stopRequested_position (a : AxisId) : (y a).position = (s.axis a).position := by
  by_cases phase : x.req.phase = .switching
  · rw [(hy a).1 (.inl phase)]
  · rw [stopRequested_eq hy phase]
    split
    · exact (s.axis a).stoppedAside_position
    · rfl

/-- The part once the stop requests have reached the axes, these as `y` has them. -/
theorem State.stopSent_eq (phase : x.req.phase ≠ .switching) : s.stopSent x =
    { s with axisH := y .h, axisV := y .v, motion := { s.motion with executing := some (x.stopAsked s) } } := by
  rw [stopRequested_eq hy phase, stopRequested_eq hy phase]
  rfl

theorem State.stopSent_putFirst (phase : x.req.phase ≠ .switching) (res : MotionResult) :
    (s.stopSent x).putFirst res = s.putFirst res := by
  rw [State.stopSent_eq hy phase]
  exact State.putFirst_congr (stopRequested_position hy .h) (stopRequested_position hy .v) res

include hx

/-- STOP_MOTION ends a recall in SWITCHING, and a request with no axis in motion (R162). -/
theorem State.stopExecuting_ends (ends : x.req.phase = .switching ∨
    x.req.stopReq = false ∧ ∀ a : AxisId, x.work a = .active → (s.axis a).inMotion = false) :
    s.stopExecuting = s.requestStopped x y := by
  by_cases phase : x.req.phase = .switching
  · have same (a : AxisId) : y a = s.axis a := (hy a).1 (.inl phase)
    rw [State.stopExecuting_switching hx phase, State.withdrawIfSwitching_eq, State.requestStopped, same, same]
    rfl
  · obtain ⟨goes, rests⟩ := ends.resolve_left phase
    have kept : (if x.req.phase = .switching ∧ s.warp.choice.any (fun c => decide (c.origin = .recall x.req.tag)) = true then none
        else s.warp.choice) = s.warp.choice := if_neg fun k => phase k.1
    rw [(State.stopExecuting_fresh hx phase goes).2 rests, State.ended, State.stopSent_putFirst hy phase,
      State.stopSent_eq hy phase, State.requestStopped, kept]
    rfl

omit hx

/-- The queue flushed behind a request that STOP_MOTION has ended (R162, R164). -/
theorem State.requestStopped_flushQueue : (s.requestStopped x y).flushQueue .flushed = { s.requestStopped x y with
    motion := { (s.requestStopped x y).motion with
      queue := [], history := s.motion.queue.foldl (s.putFirst .flushed) (s.putFirst .stopped s.motion.history x.req) } } := by
  have stands : (s.requestStopped x y).putFirst .flushed = s.putFirst .flushed :=
    State.putFirst_congr (stopRequested_position hy .h) (stopRequested_position hy .v) _
  have once : (if s.motion.queue = [] then s.chan.raise .motionDone else (s.chan.raise .motionDone).raise .motionDone) =
      s.chan.raise .motionDone := by
    rw [ChanState.raise_twice, ite_self]
  have flushed := (s.requestStopped x y).flushQueue_eq .flushed
  rw [stands, show (if (s.requestStopped x y).motion.queue = [] then (s.requestStopped x y).chan
    else (s.requestStopped x y).chan.raise .motionDone) = s.chan.raise .motionDone from once] at flushed
  exact flushed

end

/-- Settles O52: STOP_MOTION by what executes, the rail wait timer's expiry, and the three events that end a recall in
SWITCHING. -/
theorem motionRequestsEndEarlyOrAtTheLatch : Obligations.MotionRequestsEndEarlyOrAtTheLatch := by
  have empty {s : State} {n : Nat} (hn : n = s.motion.queue.length) : (if n = 0 then s.chan.flags else s.chan.flags ||| 0x004) =
      if s.motion.queue = [] then s.chan.flags else s.chan.flags ||| 0x004 := if_congr (by rw [hn, List.length_eq_zero_iff]) rfl rfl
  refine ⟨fun s tag takes => ⟨fun idle => ?_, fun x y n flushed after hx hn hflushed hy => ⟨fun ends => ?_, fun phase goes moves hafter => ?_,
    fun phase stop => ?_⟩⟩, fun s x ps live hx queue => ⟨fun y waits hy => ?_, fun c latches phase hc => ?_⟩⟩
  · have rests : s.countTaken.stopExecuting = s.countTaken := by rw [State.stopExecuting, show s.countTaken.motion.executing = none from idle]
    rw [exec_stopMotion_flush takes tag rests rfl, State.flushQueue_eq, ChanState.raiseUnless]
    rfl
  · have stopped := (State.stopExecuting_ends (s := s.countTaken) hx hy ends)
    have whole := s.countTaken.stopMotion_eq
    rw [stopped, State.requestStopped_flushQueue (s := s.countTaken) hy] at whole
    have count : s.countTaken.endedAtOnce s.countTaken.stopExecuting = n + 1 := by
      rw [stopped, State.endedAtOnce, show s.countTaken.motion.executing = some x from hx, hn]
      rfl
    rw [exec_stopMotion takes tag whole count, hflushed]
    exact ⟨_, rfl, State.ended_light s rfl⟩
  · have sent := (State.stopExecuting_fresh (s := s.countTaken) hx phase goes).1 moves
    have runs : s.motion.executing.isSome = (s.countTaken.stopSent x).motion.executing.isSome := by rw [hx]; rfl
    rw [exec_stopMotion_flush takes tag sent runs, State.flushQueue_eq, ChanState.raiseUnless,
      State.stopSent_putFirst (s := s.countTaken) hy phase, State.stopSent_eq (s := s.countTaken) hy phase, empty hn, hflushed, hn, hafter]
    rfl
  · have rests := State.stopExecuting_asked (s := s.countTaken) hx phase stop
    rw [exec_stopMotion_flush takes tag rests rfl, State.flushQueue_eq, ChanState.raiseUnless, empty hn, hflushed, hn]
    rfl
  · have timed : exec .railWaitTimeout s = .next s.railTimeout := congrArg _ (State.whenLive_of_live live _)
    have axes (a : AxisId) : y a = if x.work a = .active then (s.axis a).stoppedAside else s.axis a := by
      obtain ⟨spared, asked⟩ := hy a
      split
      · exact (asked ‹_›).eq
      · exact spared ‹_›
    rw [timed, State.railTimeout_eq hx waits queue, axes .h, axes .v]
    exact ⟨_, rfl, State.ended_light s rfl⟩
  · have completed : x.req.completion = if x.req.clamped then .completedClamped else .completed := rfl
    rw [← completed]
    rcases hc with ⟨rfl, armed, settled, rfl⟩ | ⟨locked, rfl, blank, ⟨f, hf, waits⟩, notDue, rfl⟩ |
      ⟨locked, older, f, frames, out, waits, rfl, starts⟩
    · have expires : exec .silenceExpiry s = .next s.silenceEnds := by
        rw [exec_silenceExpiry live armed, s.silenceExpires_eq, settled]
        rfl
      obtain ⟨⟨done, motion, light⟩, choice, active, cooled⟩ := State.silenceEnds_switching hx phase queue
      exact ⟨_, expires, done, motion, fun _ => cooled, fun _ => ⟨choice, active⟩, nofun, light⟩
    · have begun : exec (.inputActiveLine ps) s = .next (s.beginFrame (storedLine ps)) := by
        rw [exec_inputActiveLine (s.linked_iff.2 ⟨live, locked⟩), State.activeLine, if_pos blank, State.inputFrameStart,
          s.startDueFirst_of_not_due notDue]
      have overtakes : s.warp.overtakes = true := s.warp.overtakes_iff.2 ⟨f, hf, waits⟩
      obtain ⟨⟨done, motion, light⟩, choice, active⟩ := State.beginFrame_switching hx phase queue overtakes (storedLine ps)
      exact ⟨_, begun, done, motion, nofun, fun _ => ⟨choice, active⟩, nofun, light⟩
    · rcases starts with ⟨rfl, now⟩ | ⟨rfl, blank, now⟩
      · have due := Warp.frameStartDue_newest frames waits now
        have begun := exec_outputFrameStart (s.linked_iff.2 ⟨live, locked⟩)
        obtain ⟨⟨done, motion, light⟩, choice, active, -⟩ := State.outputFrameStart_switching hx phase queue due
        exact ⟨_, begun, done, motion, nofun, nofun, fun _ => ⟨choice, active⟩, light⟩
      · have due : (s.setLineTime (s.warp.lineTime + 1)).warp.frameStartDue = true :=
          Warp.frameStartDue_newest (s := s.setLineTime (s.warp.lineTime + 1)) frames waits now
        have begun : exec (.inputActiveLine ps) s = .next (s.inputFrameStart (storedLine ps)) := by
          rw [exec_inputActiveLine (s.linked_iff.2 ⟨live, locked⟩), State.activeLine, if_pos blank]
        obtain ⟨⟨done, motion, light⟩, choice, active⟩ := State.inputFrameStart_switching hx phase queue due (storedLine ps)
        exact ⟨_, begun, done, motion, nofun, nofun, fun _ => ⟨choice, active⟩, light⟩

end Sys2Proof.Machine
end

section
/-! PROOF. O48: motion requests that are refused or queued, and a head that its queue starts by an event. -/

namespace Sys2Proof.Machine

/-! ### Requests as the queue takes them (R152) -/

section

variable {s : State} {tag : Byte} {j : Job}

/-- In STANDBY and TRIPPED no request is taken (R152). -/
theorem enqueue_still (still : s.ctl.op.moves = false) : enqueue tag j s = answer .refusedState s := by
  rw [enqueue, still]
  rfl

theorem enqueue_full (moves : s.ctl.op.moves = true) (full : s.motion.queue.length = 8) : enqueue tag j s = answer .refusedFull s := by
  rw [enqueue, moves, full]
  rfl

/-- A queue that may not start its head starts nothing (R153). -/
theorem State.pump_of_not_mayStart (waits : s.mayStart = false) : s.pump = s := by
  unfold State.pump
  cases hq : s.motion.queue with
  | nil => rfl
  | cons r rest => simp [State.startHeads, hq, waits]

/-- A request joins the back of a queue that may not start its head (R152). -/
theorem enqueue_waits (moves : s.ctl.op.moves = true) (room : s.motion.queue.length < 8) (waits : s.mayStart = false) :
    enqueue tag j s = (s.append (.fresh tag j), { result := .queued, data := byte (s.motion.queue.length + 1) }) := by
  have still : (s.append (.fresh tag j)).pump = s.append (.fresh tag j) := State.pump_of_not_mayStart waits
  rw [enqueue, moves, still]
  exact if_neg (Nat.not_le.2 room)

theorem State.mayStart_of_busy (busy : s.motion.executing ≠ none ∨ s.axisH.state ≠ .idle ∨ s.axisV.state ≠ .idle) :
    s.mayStart = false := by
  rcases busy with h | h | h <;> simp [State.mayStart, h]

/-- The packet of a request within its ranges hands its job to the queue (R152). -/
theorem State.Requests.exec_eq {c : Instr} (h : s.Requests c tag j) :
    ∃ run : Owner, exec c s = .next (s.takePacket tag run) ∧ run s.countTaken = enqueue tag j s.countTaken := by
  rcases h with ⟨a, b, target, hb, rfl, rfl⟩ | ⟨a, b, delta, hb, low, high, rfl, rfl⟩ | ⟨rfl, rfl⟩ | ⟨rfl, rfl⟩ | ⟨rfl, rfl⟩ |
    ⟨b, n, hb, valid, rfl, rfl⟩
  · refine ⟨_, rfl, ?_⟩
    rw [moveAxis, AxisId.ofCode_of_eq hb]
  · refine ⟨_, rfl, ?_⟩
    rw [stepAxis, AxisId.ofCode_of_eq hb]
    exact if_pos (by simp [within, low, high])
  · exact ⟨_, rfl, rfl⟩
  · exact ⟨_, rfl, rfl⟩
  · exact ⟨_, rfl, rfl⟩
  · refine ⟨_, rfl, ?_⟩
    have stored : (s.countTaken.motion.presets[n]).valid = true := valid
    rw [recallPreset, index_of_eq n hb]
    dsimp only
    rw [stored]
    rfl

/-- A request that an idle queue takes starts at once (R152, R153). -/
theorem State.Requests.exec_starts {c : Instr} (h : s.Requests c tag j) (takes : s.takes) (queue : s.motion.queue = [])
    (start : s.mayStart = true) : exec c s = .next ((s.startRequest (.fresh tag j)).besides s.motion.queue (s.chan.taken + 1)
      (s.chan.entries ++ [{ tag := tag, reply := { result := .queued, data := [1] } }])) := by
  obtain ⟨run, he, owner⟩ := h.exec_eq
  rw [he, s.takePacket_enqueue takes queue start tag j owner]

end

/-! ### Events that start the head of the queue (R153) -/

/-- The part with another list of answers under construction. -/
def State.listed (s : State) (n : Nat) (es : List Entry) : State := s.besides s.motion.queue n es

theorem State.pump_listed (s : State) : s.pump.listed s.chan.taken s.chan.entries = s.pump := by
  have chan := s.pump_frame.chan
  have taken : s.pump.chan.taken = s.chan.taken := (congrArg ChanState.taken chan :)
  have entries : s.pump.chan.entries = s.chan.entries := (congrArg ChanState.entries chan :)
  rw [← taken, ← entries]
  rfl

/-- Whatever is queued in state `s`, event `e` comes to state `w` with the same records queued and then to what the queue starts;
`n` and `es` are the answers under construction meanwhile, `n'` and `es'` after the event. -/
structure State.StartsHead (s : State) (e : Instr) (w : State) (n n' : Nat) (es es' : List Entry) : Prop where
  resetAsserted : w.resetAsserted = s.resetAsserted
  locked : w.locked = s.locked
  pending : w.ctl.resetPending = s.ctl.resetPending
  runs : ∀ q, exec e (s.besides q s.chan.taken s.chan.entries) = .next ((w.besides q n es).pump.listed n' es')

/-- Where an event starts the head, it does what the head's command does once the event has come to an empty queue, the answers
apart (R153). -/
theorem State.StartsHead.exec_eq {s w u v : State} {e c : Instr} {n n' : Nat} {es es' : List Entry} (h : s.StartsHead e w n n' es es')
    (takes : s.takes) {tag : Byte} {j : Job} {rest : List Request} (queue : s.motion.queue = .fresh tag j :: rest)
    (empty : exec e (s.besides [] s.chan.taken s.chan.entries) = .next u) (start : u.mayStart = true) (requests : u.Requests c tag j)
    (started : exec c (u.listed s.chan.taken s.chan.entries) = .next v) (follows : v.motion.executing ≠ none ∨ rest = []) :
    exec e s = .next ((v.besides rest u.chan.taken u.chan.entries)) := by
  have came : (w.besides [] n es).pump.listed n' es' = w.besides [] n' es' := by rw [State.pump_empty _ rfl]; rfl
  obtain rfl : w.besides [] n' es' = u := by
    have eq := (h.runs []).symm.trans empty
    rw [came] at eq
    exact Host.Outcome.next.inj eq
  let t := w.besides [] s.chan.taken s.chan.entries
  have takes' : t.takes := by
    obtain ⟨live, locked, settled, room⟩ := takes
    exact ⟨h.resetAsserted.trans live, h.locked.trans locked, h.pending.trans settled, room⟩
  have ran : exec c t = _ := State.Requests.exec_starts (s := t) requests takes' rfl start
  obtain rfl : _ = v := Host.Outcome.next.inj (ran.symm.trans started)
  have head := (w.besides (.fresh tag j :: rest) n es).pump_head 0 [] (.fresh tag j) rest rfl start
  rw [besides_besides, besides_startRequest, besides_startRequest] at head
  rw [besides_startRequest] at follows ⊢
  have run := h.runs s.motion.queue
  rw [queue, head (follows.imp_left Option.isSome_iff_ne_none.2), ← queue, besides_self] at run
  exact run

/-- What event `e` comes to in state `s` lets the queue start no more than it might before (R153). -/
def State.LeavesHead (s : State) (e : Instr) : Prop :=
  ∀ u, exec e (s.besides [] s.chan.taken s.chan.entries) = .next u →
    u.motion.executing = s.motion.executing ∧ (u.axisH.state = .idle → s.axisH.state = .idle) ∧
    (u.axisV.state = .idle → s.axisV.state = .idle)

theorem State.LeavesHead.of_eq {s u : State} {e : Instr} (run : exec e (s.besides [] s.chan.taken s.chan.entries) = .next u)
    (executing : u.motion.executing = s.motion.executing) (axisH : u.axisH.state = .idle → s.axisH.state = .idle)
    (axisV : u.axisV.state = .idle → s.axisV.state = .idle) : s.LeavesHead e := by
  intro v hv
  cases run.symm.trans hv
  exact ⟨executing, axisH, axisV⟩

end Sys2Proof.Machine
end

section
/-! PROOF. O48: the events that may start the head of the queue, each by what it comes to before the queue is judged. -/

namespace Sys2Proof.Machine

/-! ### An axis comes to rest with word to the queue (R140, R142 to R146) -/

/-- An axis that hands nothing over at a profile tick comes to rest in IDLE only where it rested there before. -/
theorem Axis.tick_rests {x : Axis} (quiet : x.tick.2 = .quiet) (rests : x.tick.1.state = .idle) : x.state = .idle := by
  have homing (v : Nat) : (x.homingTick v).2 = .quiet → (x.homingTick v).1.state = x.state := by
    unfold Axis.homingTick
    dsimp only
    split
    · exact nofun
    · exact fun _ => rfl
  have leg (l : Leg) : (x.legTick l).2 = .quiet → (x.legTick l).1.state = x.state := by
    unfold Axis.legTick
    dsimp only
    split
    · unfold Axis.legEnds
      split <;> exact nofun
    · exact fun _ => rfl
  have stop (l : Leg) : (x.stopTick l).2 = .quiet → (x.stopTick l).1.state = x.state := by
    unfold Axis.stopTick
    generalize (if x.vel < x.vstart then x.vel else max (x.vel - x.accel) x.vstart) = v
    dsimp only
    split
    · exact nofun
    · exact fun _ => rfl
  rcases x.tick_cases with ⟨-, e⟩ | ⟨-, e⟩ | ⟨l, -, -, e⟩ | ⟨l, -, -, e⟩ | ⟨-, -, -, e⟩ <;> rw [e] at quiet rests
  · exact (homing _ quiet).symm.trans rests
  · exact (homing _ quiet).symm.trans rests
  · exact (leg l quiet).symm.trans rests
  · exact (stop l quiet).symm.trans rests
  · exact rests

theorem Axis.setInput_state (x : Axis) (e : EndStop) (selected : Bool) : (x.setInput e selected).state = x.state := by
  unfold Axis.setInput
  split <;> rfl

theorem Axis.latch_state (x : Axis) (e : EndStop) : (x.latch e).state = x.state := by
  unfold Axis.latch
  split <;> rfl

/-- So does an axis whose end-stop becomes active (R135, R141, R143, R144). -/
theorem Axis.inputEdge_rests {x : Axis} {e : EndStop} (quiet : (x.inputEdge e).2 = .quiet) (rests : (x.inputEdge e).1.state = .idle) :
    x.state = .idle := by
  have low (y : Axis) : y.lowBecomesActive.2 = .quiet → y.lowBecomesActive.1.state = .idle → y.state = .idle := by
    unfold Axis.lowBecomesActive
    cases hs : y.state <;> simp [Axis.beginRelease, hs]
    split <;> simp [hs]
  have high (y : Axis) : y.highBecomesActive.2 = .quiet → y.highBecomesActive.1.state = .idle → y.state = .idle := by
    unfold Axis.highBecomesActive
    cases hs : y.state <;> simp [hs]
    split <;> simp [hs]
  have same : ((x.setInput e true).latch e).state = x.state := (Axis.latch_state _ e).trans (x.setInput_state e true)
  unfold Axis.inputEdge at quiet rests
  dsimp only at quiet rests
  rw [← same]
  split at quiet
  · rename_i enabled
    rw [if_pos enabled] at rests
    split at quiet
    · rename_i isLow
      rw [if_pos isLow] at rests
      exact low _ quiet rests
    · rename_i isHigh
      rw [if_neg isHigh] at rests
      exact high _ quiet rests
  · rename_i disabled
    rw [if_neg disabled] at rests
    exact same.trans ((x.setInput_state e true).symm.trans rests)

/-- And one whose end-stop becomes inactive (R142). -/
theorem Axis.inputInactive_rests {x : Axis} {e : EndStop} (quiet : (x.inputInactive e).2 = .quiet)
    (rests : (x.inputInactive e).1.state = .idle) : x.state = .idle := by
  have low (y : Axis) : y.lowBecomesInactive.2 = .quiet → y.lowBecomesInactive.1.state = .idle → y.state = .idle := by
    unfold Axis.lowBecomesInactive
    cases hs : y.state <;> simp [hs]
  unfold Axis.inputInactive at quiet rests
  dsimp only at quiet rests
  rw [← x.setInput_state e false]
  split at quiet
  · rename_i enabled
    rw [if_pos enabled] at rests
    exact low _ quiet rests
  · rename_i disabled
    rw [if_neg disabled] at rests
    exact rests

/-! ### The events of the axes, of the rail and of the output (R143, R144, R156, R157, R160) -/

/-- An event starts the head of the queue, or leaves it waiting as it did (R153). -/
def State.HeadEvent (s : State) (e : Instr) : Prop := (∃ w n n' es es', s.StartsHead e w n n' es es') ∨ s.LeavesHead e

/-- An event that comes to state `w` and then to what the queue starts. -/
theorem State.HeadEvent.of_pump {s w : State} {e : Instr} (resetAsserted : w.resetAsserted = s.resetAsserted)
    (locked : w.locked = s.locked) (ctl : w.ctl = s.ctl)
    (run : ∀ q, exec e (s.besides q s.chan.taken s.chan.entries) = .next (w.besides q s.chan.taken s.chan.entries).pump) :
    s.HeadEvent e := by
  refine .inl ⟨w, s.chan.taken, s.chan.taken, s.chan.entries, s.chan.entries, resetAsserted, locked,
    congrArg StateCtl.resetPending ctl, fun q => ?_⟩
  rw [run]
  exact congrArg _ (w.besides q s.chan.taken s.chan.entries).pump_listed.symm

/-- So does an event that comes to `w` by the queue's own means. -/
theorem State.HeadEvent.of_frame {s w : State} {e : Instr} (frame : QueueFrame s w)
    (run : ∀ q, exec e (s.besides q s.chan.taken s.chan.entries) = .next (w.besides q s.chan.taken s.chan.entries).pump) :
    s.HeadEvent e := .of_pump frame.resetAsserted frame.locked frame.ctl run

section

variable {s : State} (live : s.resetAsserted = false)
include live

theorem State.headEvent_railWaitTimeout : s.HeadEvent .railWaitTimeout := by
  have run (q : List Request) : exec .railWaitTimeout (s.besides q s.chan.taken s.chan.entries) =
      .next (s.besides q s.chan.taken s.chan.entries).railTimeout :=
    congrArg _ (State.whenLive_of_live (s := s.besides q s.chan.taken s.chan.entries) live State.railTimeout)
  by_cases waits : ∃ x, s.motion.executing = some x ∧ x.req.phase = .waitRail
  · obtain ⟨x, hx, phase⟩ := waits
    refine .of_frame ((queueFrame_closed s).stopRequestAxes x ((queueFrame_closed s).endRequest .railTimeout (.refl s))) fun q => ?_
    rw [run, State.railTimeout, besides_executing, hx]
    dsimp only
    rw [if_pos phase, besides_endRequest, besides_stopRequestAxes]
  · have nothing : (s.besides [] s.chan.taken s.chan.entries).railTimeout = s.besides [] s.chan.taken s.chan.entries := by
      unfold State.railTimeout
      split
      · rfl
      · exact if_neg fun phase => waits ⟨_, ‹_›, phase⟩
    exact .inr (.of_eq (run []) (by rw [nothing]; rfl) (by rw [nothing]; exact id) (by rw [nothing]; exact id))

theorem State.headEvent_profileTick : s.HeadEvent .profileTick := by
  have run (q : List Request) : exec .profileTick (s.besides q s.chan.taken s.chan.entries) =
      .next (s.besides q s.chan.taken s.chan.entries).profileTick :=
    exec_profileTick (s := s.besides q s.chan.taken s.chan.entries) live
  let c := queueFrame_closed s
  by_cases quiet : s.axisH.tick.2 = .quiet ∧ s.axisV.tick.2 = .quiet
  · have ticked : (s.besides [] s.chan.taken s.chan.entries).profileTick = s.ticked.besides [] s.chan.taken s.chan.entries := if_pos quiet
    obtain ⟨quietH, quietV⟩ := quiet
    exact .inr (.of_eq ((run []).trans (congrArg _ ticked)) rfl (Axis.tick_rests quietH) (Axis.tick_rests quietV))
  · have ticked : QueueFrame s s.ticked := c.axis _ .v s.axisV.tick.1 (c.axis _ .h s.axisH.tick.1 (.refl s))
    refine .of_frame (c.carryOn carryFuel (c.takeEvent .v s.axisV.tick.2 (c.takeEvent .h s.axisH.tick.2 ticked))) fun q => ?_
    have goes : (s.besides q s.chan.taken s.chan.entries).profileTick =
        (((s.ticked.besides q s.chan.taken s.chan.entries).takeEvent .h s.axisH.tick.2).takeEvent .v s.axisV.tick.2).proceed :=
      if_neg quiet
    rw [run, goes, besides_takeEvent, besides_takeEvent, State.proceed, besides_carryOn]

omit live in
/-- What an axis hands over at a change of its end-stop is taken, and the queue goes on (R135, R142 to R144). -/
theorem State.headEvent_afterEvent {e : Instr} {a : AxisId} {y : Axis} {ev : AxisEvent}
    (rests : ev = .quiet → y.state = .idle → (s.axis a).state = .idle)
    (run : ∀ q, exec e (s.besides q s.chan.taken s.chan.entries) =
      .next (((s.besides q s.chan.taken s.chan.entries).setAxis a y).afterEvent a ev)) : s.HeadEvent e := by
  let c := queueFrame_closed s
  by_cases quiet : ev = .quiet
  · have set := (run []).trans (congrArg _ (if_pos quiet))
    cases a with
    | h => exact .inr (.of_eq set rfl (rests quiet) id)
    | v => exact .inr (.of_eq set rfl id (rests quiet))
  · refine .of_frame (c.carryOn carryFuel (c.takeEvent a ev (c.axis _ a y (.refl s)))) fun q => ?_
    rw [run, State.afterEvent, if_neg quiet, besides_setAxis, besides_takeEvent, State.proceed, besides_carryOn]

theorem State.headEvent_endstopEdge (i : EndStop) : s.HeadEvent (.endstopEdge i) := by
  refine State.headEvent_afterEvent (a := endAxis i) (Axis.inputEdge_rests (e := i)) fun q => ?_
  have run : exec (.endstopEdge i) (s.besides q s.chan.taken s.chan.entries) =
      .next ((s.besides q s.chan.taken s.chan.entries).endstopEdge i) :=
    congrArg Host.Outcome.next (if_pos (congrArg (!·) live))
  rw [run, State.endstopEdge, besides_axis]

theorem State.headEvent_endstopInactive (i : EndStop) : s.HeadEvent (.endstopInactive i) := by
  refine State.headEvent_afterEvent (a := endAxis i) (Axis.inputInactive_rests (e := i)) fun q => ?_
  have run : exec (.endstopInactive i) (s.besides q s.chan.taken s.chan.entries) =
      .next ((s.besides q s.chan.taken s.chan.entries).endstopInactive i) :=
    congrArg Host.Outcome.next (if_pos (congrArg (!·) live))
  rw [run, State.endstopInactive, besides_axis]

end

/-! ### The output frame start (R11, R160) -/

/-- The part at an output frame start, before a recall in SWITCHING ends (R11). -/
def State.frameBegun (s : State) : State :=
  (s.endOutput false).enterOutput.latch.setStats (s.endOutput false).enterOutput.latch.stats.beginFrame

section

variable (s : State)

theorem besides_endOutput (q : List Request) (n : Nat) (es : List Entry) (b : Bool) :
    (s.besides q n es).endOutput b = (s.endOutput b).besides q n es := by
  unfold State.endOutput
  change (match s.warp.inOutput with | none => _ | some f => _) = _
  cases s.warp.inOutput <;> rfl

theorem besides_frameBegun (q : List Request) (n : Nat) (es : List Entry) :
    (s.besides q n es).frameBegun = s.frameBegun.besides q n es := by
  rw [State.frameBegun, State.frameBegun, besides_endOutput, State.latch_eq, State.latch_eq]
  rfl

theorem State.frameBegun_eq : s.frameBegun = { s with
    warp := s.frameBegun.warp, stats := s.frameBegun.stats, chan := s.frameBegun.chan } := by
  rw [State.frameBegun, State.latch_eq, State.enterOutput, State.endOutput_eq]
  rfl

end

theorem State.headEvent_outputFrameStart {s : State} (linked : s.linked = true) : s.HeadEvent .outputFrameStart := by
  have run (q : List Request) : exec .outputFrameStart (s.besides q s.chan.taken s.chan.entries) =
      .next (s.besides q s.chan.taken s.chan.entries).outputFrameStart :=
    exec_outputFrameStart (s := s.besides q s.chan.taken s.chan.entries) linked
  by_cases due : s.warp.frameStartDue = true
  · have starts (q : List Request) : (s.besides q s.chan.taken s.chan.entries).outputFrameStart =
        (s.frameBegun.besides q s.chan.taken s.chan.entries).endSwitching := by
      rw [← besides_frameBegun]
      exact if_pos due
    have begun := s.frameBegun_eq
    have executing : s.frameBegun.motion.executing = s.motion.executing := by rw [begun]
    by_cases switching : ∃ x, s.motion.executing = some x ∧ x.req.phase = .switching
    · obtain ⟨x, hx, phase⟩ := switching
      have frame : QueueFrame s.frameBegun (s.frameBegun.endRequest x.req.completion) :=
        (queueFrame_closed s.frameBegun).endRequest _ (.refl s.frameBegun)
      refine .of_pump (frame.resetAsserted.trans (by rw [begun])) (frame.locked.trans (by rw [begun]))
        (frame.ctl.trans (by rw [begun])) fun q => ?_
      rw [run, starts, State.endSwitching, besides_executing, executing, hx]
      dsimp only
      rw [if_pos phase, besides_endRequest]
    · have nothing : (s.frameBegun.besides [] s.chan.taken s.chan.entries).endSwitching =
          s.frameBegun.besides [] s.chan.taken s.chan.entries :=
        State.endSwitching_of_not fun x hx phase => switching ⟨x, executing.symm.trans hx, phase⟩
      have ran := (run []).trans (congrArg _ ((starts []).trans nothing))
      have axes : s.frameBegun.axisH = s.axisH ∧ s.frameBegun.axisV = s.axisV := by rw [begun]; exact ⟨rfl, rfl⟩
      exact .inr (.of_eq ran executing (by rw [besides_axisH, axes.1]; exact id) (by rw [besides_axisV, axes.2]; exact id))
  · have nothing : (s.besides [] s.chan.taken s.chan.entries).outputFrameStart = s.besides [] s.chan.taken s.chan.entries := if_neg due
    exact .inr (.of_eq ((run []).trans (congrArg _ nothing)) rfl id id)

/-! ### The entries to LIT and COOLDOWN (R117 to R119, R123) -/

theorem besides_leave (s : State) (q : List Request) (n : Nat) (es : List Entry) (old : OpState) :
    (s.besides q n es).leave old = (s.leave old).besides q n es := by
  cases old with
  | lit => exact besides_releaseHold s q n es
  | tripped => rfl
  | standby => rfl
  | cooldown => rfl

section

variable {s : State} {e : Instr} {tag : Byte} {run : Owner} (takes : s.takes)
  (packet : ∀ q, exec e (s.besides q s.chan.taken s.chan.entries) = .next ((s.besides q s.chan.taken s.chan.entries).takePacket tag run))
include takes packet

/-- A packet whose command changes nothing leaves the head of the queue. -/
theorem State.headEvent_same {r : Reply}
    (owner : run (s.besides [] (s.chan.taken + 1) s.chan.entries) = (s.besides [] (s.chan.taken + 1) s.chan.entries, r)) :
    s.HeadEvent e :=
  .inr (.of_eq ((packet []).trans (congrArg _ (State.takePacket_same (s := s.besides [] s.chan.taken s.chan.entries) takes tag owner)))
    rfl id id)

/-- A packet that takes the part to LIT or COOLDOWN starts the head of the queue (R117, R153). -/
theorem State.headEvent_changeState {new : OpState} {r : Reply} (moves : new = .lit ∨ new = .cooldown)
    (owner : ∀ q, run (s.besides q (s.chan.taken + 1) s.chan.entries) =
      ((s.besides q (s.chan.taken + 1) s.chan.entries).changeState new, r)) : s.HeadEvent e := by
  obtain ⟨frame, ctl⟩ := State.leave_frame s.ctl.op (r := s) (s := s.writeOp new) ⟨rfl, rfl, rfl, rfl, rfl, rfl, rfl, rfl, rfl, rfl⟩
  refine .inl ⟨(s.writeOp new).leave s.ctl.op, s.chan.taken + 1, s.chan.taken + 1, s.chan.entries,
    s.chan.entries ++ [{ tag := tag, reply := r }], frame.resetAsserted, frame.locked,
    (congrArg StateCtl.resetPending ctl).trans rfl, fun q => ?_⟩
  have arrives (t : State) : t.arrive new = t.pump := by rcases moves with rfl | rfl <;> rfl
  let t := ((s.writeOp new).leave s.ctl.op).besides q (s.chan.taken + 1) s.chan.entries
  have changed : (s.besides q (s.chan.taken + 1) s.chan.entries).changeState new = t.pump := by
    rw [State.changeState, arrives]
    exact congrArg State.pump (besides_leave (s.writeOp new) q (s.chan.taken + 1) s.chan.entries s.ctl.op)
  have answered : t.pump.addEntry tag r = t.pump.listed (s.chan.taken + 1) (s.chan.entries ++ [{ tag := tag, reply := r }]) := by
    rw [← t.pump_listed]
    rfl
  rw [packet, State.takePacket_work (s := s.besides q s.chan.taken s.chan.entries) takes tag (owner q), changed, answered]

end

section

variable {s : State} (takes : s.takes) (tag : Byte)
include takes

theorem State.headEvent_lightOn : s.HeadEvent (.lightOn tag) := by
  have packet (q : List Request) : exec (.lightOn tag) (s.besides q s.chan.taken s.chan.entries) =
    .next ((s.besides q s.chan.taken s.chan.entries).takePacket tag lightOn) := rfl
  have dark (op : s.ctl.op = .standby ∨ s.ctl.op = .cooldown) : s.HeadEvent (.lightOn tag) := by
    have tries (q : List Request) : lightOn (s.besides q (s.chan.taken + 1) s.chan.entries) =
        tryLight (s.besides q (s.chan.taken + 1) s.chan.entries) := lightOn_of_dark op
    have bar (q : List Request) : (s.besides q (s.chan.taken + 1) s.chan.entries).lightOnBar = s.lightOnBar := rfl
    cases barred : s.lightOnBar with
    | some b => exact State.headEvent_same takes packet (r := .hot b) (by rw [tries, tryLight, bar, barred])
    | none =>
      exact State.headEvent_changeState takes packet (new := .lit) (r := .ok) (.inl rfl) fun q => by
        rw [tries, tryLight, bar, barred]
  cases op : s.ctl.op with
  | standby => exact dark (.inl op)
  | cooldown => exact dark (.inr op)
  | lit => exact State.headEvent_same takes packet (r := .ok) (by rw [lightOn, besides_ctl, op])
  | tripped => exact State.headEvent_same takes packet (r := ⟨.refusedState, []⟩) (by rw [lightOn, besides_ctl, op]; rfl)

theorem State.headEvent_lightOff : s.HeadEvent (.lightOff tag) := by
  have packet (q : List Request) : exec (.lightOff tag) (s.besides q s.chan.taken s.chan.entries) =
    .next ((s.besides q s.chan.taken s.chan.entries).takePacket tag lightOff) := rfl
  by_cases lit : s.ctl.op = .lit
  · exact State.headEvent_changeState takes packet (new := .cooldown) (r := .ok) (.inr rfl) fun q => by
      rw [lightOff, besides_ctl, if_pos lit]
  · exact State.headEvent_same takes packet (r := .ok) (by rw [lightOff, besides_ctl, if_neg lit])

theorem State.headEvent_clearTrip : s.HeadEvent (.clearTrip tag) := by
  have packet (q : List Request) : exec (.clearTrip tag) (s.besides q s.chan.taken s.chan.entries) =
    .next ((s.besides q s.chan.taken s.chan.entries).takePacket tag clearTrip) := rfl
  by_cases tripped : s.ctl.op = .tripped
  · have bar (q : List Request) : (s.besides q (s.chan.taken + 1) s.chan.entries).clearTripBar = s.clearTripBar := rfl
    cases barred : s.clearTripBar with
    | some b => exact State.headEvent_same takes packet (r := .hot b) (by rw [clearTrip, besides_ctl, if_pos tripped, bar, barred])
    | none =>
      exact State.headEvent_changeState takes packet (new := .cooldown) (r := .ok) (.inr rfl) fun q => by
        rw [clearTrip, besides_ctl, if_pos tripped, bar, barred]
  · exact State.headEvent_same takes packet (r := .ok) (by rw [clearTrip, besides_ctl, if_neg tripped])

end

end Sys2Proof.Machine
end

section
/-! PROOF. O48: MOVE_AXIS, STEP_AXIS, HOME and RECALL_PRESET are refused, queued, or started from the head of the queue. -/

namespace Sys2Proof.Machine

theorem HomeSel.ofCode_of_le {b : Byte} (h : 3 ≤ b.toNat) : HomeSel.ofCode b = none := by
  unfold HomeSel.ofCode
  split <;> first | omega | rfl

section

variable {s : State} (takes : s.takes) (tag : Byte) {b : Byte}
include takes

/-- An axis number beyond V is refused (R152). -/
theorem exec_axisRequests_beyond (h : 2 ≤ b.toNat) (target : BitVec 16) (delta : BitVec 24) :
    exec (.moveAxis tag b target) s = .next (s.onlyAnswered tag .refusedRange []) ∧
    exec (.stepAxis tag b delta) s = .next (s.onlyAnswered tag .refusedRange []) := by
  have none := AxisId.ofCode_of_le h
  exact ⟨congrArg _ (State.takePacket_answer takes tag (by rw [moveAxis, none])),
    congrArg _ (State.takePacket_answer takes tag (by rw [stepAxis, none]))⟩

/-- A step beyond the range of positions is refused, whichever axis it names (R152). -/
theorem exec_stepAxis_beyond {delta : BitVec 24} (far : delta.toInt < -65535 ∨ 65535 < delta.toInt) :
    exec (.stepAxis tag b delta) s = .next (s.onlyAnswered tag .refusedRange []) := by
  refine congrArg _ (State.takePacket_answer takes tag ?_)
  have outside : within (-65535) 65535 delta.toInt = false := by
    rw [← Bool.not_eq_true', not_within]
    exact decide_eq_true far
  unfold stepAxis
  rw [outside]
  cases AxisId.ofCode b <;> rfl

theorem exec_home_beyond (h : 3 ≤ b.toNat) : exec (.home tag b) s = .next (s.onlyAnswered tag .refusedRange []) :=
  congrArg _ (State.takePacket_answer takes tag (by rw [home, HomeSel.ofCode_of_le h]))

theorem exec_recallPreset_beyond (h : 12 ≤ b.toNat) : exec (.recallPreset tag b) s = .next (s.onlyAnswered tag .refusedRange []) :=
  congrArg _ (State.takePacket_answer takes tag (by rw [recallPreset, index_of_le h]))

theorem exec_recallPreset_invalid (n : Fin 12) (h : b.toNat = n.val) (invalid : (s.motion.presets[n]).valid = false) :
    exec (.recallPreset tag b) s = .next (s.onlyAnswered tag .refusedState []) := by
  refine congrArg _ (State.takePacket_answer takes tag ?_)
  have stored : (s.countTaken.motion.presets[n]).valid = false := invalid
  rw [recallPreset, index_of_eq n h]
  dsimp only
  rw [stored]
  rfl

/-! ### Requests within their ranges (R152) -/

variable {tag} {c : Instr} {j : Job} (request : s.Requests c tag j)
include request

theorem State.Requests.exec_still (still : s.ctl.op.moves = false) : exec c s = .next (s.onlyAnswered tag .refusedState []) := by
  obtain ⟨run, packet, owner⟩ := request.exec_eq
  rw [packet, State.takePacket_answer takes tag (owner.trans (enqueue_still (s := s.countTaken) still))]

theorem State.Requests.exec_full (moves : s.ctl.op.moves = true) (full : s.motion.queue.length = 8) :
    exec c s = .next (s.onlyAnswered tag .refusedFull []) := by
  obtain ⟨run, packet, owner⟩ := request.exec_eq
  rw [packet, State.takePacket_answer takes tag (owner.trans (enqueue_full (s := s.countTaken) moves full))]

theorem State.Requests.exec_waits (moves : s.ctl.op.moves = true) (room : s.motion.queue.length < 8) (waits : s.mayStart = false) :
    exec c s = .next { s with
      motion := { s.motion with queue := s.motion.queue ++ [.fresh tag j] }
      chan := s.answered tag .queued (byte (s.motion.queue.length + 1)) } := by
  obtain ⟨run, packet, owner⟩ := request.exec_eq
  rw [packet, State.takePacket_work takes tag (owner.trans (enqueue_waits (s := s.countTaken) moves room waits))]
  rfl

end

/-- Each event that may let the queue start its head starts it or leaves it (R153). -/
theorem State.headEvent_of_listed {s : State} {e : Instr} (live : s.resetAsserted = false) (takes : s.takes)
    (listed : e = .railWaitTimeout ∨ e = .profileTick ∨ (∃ i, e = .endstopEdge i) ∨ (∃ i, e = .endstopInactive i) ∨
      e = .outputFrameStart ∨ (∃ other, e = .lightOn other ∨ e = .lightOff other ∨ e = .clearTrip other)) : s.HeadEvent e := by
  rcases listed with rfl | rfl | ⟨i, rfl⟩ | ⟨i, rfl⟩ | rfl | ⟨other, rfl | rfl | rfl⟩
  · exact State.headEvent_railWaitTimeout live
  · exact State.headEvent_profileTick live
  · exact State.headEvent_endstopEdge live i
  · exact State.headEvent_endstopInactive live i
  · obtain ⟨-, locked, -⟩ := takes
    exact State.headEvent_outputFrameStart (s.linked_iff.2 ⟨live, locked⟩)
  · exact State.headEvent_lightOn takes other
  · exact State.headEvent_lightOff takes other
  · exact State.headEvent_clearTrip takes other

/-- An event that leaves a busy part's head does not come to a part that may start it. -/
theorem State.LeavesHead.not_idle {s u : State} {e : Instr} (h : s.LeavesHead e)
    (busy : s.motion.executing ≠ none ∨ s.axisH.state ≠ .idle ∨ s.axisV.state ≠ .idle)
    (empty : exec e (s.besides [] s.chan.taken s.chan.entries) = .next u) (executing : u.motion.executing = none)
    (axisH : u.axisH.state = .idle) : u.axisV.state ≠ .idle := by
  obtain ⟨same, restsH, restsV⟩ := h u empty
  intro axisV
  rcases busy with k | k | k
  · exact k (same.symm.trans executing)
  · exact k (restsH axisH)
  · exact k (restsV axisV)

/-- Settles O48: the refusals in R152's order, a queue that waits, and the events that start its head. -/
theorem motionRequestsAreQueuedOrRefused : Obligations.MotionRequestsAreQueuedOrRefused := by
  refine ⟨fun s tag b target delta takes => ⟨fun h => exec_axisRequests_beyond takes tag h target delta,
    exec_stepAxis_beyond takes tag, exec_home_beyond takes tag, exec_recallPreset_beyond takes tag, fun c job command => ?_, exec_recallPreset_invalid takes tag⟩, ?_⟩
  · have request : s.Requests c tag job := by
      rcases command with ⟨a, hb, hc, hj⟩ | ⟨a, hb, low, high, hc, hj⟩ | ⟨hc, ⟨rfl, hj⟩ | ⟨rfl, hj⟩ | ⟨rfl, hj⟩⟩ | ⟨n, hb, valid, hc, hj⟩
      · exact .inl ⟨a, b, target, hb, hc, hj⟩
      · exact .inr (.inl ⟨a, b, delta, hb, low, high, hc, hj⟩)
      · exact .inr (.inr (.inl ⟨hc, hj⟩))
      · exact .inr (.inr (.inr (.inl ⟨hc, hj⟩)))
      · exact .inr (.inr (.inr (.inr (.inl ⟨hc, hj⟩))))
      · exact .inr (.inr (.inr (.inr (.inr ⟨b, n, hb, valid, hc, hj⟩))))
    refine ⟨fun op => ?_, fun op => ?_⟩
    · exact request.exec_still takes (by rcases op with op | op <;> rw [op] <;> rfl)
    · have moves : s.ctl.op.moves = true := by rcases op with op | op <;> rw [op] <;> rfl
      exact ⟨request.exec_full takes moves, fun room busy => request.exec_waits takes moves room (State.mayStart_of_busy busy)⟩
  · intro s u v e c tag job rest live takes listed queue busy empty executing axisH axisV op request started follows
    rcases State.headEvent_of_listed live takes listed with ⟨w, n, n', es, es', starts⟩ | leaves
    · exact starts.exec_eq takes queue empty (State.mayStart_of_idle op executing axisH axisV) request started follows
    · exact absurd axisV (leaves.not_idle busy empty executing axisH)

end Sys2Proof.Machine
end
